-- ==== Sys2Proof/Word.lean ====
section
/-! DEFINITION. The words of the W4832: bytes of a data port, 16-bit words of the Crossline, 48-bit
addresses, and the sparse table in which the state keeps anything there is one of per port, queue,
tenant, peer or way. -/

namespace Sys2Proof

/-- A byte of a frame, of the configuration image or of a packed field (R161, R167). -/
abbrev Byte := BitVec 8

/-- A data word of the Crossline (R103). -/
abbrev Word := BitVec 16

/-- A 48-bit address, its first carried byte the most significant (R166, R167). -/
abbrev Addr := BitVec 48

/-- A sparse table: pairs of a key and a value. The operations of Machine/Tab.lean keep the keys
strictly rising, so that tables with the same content are the same data. -/
abbrev Tab (α : Type) := List (Nat × α)

end Sys2Proof
end

