-- ==== Sys2Proof/Config.lean ====
section
/-! DEFINITION. What one W4832 holds fixed: the sizes of the part, and the settings that the
configuration image gives it at the acceptance event (R162) and that stay until the next reset. -/

namespace Sys2Proof.Config

/-- Cells of the shared cell buffer (R10). -/
def bufferCells : Nat := 24576

/-- Descriptors of the part (R10). -/
def descriptors : Nat := 8192

/-- Buckets of the address table; each has four ways (section 2.1). -/
def buckets : Nat := 2048

/-- Ways of the address table (section 2.1). -/
def ways : Nat := 8192

/-- Largest value of a 32-bit count (R4, R18, R102, R128). -/
def count32 : Nat := 4294967295

/-- Largest value of a 48-bit byte accumulator (R128). -/
def count48 : Nat := 281474976710655

/-- Largest value of the clamped-field count (R162). -/
def count16 : Nat := 65535

/-- The data ports 0 to 20: A0 to A15, U0, U1, C0 to C2 (section 0, Conventions). -/
def allPorts : List Nat := List.range 21

/-- The access ports A0 to A15. -/
def accessPorts : List Nat := List.range 16

/-- The cross ports C0 to C2. -/
def crossPorts : List Nat := [18, 19, 20]

/-- The port number of uplink U0. -/
def u0 : Nat := 16

/-- The port number of uplink U1. -/
def u1 : Nat := 17

/-- The spine paths P0 to P7 (R64). -/
def paths : List Nat := List.range 8

/-- The switching stations of a group (section 0.1). -/
def stations : List Nat := [0, 1, 2, 3]

/-- The tenants 1 to 255 (section 0, Terms). -/
def tenants : List Nat := List.range' 1 255

/-- The three kinds of data port (R48). -/
inductive PortKind where
  | access
  | uplink
  | cross
  deriving DecidableEq, Repr

/-- The kind of a port, fixed by its number (R48). -/
def portKind (p : Nat) : PortKind :=
  if p < 16 then .access else if p < 18 then .uplink else .cross

/-- Where a tenant map entry applies: one access port, or the two uplinks together (R5). -/
inductive Scope where
  | access (port : Nat)
  | spine
  deriving DecidableEq, Repr

/-- One entry of the tenant map (R5). -/
structure MapEntry where
  scope  : Scope
  tag    : Nat
  tenant : Nat
  deriving DecidableEq, Repr

/-- What the tenant table gives one tenant (R162): its committed share (R11), tariffs and
tariff-valid mark (R140, R141), method code and resolved method (R142) and inexact suppression
(R147). A tenant whose mark is clear has no tariff values in use, and 0 stands in the three fields. -/
structure TenantSettings where
  share      : Nat
  rc         : Nat
  re         : Nat
  rd         : Nat
  valid      : Bool
  methodCode : Nat
  method     : Nat
  suppress   : Bool
  deriving DecidableEq, Repr

/-- The settings of the part (R172). -/
structure Settings where
  groupMethod    : Nat
  prescale       : Nat
  t1             : Nat
  t2             : Nat
  t3             : Nat
  classMap       : List Nat
  stageAccess    : Nat
  stageUplink    : Nat
  stageCross     : Nat
  errorLimit     : Nat
  flapLimit      : Nat
  ageLimit       : Nat
  heldLimit      : Nat
  showLimit      : Nat
  maxShed        : Nat
  excessCut      : Nat
  shedLevel      : Nat
  returnLevel    : Nat
  lendLimit      : Nat
  withdrawLevel  : Nat
  homes          : List Nat
  portBase       : Addr
  holdTime       : Nat
  hysteresis     : Nat
  marks          : List Nat
  holdMark       : Nat
  releaseMark    : Nat
  excessReserve  : Nat
  queueLimits    : List Nat
  tenantMap      : List MapEntry
  tenantTable    : Tab TenantSettings
  deriving DecidableEq, Repr

/-- The home uplinks before an image is accepted, and for a home field that is neither 0 nor 1 (R64). -/
def defaultHomes : List Nat := [0, 0, 0, 0, 1, 1, 1, 1]

/-- The settings after reset and in UNCONFIGURED: the values their owning rules state (tenant map R5,
class map R7, homes R64, tariffs R141), and for every other setting the value it is read as from image
bytes of zero (R162). -/
def Settings.reset : Settings :=
  { groupMethod := 4, prescale := 256, t1 := 256, t2 := 256, t3 := 256
    classMap := [0, 0, 0, 0, 0, 0, 0, 0]
    stageAccess := 1, stageUplink := 1, stageCross := 1
    errorLimit := 1, flapLimit := 1, ageLimit := 2, heldLimit := 256, showLimit := 1
    maxShed := 1, excessCut := 1, shedLevel := 1, returnLevel := 0, lendLimit := 1, withdrawLevel := 1
    homes := defaultHomes, portBase := 0, holdTime := 1, hysteresis := 0
    marks := [1, 2, 3, 4, 5], holdMark := 1, releaseMark := 0, excessReserve := 0
    queueLimits := List.replicate 12 bufferCells
    tenantMap := [], tenantTable := [] }

end Sys2Proof.Config
end

