-- ==== Sys2Proof/Syntax.lean ====
section
/-! DEFINITION. The commands of the part: one constructor for each row of spec/opcode_table.json, with the
operands the spec's rules give the event. The part has no register window, so a command is an event that
reaches it: a tick, a report, a frame, a word on the Crossline, or the taking of an event that one block has
raised for another. -/

namespace Sys2Proof

/-- A code word of the Crossline: the sync word, the fill word or a data word (R103). -/
inductive LineWord where
  | sync
  | fill
  | data (w : Word)
  deriving DecidableEq, Repr

/-- A frame as a data port received it: its bytes, group header and frame check included, and, where the port has left UP and
SUSPECT since its reception began, whether its last byte had come before that (R1, R24). -/
structure ReceivedFrame where
  bytes       : List Byte
  beforeFault : Bool
  deriving DecidableEq, Repr

/-- The blocks that take the report tick, each as an event of its own (R165). -/
inductive ReportUser where
  | egressScheduler
  | reliefController
  | pathUnit
  | peerView
  | levelBuilder
  | billingQueue
  deriving DecidableEq, Repr

/-- The blocks that take the age tick, each as an event of its own (R165). -/
inductive AgeUser where
  | addressTable
  | linkSupervisor
  | peerView
  deriving DecidableEq, Repr

/-- The commands, one for each row of spec/opcode_table.json in the table's order. -/
inductive Instr where
  /-- RESET (R160): the straps as sampled at reset release, and the signal each receiver reports then (R48). -/
  | reset (straps : Fin 4) (signals : BitVec 21)
  /-- IMAGE_LOAD_END (R161): the bytes the EEPROM acknowledged and gave, from byte 0; it acknowledges none after them. -/
  | imageLoadEnd (bytes : List Byte)
  /-- FINE_TICK (R164). -/
  | fineTick
  /-- PRESCALER_OUTPUT (R165). -/
  | prescalerOutput
  /-- REPORT_TICK (R165), as taken by one of its users. -/
  | reportTick (user : ReportUser)
  /-- AGE_TICK (R165), as taken by one of its users. -/
  | ageTick (user : AgeUser)
  /-- ENTRY_AGED_OUT (R23): the Address Table's age tick that brings the entry of one way to the age limit. -/
  | entryAgedOut (way : Fin 8192)
  /-- EPOCH_CLOSE (R130). -/
  | epochClose
  /-- WINDOW_END (R50), as taken by one port. -/
  | windowEnd (port : Fin 21)
  /-- SIGNAL_PRESENT (R49). -/
  | signalPresent (port : Fin 21)
  /-- SIGNAL_LOST (R55). -/
  | signalLost (port : Fin 21)
  /-- LINE_CODE_ERROR (R49). -/
  | lineCodeError (port : Fin 21)
  /-- FRAME_RECEPTION (R2): the reception of a frame on a port has ended. -/
  | frameReception (port : Fin 21) (frame : ReceivedFrame)
  /-- ADMISSION (R12) of the oldest arrival record that waits from one arrival port. -/
  | admission (port : Fin 21)
  /-- COPY_TRANSMITTED (R39). -/
  | copyTransmitted (port : Fin 21)
  /-- HOLD_FRAME_END (R41). -/
  | holdFrameEnd (port : Fin 21)
  /-- RECEIVED_HOLD_TIMER_EXPIRY (R43). -/
  | receivedHoldTimerExpiry (port : Fin 21)
  /-- HELD_LIMIT_FLUSH (R45): the Egress Scheduler's report tick that brings one port to the held limit. -/
  | heldLimitFlush (port : Fin 21)
  /-- RENEW_TIMER_EXPIRY (R94) of one access port. -/
  | renewTimerExpiry (port : Fin 16)
  /-- CHANGE_EVENT (R87): the oldest change event that waits at the Relief Controller. -/
  | changeEvent
  /-- USAGE_REPORT (R129): the oldest usage report that waits at the Usage Meter. -/
  | usageReport
  /-- REFUSAL_REPORT (R129): the oldest refusal report. -/
  | refusalReport
  /-- LOSS_REPORT (R129): the oldest loss report. -/
  | lossReport
  /-- SCAN_STEP (R30). -/
  | scanStep
  /-- PEER_STALE (R121): the Peer View's report tick that brings one peer's missed count to 3. -/
  | peerStale (peer : Fin 4)
  /-- SHOW_LIMIT_LAPSE (R157): the Billing Record Queue's report tick that brings the show timer to the show limit. -/
  | showLimitLapse
  /-- REQUEST_TIMEOUT (R78): the Path Unit's report tick that brings the timer of a REQUESTED record to 0. -/
  | requestTimeout (peer : Fin 4)
  /-- UPGRADE_TIMEOUT (R75): the Path Unit's report tick that brings the timer of an upgrade to 0. -/
  | upgradeTimeout (peer : Fin 4)
  /-- EXCLUSION_EXPIRY (R70): the Path Unit's report tick that brings an exclusion timer to 0. -/
  | exclusionExpiry (peer : Fin 4)
  /-- SHED_REQUEST (R73). -/
  | shedRequest
  /-- RETURN_REQUEST (R73). -/
  | returnRequest
  /-- CROSSLINE_FRAME_RECEIVED (R104): the next words the receiver takes, to the end of a frame. -/
  | crosslineFrameReceived (words : List LineWord)
  /-- FRAME_START (R105): the words of the gap up to the boundary, then what the station reads back for its
  two sync words and its claim. -/
  | frameStart (gap : List LineWord) (sync1 sync2 claim : LineWord)
  /-- ATTEMPT_FAILED (R107): how many further words read back as driven, then the word that did not. -/
  | attemptFailed (good : Nat) (read : LineWord)
  /-- FRAME_SENT (R114). -/
  | frameSent
  /-- LEVEL (R120): the act on the oldest notice. -/
  | levelNotice
  /-- ADDRESS (R27). -/
  | addressNotice
  /-- BORROW (R80). -/
  | borrowNotice
  /-- GRANT (R74). -/
  | grantNotice
  /-- WITHDRAW (R76). -/
  | withdrawNotice
  /-- RETURN (R81). -/
  | returnNotice
  /-- BILL_FETCH_PLAIN (R155). -/
  | billFetchPlain
  /-- BILL_FETCH_REPEAT (R156). -/
  | billFetchRepeat
  /-- STATUS_FETCH (R116). -/
  | statusFetch
  /-- RATING_STEP (R134). -/
  | ratingStep
  /-- COMPUTATION_END (R135). -/
  | computationEnd
  /-- SLOT_FREED (R137). -/
  | slotFreed
  /-- FRAME_ACQUIRED (R104): the words before a frame that another station starts; its two sync words follow. -/
  | frameAcquired (gap : List LineWord)
  /-- RECEPTION_BEGINS (R1). -/
  | receptionBegins (port : Fin 21)
  deriving DecidableEq, Repr

end Sys2Proof
end

