-- ==== Sys2Proof/Decode.lean ====
section
/-! DEFINITION. The command that a word spells by the bits of spec/opcode_table.json. The part has no register window and no
instruction words: its table gives no row any bits, so no word spells a command, and a command reaches the part only as an
event of its own. -/

namespace Sys2Proof

/-- The command that a word of nbits bits spells by the table: none, since the table gives no row bits. -/
def decodeTableWord (nbits w : Nat) : Option Instr :=
  match nbits, w with
  | _, _ => none

end Sys2Proof
end

