-- ==== Sys2Proof/Machine/State.lean ====
section
/-! DEFINITION. The state of one W4832, block by block (Figure 0-1), as plain data, and its value right after
reset. A field marked MODEL'S OWN is not named by the spec: it holds an event that one block has raised and
another has not taken yet, or what a frame in transit needs (notes/assumptions/3.md and 5.md). -/

namespace Sys2Proof.Machine

open Sys2Proof.Config

/-- No step of the part stops it with a fault: the spec gives every event an effect in every state, so no
constructor is needed. -/
inductive Fault where
  deriving DecidableEq, Repr

/-- Why a command has no meaning. Every arm of exec has one, so no step answers with it; were one to, that
would be safe, since a run would stop and nothing could be claimed past it. -/
inductive Refusal where
  /-- Raised by an arm of exec whose command has no meaning yet: safe, and at present by none. -/
  | notModelled (mnemonic : String)
  deriving DecidableEq, Repr

/-! ## Image Loader and Time Base (Chapter 12) -/

/-- The image state (R160). -/
inductive ImageState where
  | loading
  | configured
  | unconfigured
  deriving DecidableEq, Repr

/-- Why a load ended UNCONFIGURED (R161). -/
inductive LoadReason where
  | none
  | noImage
  | format
  | checkFail
  deriving DecidableEq, Repr

/-- The Image Loader (R160): the station number is the one the straps gave at reset release. -/
structure ImageLoader where
  station : Nat
  state   : ImageState
  reason  : LoadReason
  clamped : Nat
  deriving DecidableEq, Repr

/-- The Time Base (R164, R165). A counter that is absent is STOPPED. MODEL'S OWN: the expiries that are due
and not yet taken, and for the expiry being taken the users that still have to take it. -/
structure TimeBase where
  prescaler    : Option Nat
  t1           : Option Nat
  t2           : Option Nat
  t3           : Option Nat
  prescalerDue : Nat
  reportDue    : Nat
  reportOwed   : List ReportUser
  ageDue       : Nat
  ageOwed      : List AgeUser
  epochDue     : Nat
  deriving DecidableEq, Repr

/-! ## Link Supervisor (Chapter 4) -/

/-- The five link states (R48). -/
inductive LinkState where
  | down
  | qualifying
  | up
  | suspect
  | heldDown
  deriving DecidableEq, Repr

/-- What the Link Supervisor holds for one port (R48). The set stages are always a run from Q1, so their
number says which are set. -/
structure PortLink where
  state    : LinkState
  signal   : Bool
  good     : Nat
  stages   : Nat
  flaps    : Nat
  latch    : Bool
  lossMark : Bool
  errors   : Nat
  deriving DecidableEq, Repr

/-- A port after reset, with no signal reported (R48). -/
def PortLink.reset : PortLink :=
  { state := .down, signal := false, good := 0, stages := 0, flaps := 0, latch := false
    lossMark := false, errors := 0 }

/-- The Link Supervisor (R48, R50, R62). The window counter is absent until it starts. MODEL'S OWN: the
window ends that are due, and for the one being taken the ports that still have to take it. -/
structure LinkSupervisor where
  ports      : Tab PortLink
  window     : Option Nat
  windowDue  : Nat
  windowOwed : List Nat
  deriving DecidableEq, Repr

/-! ## Intake Unit (Chapter 1) -/

/-- MODEL'S OWN: what R1 fixed when the reception in progress on a port began. A reception that was to be taken and
whose port has then faulted is CUT: its frame is discarded, unless its last byte had come before the fault (R1, R24). -/
inductive Reception where
  | idle
  | taken
  | discarded
  | cut
  deriving DecidableEq, Repr

/-- The receive counts of one port (R4) and its reception in progress (R1). -/
structure PortIntake where
  bad          : Nat
  unclassified : Nat
  reception    : Reception
  deriving DecidableEq, Repr

/-- A port's receive side after reset (R4). -/
def PortIntake.reset : PortIntake := { bad := 0, unclassified := 0, reception := .idle }

/-- The kind of an arrival (R9). -/
inductive ArrivalKind where
  | access
  | uplink
  | cross
  deriving DecidableEq, Repr

/-- One copy of a destination set: its egress port, and the marks its group header will carry on a cross
port (R31, R34). -/
structure Dest where
  port     : Nat
  borrowed : Bool
  flood    : Bool
  deriving DecidableEq, Repr

/-- The Forwarding Decision's verdict on an arrival (R31). -/
inductive Verdict where
  | forward
  | samePort
  | noDestination
  deriving DecidableEq, Repr

/-- A completed arrival record (R9), with the bytes the receiver holds for it: from the destination address
to the end of the payload, without group header and frame check (R39). -/
structure Arrival where
  port     : Nat
  kind     : ArrivalKind
  tenant   : Nat
  cls      : Nat
  length   : Nat
  cells    : Nat
  src      : Addr
  dst      : Addr
  borrowed : Bool
  flood    : Bool
  verdict  : Verdict
  dests    : List Dest
  body     : List Byte
  deriving DecidableEq, Repr

/-- The Intake Unit (R4). MODEL'S OWN: the completed records that wait for admission (R9). -/
structure IntakeUnit where
  ports    : Tab PortIntake
  arrivals : List Arrival
  deriving DecidableEq, Repr

/-! ## Address Table (Chapter 2) -/

/-- The announce mark (R18). -/
inductive Mark where
  | clear
  | pending
  | inFrame
  deriving DecidableEq, Repr

/-- The condition of an occupied way and what that condition adds to its key and move count (R18). -/
inductive Place where
  | atPort (port : Nat) (age : Nat) (mark : Mark)
  | atPeer (peer : Nat)
  | retired (mark : Mark)
  deriving DecidableEq, Repr

/-- One entry of the address table (R18). -/
structure Entry where
  tenant : Nat
  addr   : Addr
  moves  : Nat
  place  : Place
  deriving DecidableEq, Repr

/-- The Address Table (R18). Way w of bucket b has the key 4b + w, and a way that is not listed is FREE. The
scan position is absent when IDLE. MODEL'S OWN: the scan steps the fine ticks have paced and that are not yet
taken (R30). -/
structure AddressTable where
  ways        : Tab Entry
  skipped     : Nat
  build       : Nat
  outstanding : Bool
  scan        : Option Nat
  scanDue     : Nat
  deriving DecidableEq, Repr

/-! ## Buffer Manager (Chapter 1) -/

/-- A stored-frame record (R10), with the frame's bytes in its cells. -/
structure StoredFrame where
  tenant      : Nat
  length      : Nat
  cells       : Nat
  cls         : Nat
  outstanding : Nat
  metered     : Bool
  transmitted : Bool
  body        : List Byte
  deriving DecidableEq, Repr

/-- A change event: the new values of whichever of the three measured values changed (R17). -/
structure Change where
  measure : Option Nat
  buffer  : Option Nat
  tenant  : Option (Nat × Nat)
  deriving DecidableEq, Repr

/-- A usage report (R13). -/
structure UsageReport where
  tenant : Nat
  length : Nat
  excess : Bool
  deriving DecidableEq, Repr

/-- A loss report (R16). -/
structure LossReport where
  tenant : Nat
  length : Nat
  deriving DecidableEq, Repr

/-- The Buffer Manager (R10). Tenants and queues that are not listed hold 0 cells; the queue of port p and
class c has the key 4p + c. MODEL'S OWN: the number the next stored frame is known by, and the events sent
and not yet taken by the Relief Controller and the Usage Meter, oldest first. -/
structure BufferManager where
  freeCells       : Nat
  inUse           : Tab Nat
  queueCells      : Tab Nat
  freeDescriptors : Nat
  frames          : Tab StoredFrame
  nextFrame       : Nat
  changes         : List Change
  usageReports    : List UsageReport
  refusals        : List Nat
  losses          : List LossReport
  deriving DecidableEq, Repr

/-! ## Egress Scheduler (Chapter 3) -/

/-- A descriptor: one copy of a stored frame (R35). -/
structure Desc where
  frame    : Nat
  port     : Nat
  cls      : Nat
  borrowed : Bool
  flood    : Bool
  deriving DecidableEq, Repr

/-- A frame in flight: a copy, or a hold frame with its hold time (R37). -/
inductive Flight where
  | copy (d : Desc)
  | hold (time : Nat)
  deriving DecidableEq, Repr

/-- The transmit states (R37); the frame in flight is present only in SENDING. -/
inductive TxState where
  | idle
  | sending (f : Flight)
  | held
  deriving DecidableEq, Repr

/-- One port's transmitter (R37). The received-hold timer is absent when STOPPED. MODEL'S OWN: the fine tick
has reached the timer at 1 and is to be taken there. -/
structure PortTx where
  state       : TxState
  rxHold      : Option Nat
  heldCount   : Nat
  pendingHold : Option Nat
  holdDue     : Bool
  deriving DecidableEq, Repr

/-- A transmitter after reset (R37). -/
def PortTx.reset : PortTx :=
  { state := .idle, rxHold := none, heldCount := 0, pendingHold := none, holdDue := false }

/-- The Egress Scheduler (R35, R37); a queue that is not listed is empty. -/
structure EgressScheduler where
  queues : Tab (List Desc)
  ports  : Tab PortTx
  deriving DecidableEq, Repr

/-! ## Relief Controller (Chapter 6) -/

/-- The hold state of one access port (R85). The renew timer is absent when STOPPED. MODEL'S OWN: the fine
tick has reached the timer at 1 and is to be taken there. -/
structure PortHold where
  holding  : Bool
  renew    : Option Nat
  renewDue : Bool
  deriving DecidableEq, Repr

/-- An access port's hold state after reset (R85). -/
def PortHold.reset : PortHold := { holding := false, renew := none, renewDue := false }

/-- The Relief Controller (R85): its copies of the measured values, the stages C1 to C5 lowest first, the
level, the tenants that are HELD in rising order, the port hold states and the lend offer. -/
structure ReliefController where
  measure     : Nat
  bufferInUse : Nat
  tenantInUse : Tab Nat
  stages      : List Bool
  level       : Nat
  held        : List Nat
  ports       : Tab PortHold
  lendOffer   : Bool
  deriving DecidableEq, Repr

/-! ## Path Unit (Chapter 5) -/

/-- A spine path's mode and sink (R64). -/
inductive Binding where
  | unbound
  | home
  | replaceUplink
  | replacePeer (peer : Nat)
  | split (peer : Nat)
  deriving DecidableEq, Repr

/-- Why a peer's uplinks are used (R70). -/
inductive Reason where
  | fault
  | relief
  deriving DecidableEq, Repr

/-- The states of a borrow record; its reason is absent in NONE (R70). -/
inductive BorrowState where
  | none
  | requested (reason : Reason)
  | active (reason : Reason)
  deriving DecidableEq, Repr

/-- One borrow record with the peer's exclusion timer (R70). -/
structure BorrowRecord where
  state     : BorrowState
  timer     : Nat
  upgrade   : Bool
  exclusion : Nat
  noUplink  : Bool
  deriving DecidableEq, Repr

/-- A borrow record after reset (R70). -/
def BorrowRecord.reset : BorrowRecord :=
  { state := .none, timer := 0, upgrade := false, exclusion := 0, noUplink := false }

/-- A lend record that is present (R79). -/
structure LendRecord where
  reason   : Reason
  solePath : Bool
  deriving DecidableEq, Repr

/-- The Path Unit (R64, R65, R70, R79): bindings of P0 to P7 (a path not listed is UNBOUND), the sole-path
flag, one borrow record and at most one lend record per peer. MODEL'S OWN: the shed and return requests the
Relief Controller has sent and the Path Unit has not taken (R73). -/
structure PathUnit where
  bindings  : Tab Binding
  solePath  : Bool
  borrows   : Tab BorrowRecord
  lends     : Tab LendRecord
  shedDue   : Nat
  returnDue : Nat
  deriving DecidableEq, Repr

/-! ## Crossline messages (Chapters 7 and 12) -/

/-- The ten message kinds (R169). -/
inductive Kind where
  | level
  | address
  | borrow
  | grant
  | withdraw
  | ret
  | billFetch
  | billRecord
  | statusFetch
  | status
  deriving DecidableEq, Repr

/-- The results of a GRANT (R74). -/
inductive GrantResult where
  | granted
  | noUplink
  | levelHigh
  | mutualRelief
  deriving DecidableEq, Repr

/-- The reasons of a WITHDRAW (R76). -/
inductive WithdrawReason where
  | level
  | noUplink
  deriving DecidableEq, Repr

/-- The fields of a LEVEL (R115, R119). -/
structure LevelFields where
  level        : Nat
  u0           : LinkState
  u1           : LinkState
  lendOffer    : Bool
  lendCount    : Nat
  faultLender  : Option Nat
  reliefLender : Option Nat
  solePath     : Bool
  lostNotices  : Bool
  deriving DecidableEq, Repr

/-- One entry of an ADDRESS message (R27, R29). -/
structure AddressEntry where
  tenant : Nat
  addr   : Addr
  moves  : Nat
  forget : Bool
  deriving DecidableEq, Repr

/-- A billing record (R152); the charge is in micro-BU, with its sign. -/
structure BillRecord where
  station    : Nat
  tenant     : Nat
  first      : Nat
  last       : Nat
  number     : Nat
  committed  : Nat
  excess     : Nat
  lost       : Nat
  admitted   : Nat
  refused    : Nat
  method     : Nat
  minus      : Bool
  magnitude  : Nat
  inexact    : Bool
  saturated  : Bool
  unpriced   : Bool
  merged     : Bool
  deriving DecidableEq, Repr

/-- The outcome of a BILL-FETCH (section 11.2). -/
inductive BillReply where
  | record (r : BillRecord)
  | none
  | busy
  deriving DecidableEq, Repr

/-- What a STATUS reply says of one port (R61, R116). -/
structure PortStatus where
  state : LinkState
  stage : Nat
  latch : Bool
  deriving DecidableEq, Repr

/-- The values of a STATUS reply (R116). -/
structure StatusReply where
  image          : ImageState
  reason         : LoadReason
  clamped        : Nat
  duplicate      : Bool
  level          : Nat
  ports          : List PortStatus
  lineErrors     : Nat
  lineFault      : Bool
  overruns       : Nat
  overrunLatch   : Bool
  skipped        : Nat
  badSum         : Nat
  unclassSum     : Nat
  depth          : Nat
  tenantsPending : Nat
  condition      : Nat
  deriving DecidableEq, Repr

/-- An outgoing message (R112). A LEVEL's contents are not fixed before an attempt starts (R113). -/
inductive Msg where
  | borrow (peer : Nat) (reason : Reason) (solePath : Bool)
  | grant (peer : Nat) (result : GrantResult)
  | withdraw (peer : Nat) (reason : WithdrawReason)
  | level
  | ret (peer : Nat)
  | billRecord (collector : Nat) (reply : BillReply)
  | status (collector : Nat) (reply : StatusReply)
  | address (entries : List AddressEntry)
  deriving DecidableEq, Repr

/-- The frame in hand (R102); for a LEVEL, the contents built at the start of its last attempt (R115). -/
structure Hand where
  msg   : Msg
  built : Option LevelFields
  deriving DecidableEq, Repr

/-- A received message that waits for the message processor (R109). The destination is a station or 255 for ALL. -/
structure Notice where
  kind    : Kind
  sender  : Nat
  dest    : Nat
  payload : List Word
  deriving DecidableEq, Repr

/-- The receive states (R102); in IN-FRAME, the words taken since the second sync. -/
inductive RxState where
  | searching
  | oneSync
  | inFrame (words : List Word)
  deriving DecidableEq, Repr

/-- The Crossline Controller (R102). MODEL'S OWN: the words still to drive of a frame whose claim is won, the
mark that the frame being received is the one the station started, and the mark that an overrun has set the
lost-notices flag since the last attempt to send a LEVEL began (R114). -/
structure CrosslineController where
  urgent       : List Msg
  normal       : List Msg
  hand         : Option Hand
  attempts     : Nat
  ownLast      : Bool
  fillRun      : Nat
  rx           : RxState
  notices      : List Notice
  lineErrors   : Nat
  lineFault    : Bool
  overruns     : Nat
  overrunLatch : Bool
  lostNotices  : Bool
  duplicate    : Bool
  toDrive      : Option (List LineWord)
  rxOwn        : Bool
  lostAgain    : Bool
  deriving DecidableEq, Repr

/-! ## Peer View (Chapter 8) -/

/-- The states of a peer record (R119). -/
inductive PeerState where
  | absent
  | live
  | stale
  deriving DecidableEq, Repr

/-- One peer record (R119). -/
structure PeerRecord where
  state  : PeerState
  missed : Nat
  stored : Option LevelFields
  deriving DecidableEq, Repr

/-- A peer record after reset (R119). -/
def PeerRecord.reset : PeerRecord := { state := .absent, missed := 0, stored := none }

/-- The Peer View (R119). -/
structure PeerView where
  peers : Tab PeerRecord
  deriving DecidableEq, Repr

/-! ## Billing chain (Chapters 9 to 11) -/

/-- The accumulators of a set with its saturation mark (R128). -/
structure Usage where
  committed : Nat
  excess    : Nat
  lost      : Nat
  admitted  : Nat
  refused   : Nat
  saturated : Bool
  deriving DecidableEq, Repr

/-- The set that is all zero (R128). -/
def Usage.zero : Usage :=
  { committed := 0, excess := 0, lost := 0, admitted := 0, refused := 0, saturated := false }

/-- A pending set that is present, with its range (R128). -/
structure PendingSet where
  usage : Usage
  first : Nat
  last  : Nat
  deriving DecidableEq, Repr

/-- The Usage Meter (R128): an active set that is not listed is all zero, a pending set that is not listed is
absent. -/
structure UsageMeter where
  active     : Tab Usage
  pending    : Tab PendingSet
  epoch      : Nat
  heldCloses : Nat
  deriving DecidableEq, Repr

/-- The Rating Engine's state and scan position (R133). -/
inductive RateState where
  | idle
  | stepping (tenant : Nat)
  | computing (tenant : Nat)
  | waiting (tenant : Nat)
  deriving DecidableEq, Repr

/-- The Rating Engine (R133); its tariffs and methods are settings. -/
structure RatingEngine where
  state : RateState
  deriving DecidableEq, Repr

/-- The head state (R151). -/
inductive HeadState where
  | absent
  | fresh
  | shown (collector : Nat) (timer : Nat)
  deriving DecidableEq, Repr

/-- The Billing Record Queue (R151), its head first. MODEL'S OWN: the freed slots reported and not yet taken (R137). -/
structure BillingQueue where
  records    : List BillRecord
  next       : Nat
  head       : HeadState
  slotsFreed : Nat
  deriving DecidableEq, Repr

/-! ## The whole part -/

/-- The state of one W4832: its blocks, its settings, and the commands that wait, oldest first. -/
structure State where
  il      : ImageLoader
  cfg     : Settings
  tb      : TimeBase
  ls      : LinkSupervisor
  iu      : IntakeUnit
  tab     : AddressTable
  bm      : BufferManager
  es      : EgressScheduler
  rc      : ReliefController
  pu      : PathUnit
  xc      : CrosslineController
  pv      : PeerView
  um      : UsageMeter
  re      : RatingEngine
  bq      : BillingQueue
  pending : List Instr
  deriving DecidableEq, Repr

/-- Right after reset: every block at the value its own rule states (R4, R10, R18, R35, R37, R48, R64, R70,
R79, R85, R102, R119, R128, R133, R151, R160, R165). DESIGN CHOICE: the straps read 0 and no receiver reports
a signal (notes/assumptions/1.md); the queue of commands is empty. -/
def State.reset : State :=
  { il := { station := 0, state := .loading, reason := .none, clamped := 0 }
    cfg := Settings.reset
    tb := { prescaler := none, t1 := none, t2 := none, t3 := none, prescalerDue := 0, reportDue := 0
            reportOwed := [], ageDue := 0, ageOwed := [], epochDue := 0 }
    ls := { ports := [], window := none, windowDue := 0, windowOwed := [] }
    iu := { ports := [], arrivals := [] }
    tab := { ways := [], skipped := 0, build := 0, outstanding := false, scan := none, scanDue := 0 }
    bm := { freeCells := bufferCells, inUse := [], queueCells := [], freeDescriptors := descriptors
            frames := [], nextFrame := 0, changes := [], usageReports := [], refusals := [], losses := [] }
    es := { queues := [], ports := [] }
    rc := { measure := 0, bufferInUse := 0, tenantInUse := [], stages := [false, false, false, false, false]
            level := 0, held := [], ports := [], lendOffer := false }
    pu := { bindings := [], solePath := true, borrows := [], lends := [], shedDue := 0, returnDue := 0 }
    xc := { urgent := [], normal := [], hand := none, attempts := 0, ownLast := false, fillRun := 0
            rx := .searching, notices := [], lineErrors := 0, lineFault := false, overruns := 0
            overrunLatch := false, lostNotices := false, duplicate := false, toDrive := none
            rxOwn := false, lostAgain := false }
    pv := { peers := [] }
    um := { active := [], pending := [], epoch := 1, heldCloses := 0 }
    re := { state := .idle }
    bq := { records := [], next := 1, head := .absent, slotsFreed := 0 }
    pending := [] }

end Sys2Proof.Machine
end

