-- ==== Sys2Proof/Machine/Tab.lean ====
section
/-! DEFINITION. The operations of a sparse table (Word.lean). Each keeps the keys strictly rising; write also
keeps the default value out of the table, so that tables that read the same are the same data. -/

namespace Sys2Proof

/-- The value listed for a key, if there is one. -/
def Tab.find? {α : Type} : Tab α → Nat → Option α
  | [], _ => none
  | (j, v) :: t, k => if j = k then some v else Tab.find? t k

/-- Is a value listed for this key? -/
def Tab.has {α : Type} (t : Tab α) (k : Nat) : Bool := (Tab.find? t k).isSome

/-- The value of a key, where a key that is not listed has the default. -/
def Tab.read {α : Type} (d : α) (t : Tab α) (k : Nat) : α := (Tab.find? t k).getD d

/-- List a value for a key, in the place its key gives it, over any value listed before. -/
def Tab.put {α : Type} : Tab α → Nat → α → Tab α
  | [], k, v => [(k, v)]
  | (j, w) :: t, k, v =>
    if k < j then (k, v) :: (j, w) :: t
    else if k = j then (k, v) :: t
    else (j, w) :: Tab.put t k v

/-- Take a key out of the table. -/
def Tab.drop {α : Type} (t : Tab α) (k : Nat) : Tab α := t.filter (fun e => e.1 ≠ k)

/-- Give a key a value; the default value is not listed. -/
def Tab.write {α : Type} [DecidableEq α] (d : α) (t : Tab α) (k : Nat) (v : α) : Tab α :=
  if v = d then Tab.drop t k else Tab.put t k v

/-- Replace every listed value by what f gives for it and its key, and take out the keys f gives none for. -/
def Tab.filterMap {α : Type} (f : Nat → α → Option α) : Tab α → Tab α
  | [] => []
  | (k, v) :: t =>
    match f k v with
    | some w => (k, w) :: Tab.filterMap f t
    | none => Tab.filterMap f t

/-- The keys of a table, in order. -/
def Tab.keys {α : Type} (t : Tab α) : List Nat := t.map Prod.fst

/-- The canonical form: keys strictly rising. -/
def Tab.wf {α : Type} : Tab α → Bool
  | [] => true
  | [_] => true
  | (j, _) :: (k, w) :: t => decide (j < k) && Tab.wf ((k, w) :: t)

/-- The sum of a number read off every listed value. -/
def Tab.sum {α : Type} (f : α → Nat) (t : Tab α) : Nat := (t.map (fun e => f e.2)).sum

end Sys2Proof
end

