-- ==== Sys2Proof/Machine/Operands.lean ====
section
/-! DEFINITION. How the operands of the commands are read and what the part puts on its wires: multi-byte
fields, the two CRCs, frames and group headers on the data ports, and the words of Crossline frames, messages,
billing records and STATUS replies (sections 12.3 and 12.4). -/

namespace Sys2Proof.Machine

open Sys2Proof.Config

/-! ## Fields (R166) -/

/-- One byte of a run of bytes, as a number. -/
def byteAt (bs : List Byte) (i : Nat) : Nat := (bs.getD i 0).toNat

/-- A two-byte field, most significant byte first (R166). -/
def be16 (bs : List Byte) (i : Nat) : Nat := byteAt bs i * 256 + byteAt bs (i + 1)

/-- A run of bytes read as a number, most significant byte first (R166). -/
def beNat (bs : List Byte) : Nat := bs.foldl (fun n b => n * 256 + b.toNat) 0

/-- A run of bytes read as a number, least significant byte first (the image CRC and the frame check). -/
def leNat : List Byte → Nat
  | [] => 0
  | b :: bs => b.toNat + 256 * leNat bs

/-- A number as n bytes, most significant first. -/
def beBytes : Nat → Nat → List Byte
  | 0, _ => []
  | n + 1, v => beBytes n (v / 256) ++ [BitVec.ofNat 8 v]

/-- A number as n bytes, least significant first. -/
def leBytes : Nat → Nat → List Byte
  | 0, _ => []
  | n + 1, v => BitVec.ofNat 8 v :: leBytes n (v / 256)

/-- The address in six bytes from position i, first carried byte first. -/
def addrAt (bs : List Byte) (i : Nat) : Addr := BitVec.ofNat 48 (beNat ((bs.drop i).take 6))

/-- The six bytes of an address as they are carried. -/
def addrBytes (a : Addr) : List Byte := beBytes 6 a.toNat

/-- A group address: the first bit it carries on the wire is 1 (R22). DEDUCED: that bit is the least
significant bit of the first byte, as the reserved control group address 01-80-C2-00-00-01 shows. -/
def isGroup (a : Addr) : Bool := a.getLsbD 40

/-! ## The CRCs -/

/-- One bit of the 16-bit CRC with polynomial x^16 + x^12 + x^5 + 1, most significant bit first. -/
def crc16Bit (c : Word) : Word := if c.msb then (c <<< 1) ^^^ 0x1021#16 else c <<< 1

/-- Take one byte into the 16-bit CRC. -/
def crc16Byte (c : Word) (b : Byte) : Word :=
  crc16Bit (crc16Bit (crc16Bit (crc16Bit (crc16Bit (crc16Bit (crc16Bit (crc16Bit
    (c ^^^ (b.setWidth 16 <<< 8)))))))))

/-- The 16-bit CRC: initial value all ones, no final inversion (R19, R103). -/
def crc16 (bs : List Byte) : Word := bs.foldl crc16Byte 0xFFFF#16

/-- The two bytes of a word, most significant first. -/
def wordBytes (w : Word) : List Byte := [BitVec.ofNat 8 (w.toNat / 256), BitVec.ofNat 8 w.toNat]

/-- The check word over the words of a Crossline frame from its claim (R103). -/
def checkWord (ws : List Word) : Word := crc16 (ws.flatMap wordBytes)

/-- One bit of the CRC-32 of R161, taken least significant bit first. -/
def crc32Bit (c : BitVec 32) : BitVec 32 :=
  if c.getLsbD 0 then (c >>> 1) ^^^ 0xEDB88320#32 else c >>> 1

/-- Take one byte into the CRC-32. -/
def crc32Byte (c : BitVec 32) (b : Byte) : BitVec 32 :=
  crc32Bit (crc32Bit (crc32Bit (crc32Bit (crc32Bit (crc32Bit (crc32Bit (crc32Bit
    (c ^^^ b.setWidth 32))))))))

/-- The CRC-32: initial value all ones, final value inverted (R161, R167). -/
def crc32 (bs : List Byte) : BitVec 32 := ~~~ (bs.foldl crc32Byte 0xFFFFFFFF#32)

/-- The flow hash H of a tenant, a source and a destination (R19). -/
def flowHash (tenant : Nat) (src dst : Addr) : Nat :=
  (crc16 (BitVec.ofNat 8 tenant :: (addrBytes src ++ addrBytes dst))).toNat

/-- The bucket of a key (R19). -/
def bucketOf (tenant : Nat) (a : Addr) : Nat := flowHash tenant a a % buckets

/-- The spine path number of a frame (R19). -/
def pathOf (tenant : Nat) (src dst : Addr) : Nat := flowHash tenant src dst % 8

/-- The split selector of a frame: bit 3 of its flow hash (R19). -/
def splitSelector (tenant : Nat) (src dst : Addr) : Bool := (flowHash tenant src dst).testBit 3

/-! ## Frames on the data ports (R167, R168) -/

/-- The reserved control group address (R168). -/
def controlAddr : List Byte := [0x01, 0x80, 0xC2, 0x00, 0x00, 0x01]

/-- Is this arrival on a cross port a control frame (R3)? -/
def crossControl (bs : List Byte) : Bool := bs.take 6 == controlAddr && be16 bs 12 == 0x8808

/-- Is this frame tagged (R167)? -/
def isTagged (frame : List Byte) : Bool := be16 frame 12 == 0x8100

/-- Where a frame's own type stands (R167). -/
def typeOffset (frame : List Byte) : Nat := if isTagged frame then 16 else 12

/-- The tag value of a frame, 0 when it carries no tag (R6, R167). -/
def tagOf (frame : List Byte) : Nat := if isTagged frame then be16 frame 14 % 4096 else 0

/-- The priority code a frame's class is taken from, entry 0 for an untagged one (R7, R167). -/
def priorityOf (frame : List Byte) : Nat := if isTagged frame then be16 frame 14 / 8192 else 0

/-- Does the frame check of an arrival match (R167)? It covers every byte before it, the group header too. -/
def frameCheckOk (bs : List Byte) : Bool :=
  leNat (bs.drop (bs.length - 4)) == (crc32 (bs.take (bs.length - 4))).toNat

/-- A group header as read (R8, R168); its zero fields are ignored (R166). -/
structure GroupHeader where
  origin   : Nat
  tenant   : Nat
  cls      : Nat
  borrowed : Bool
  flood    : Bool
  deriving DecidableEq, Repr

/-- Read the group header ahead of a frame (R168). -/
def readHeader (bs : List Byte) : GroupHeader :=
  { origin := byteAt bs 0 % 4, tenant := byteAt bs 1, cls := byteAt bs 2 % 4
    borrowed := (byteAt bs 2).testBit 2, flood := (byteAt bs 2).testBit 3 }

/-- The four bytes of a group header (R168). -/
def headerBytes (h : GroupHeader) : List Byte :=
  [BitVec.ofNat 8 h.origin, BitVec.ofNat 8 h.tenant,
   BitVec.ofNat 8 (h.cls + (if h.borrowed then 4 else 0) + (if h.flood then 8 else 0)), 0]

/-- Put the frame check behind the bytes it covers (R167). -/
def withFrameCheck (bs : List Byte) : List Byte := bs ++ leBytes 4 (crc32 bs).toNat

/-- The port address of port p: the base with p added to its last byte, modulo 256 (R168). -/
def portAddress (base : Addr) (p : Nat) : Addr :=
  BitVec.ofNat 48 (base.toNat / 256 * 256 + (base.toNat % 256 + p) % 256)

/-- The hold frame of a port (R168). -/
def holdFrameBytes (base : Addr) (p time : Nat) : List Byte :=
  withFrameCheck (controlAddr ++ addrBytes (portAddress base p) ++ [0x88, 0x08, 0x00, 0x01]
    ++ beBytes 2 time ++ List.replicate 42 0)

/-! ## Crossline codes (R169, R170) -/

/-- The kind a code names (R169). -/
def kindOfCode : Nat → Option Kind
  | 1 => some .level
  | 2 => some .address
  | 3 => some .borrow
  | 4 => some .grant
  | 5 => some .withdraw
  | 6 => some .ret
  | 7 => some .billFetch
  | 8 => some .billRecord
  | 9 => some .statusFetch
  | 10 => some .status
  | _ => none

/-- The code of a kind (R169). -/
def kindCode : Kind → Nat
  | .level => 1
  | .address => 2
  | .borrow => 3
  | .grant => 4
  | .withdraw => 5
  | .ret => 6
  | .billFetch => 7
  | .billRecord => 8
  | .statusFetch => 9
  | .status => 10

/-- Is this payload length one the kind allows (R169)? -/
def lengthAllowed (k : Kind) (n : Nat) : Bool :=
  match k with
  | .level => n == 2
  | .address => n % 4 == 0 && decide (4 ≤ n) && decide (n ≤ 48)
  | .borrow => n == 1
  | .grant => n == 1
  | .withdraw => n == 1
  | .ret => n == 0
  | .billFetch => n == 1
  | .billRecord => n == 1 || n == 25
  | .statusFetch => n == 0
  | .status => n == 25

/-- The destination code of a message to every station (R169). -/
def destAll : Nat := 255

/-- The code of a link state (R170). -/
def linkCode : LinkState → Nat
  | .down => 0
  | .qualifying => 1
  | .up => 2
  | .suspect => 3
  | .heldDown => 4

/-- The link state a code names (R170). -/
def linkOfCode : Nat → Option LinkState
  | 0 => some .down
  | 1 => some .qualifying
  | 2 => some .up
  | 3 => some .suspect
  | 4 => some .heldDown
  | _ => none

/-- A flag as the number its bit carries. -/
def bit (b : Bool) : Nat := if b then 1 else 0

/-- A bit field of a word: n bits from bit lo. -/
def field (w : Word) (lo n : Nat) : Nat := w.toNat / 2 ^ lo % 2 ^ n

/-- A lender field: a station number, or 8 for none (R170). -/
def lenderCode : Option Nat → Nat
  | some k => k
  | none => 8

/-- The two payload words of a LEVEL (R170). DESIGN CHOICE: the bits that no field names (word 0 bit 0, word 1 bits 15 to 8)
are sent 0, and ignored on receipt (notes/assumptions/30.md). -/
def levelWords (l : LevelFields) : List Word :=
  [BitVec.ofNat 16 (l.level * 8192 + linkCode l.u0 * 1024 + linkCode l.u1 * 128 + l.lendCount * 16
      + bit l.lendOffer * 8 + bit l.solePath * 4 + bit l.lostNotices * 2),
   BitVec.ofNat 16 (lenderCode l.faultLender * 16 + lenderCode l.reliefLender)]

/-- A lender field as read in a LEVEL from station k: none when it is malformed (R120, R170). -/
def readLender (k c : Nat) : Option (Option Nat) :=
  if c = 8 then some none else if c ≤ 3 ∧ c ≠ k then some (some c) else none

/-- The fields of a LEVEL from station k, or none when it is malformed (R120, R170). DESIGN CHOICE: the bits that no field
names are ignored (notes/assumptions/30.md). -/
def readLevel (k : Nat) (ws : List Word) : Option LevelFields :=
  let w0 := ws.getD 0 0
  let w1 := ws.getD 1 0
  match linkOfCode (field w0 10 3), linkOfCode (field w0 7 3), readLender k (field w1 4 4), readLender k (field w1 0 4) with
  | some a, some b, some f, some r =>
    if field w0 13 3 ≤ 5 ∧ field w0 4 3 ≤ 3 then
      some { level := field w0 13 3, u0 := a, u1 := b, lendOffer := w0.getLsbD 3, lendCount := field w0 4 3
             faultLender := f, reliefLender := r, solePath := w0.getLsbD 2, lostNotices := w0.getLsbD 1 }
    else none
  | _, _, _, _ => none

/-- The four words of one ADDRESS entry (R170). DESIGN CHOICE: word 0 bits 3 to 1, which no field names, are sent 0
(notes/assumptions/30.md). -/
def addressEntryWords (e : AddressEntry) : List Word :=
  [BitVec.ofNat 16 (e.tenant * 256 + e.moves * 16 + bit e.forget),
   BitVec.ofNat 16 (e.addr.toNat / 2 ^ 32), BitVec.ofNat 16 (e.addr.toNat / 2 ^ 16), BitVec.ofNat 16 e.addr.toNat]

/-- The entries of an ADDRESS payload, in the order they are carried (R170). DESIGN CHOICE: word 0 bits 3 to 1 of an entry are
ignored (notes/assumptions/30.md). -/
def readAddressEntries : List Word → List AddressEntry
  | a :: b :: c :: d :: ws =>
    { tenant := field a 8 8, addr := BitVec.ofNat 48 (b.toNat * 2 ^ 32 + c.toNat * 2 ^ 16 + d.toNat)
      moves := field a 4 4, forget := a.getLsbD 0 } :: readAddressEntries ws
  | _ => []

/-- The reason bit of a BORROW (R170). -/
def reasonBit : Reason → Nat
  | .fault => 0
  | .relief => 1

/-- The result code of a GRANT (R170). -/
def grantCode : GrantResult → Nat
  | .granted => 0
  | .noUplink => 1
  | .levelHigh => 2
  | .mutualRelief => 3

/-- The result a GRANT carries; none above 3 (R170). -/
def grantOfCode : Nat → Option GrantResult
  | 0 => some .granted
  | 1 => some .noUplink
  | 2 => some .levelHigh
  | 3 => some .mutualRelief
  | _ => none

/-- The reason code of a WITHDRAW (R170). -/
def withdrawCode : WithdrawReason → Nat
  | .level => 0
  | .noUplink => 1

/-- The reason a WITHDRAW carries: any value other than 1 is taken as LEVEL (R170). -/
def withdrawOfCode (c : Nat) : WithdrawReason := if c = 1 then .noUplink else .level

/-- A number as n words, most significant first (R166). -/
def beWords : Nat → Nat → List Word
  | 0, _ => []
  | n + 1, v => beWords n (v / 65536) ++ [BitVec.ofNat 16 v]

/-- The decimal digits of a number as n nibbles, most significant first, packed in one number. -/
def packDigits : Nat → Nat → Nat
  | 0, _ => 0
  | n + 1, v => packDigits n (v / 10) * 16 + v % 10

/-- The 24 words of a billing record (R171). DESIGN CHOICE: word 18 bits 15 to 8, which no field names, are 0
(notes/assumptions/30.md). -/
def recordWords (r : BillRecord) : List Word :=
  [BitVec.ofNat 16 (r.station * 256 + r.tenant), BitVec.ofNat 16 r.first, BitVec.ofNat 16 r.last]
    ++ beWords 2 r.number ++ beWords 3 r.committed ++ beWords 3 r.excess ++ beWords 3 r.lost
    ++ beWords 2 r.admitted ++ beWords 2 r.refused
    ++ [BitVec.ofNat 16 (r.method + bit r.inexact * 16 + bit r.saturated * 32 + bit r.unpriced * 64 + bit r.merged * 128)]
    ++ beWords 5 (packDigits 19 r.magnitude * 16 + (if r.minus then 0xD else 0xC))

/-- The payload of a BILL-RECORD (R170). -/
def billReplyWords : BillReply → List Word
  | .record r => 0 :: recordWords r
  | .none => [1]
  | .busy => [2]

/-- The byte of one port in a STATUS payload (R171). DESIGN CHOICE: bit 7, which no field names, is 0
(notes/assumptions/30.md). -/
def portStatusByte (p : PortStatus) : Nat := linkCode p.state + p.stage * 8 + bit p.latch * 64

/-- Bytes paired into words, the first of a pair in the high byte; a last one alone has a zero low byte (R171). -/
def pairBytes : List Nat → List Word
  | a :: b :: rest => BitVec.ofNat 16 (a * 256 + b) :: pairBytes rest
  | [a] => [BitVec.ofNat 16 (a * 256)]
  | [] => []

/-- The image state code of STATUS (R171). -/
def imageCode : ImageState → Nat
  | .loading => 0
  | .configured => 1
  | .unconfigured => 2

/-- The reason code of STATUS (R171). -/
def reasonCode : LoadReason → Nat
  | .none => 0
  | .noImage => 1
  | .format => 2
  | .checkFail => 3

/-- The 25 payload words of a STATUS (R171). DESIGN CHOICE: word 2 bits 9 to 4, which no field names, are 0
(notes/assumptions/30.md). -/
def statusWords (r : StatusReply) : List Word :=
  [BitVec.ofNat 16 (imageCode r.image * 256 + reasonCode r.reason), BitVec.ofNat 16 r.clamped,
   BitVec.ofNat 16 (r.level * 8192 + bit r.duplicate * 4096 + bit r.lineFault * 2048 + bit r.overrunLatch * 1024
     + r.condition)]
    ++ pairBytes (r.ports.map portStatusByte)
    ++ beWords 2 r.lineErrors ++ beWords 2 r.overruns ++ beWords 2 r.skipped ++ beWords 2 r.badSum
    ++ beWords 2 r.unclassSum ++ [BitVec.ofNat 16 (r.depth * 256 + r.tenantsPending)]

/-! ## Outgoing frames (R103, R112, R169) -/

/-- The kind of a message (R112). -/
def Msg.kind : Msg → Kind
  | .borrow _ _ _ => .borrow
  | .grant _ _ => .grant
  | .withdraw _ _ => .withdraw
  | .level => .level
  | .ret _ => .ret
  | .billRecord _ _ => .billRecord
  | .status _ _ => .status
  | .address _ => .address

/-- The destination of a message (R112). -/
def Msg.dest : Msg → Nat
  | .borrow k _ _ => k
  | .grant k _ => k
  | .withdraw k _ => k
  | .level => destAll
  | .ret k => k
  | .billRecord c _ => c
  | .status c _ => c
  | .address _ => destAll

/-- The urgency of a message: 0 urgent, 1 normal, 2 bulk (R112, R113). -/
def Msg.urgency : Msg → Nat
  | .borrow _ _ _ => 0
  | .grant _ _ => 0
  | .withdraw _ _ => 0
  | .level => 1
  | .ret _ => 1
  | .billRecord _ _ => 1
  | .status _ _ => 1
  | .address _ => 2

/-- Do two messages have the same key, which is their kind and destination (R112)? -/
def Msg.sameKey (m n : Msg) : Bool := m.kind == n.kind && m.dest == n.dest

/-- The payload of a frame in hand (R170, R171). DESIGN CHOICE: bits 15 to 2 of the word of a BORROW, which no field names,
are sent 0 (notes/assumptions/30.md). -/
def Hand.payload (h : Hand) : List Word :=
  match h.msg with
  | .borrow _ r sole => [BitVec.ofNat 16 (reasonBit r + bit sole * 2)]
  | .grant _ r => [BitVec.ofNat 16 (grantCode r)]
  | .withdraw _ r => [BitVec.ofNat 16 (withdrawCode r)]
  | .level => match h.built with
    | some l => levelWords l
    | none => []
  | .ret _ => []
  | .billRecord _ r => billReplyWords r
  | .status _ r => statusWords r
  | .address es => es.flatMap addressEntryWords

/-- The claim word of a message sent by a station (R103). -/
def claimOf (station : Nat) (m : Msg) : Word := BitVec.ofNat 16 (m.urgency * 8 + station)

/-- The words of a frame from its first header word to the end of its payload (R103, R169). -/
def Hand.inner (h : Hand) : List Word :=
  BitVec.ofNat 16 (kindCode h.msg.kind * 256 + h.msg.dest) :: BitVec.ofNat 16 h.payload.length :: h.payload

/-- The words a station drives after its claim is won (R103). -/
def Hand.afterClaim (station : Nat) (h : Hand) : List Word :=
  h.inner ++ [checkWord (claimOf station h.msg :: h.inner)]

end Sys2Proof.Machine
end

