-- ==== Sys2Proof/Machine/Flags.lean ====
section
/-! DEFINITION. The counts, marks and flags: saturating and modular counts (section 0, Conventions), the stages
of qualification and of congestion, the marks of a usage set, and the first condition code of STATUS. -/

namespace Sys2Proof.Machine

open Sys2Proof.Config

/-! ## Counts -/

/-- Add to a count that saturates at its largest value (section 0, Saturation). -/
def satAdd (largest v n : Nat) : Nat := if v + n > largest then largest else v + n

/-- Would the addition carry the count above its largest value? -/
def saturates (largest v n : Nat) : Bool := decide (v + n > largest)

/-- Raise a 32-bit saturating count by one (R4, R18, R102). -/
def bump (v : Nat) : Nat := satAdd count32 v 1

/-- The move count after one more move: 15 becomes 0 (R20). -/
def nextMoves (m : Nat) : Nat := (m + 1) % 16

/-- The epoch after e: 65,535 is followed by 1 (R128). -/
def nextEpoch (e : Nat) : Nat := if e = 65535 then 1 else e + 1

/-- The record number after n: 4,294,967,295 is followed by 1 (R153). -/
def nextNumber (n : Nat) : Nat := if n = count32 then 1 else n + 1

/-- One count of a cascaded counter with its constant: the new count, and whether it came to 0. A count at 0
stands for its constant, since the reload belongs to the step that takes the expiry (R165). -/
def countDown (const c : Nat) : Nat × Bool :=
  let n := (if c = 0 then const else c) - 1
  (n, n == 0)

/-! ## Marks of a usage set (R129, R131) -/

/-- Add a usage report to an active set (R129). -/
def Usage.addUsage (u : Usage) (length : Nat) (excess : Bool) : Usage :=
  if excess then
    { u with excess := satAdd count48 u.excess length, admitted := satAdd count32 u.admitted 1
             saturated := u.saturated || saturates count48 u.excess length || saturates count32 u.admitted 1 }
  else
    { u with committed := satAdd count48 u.committed length, admitted := satAdd count32 u.admitted 1
             saturated := u.saturated || saturates count48 u.committed length || saturates count32 u.admitted 1 }

/-- Add a refusal report to an active set (R129). -/
def Usage.addRefusal (u : Usage) : Usage :=
  { u with refused := satAdd count32 u.refused 1, saturated := u.saturated || saturates count32 u.refused 1 }

/-- Add a loss report to an active set (R129). -/
def Usage.addLoss (u : Usage) (length : Nat) : Usage :=
  { u with lost := satAdd count48 u.lost length, saturated := u.saturated || saturates count48 u.lost length }

/-- Merge an active set into a pending set's usage (R131). -/
def Usage.merge (p a : Usage) : Usage :=
  { committed := satAdd count48 p.committed a.committed
    excess := satAdd count48 p.excess a.excess
    lost := satAdd count48 p.lost a.lost
    admitted := satAdd count32 p.admitted a.admitted
    refused := satAdd count32 p.refused a.refused
    saturated := p.saturated || a.saturated
      || saturates count48 p.committed a.committed || saturates count48 p.excess a.excess
      || saturates count48 p.lost a.lost || saturates count32 p.admitted a.admitted
      || saturates count32 p.refused a.refused }

/-- Is a set all zero (R128)? -/
def Usage.allZero (u : Usage) : Bool :=
  u.committed == 0 && u.excess == 0 && u.lost == 0 && u.admitted == 0 && u.refused == 0

/-! ## Qualification stages (R52) -/

/-- The thresholds of the stages Q1 to Q6, in good windows in a row (R52). -/
def stageThresholds : List Nat := [4, 16, 32, 64, 128, 256]

/-- How many stages have a threshold the count has reached (R52). -/
def stagesReached (count : Nat) : Nat := (stageThresholds.filter (fun t => decide (t ≤ count))).length

/-! ## Congestion stages (R88) -/

/-- The setting pass, lowest first: below says whether the stage below is set; the pass stops at the first stage
that is not set (R88). -/
def stagePassSet (m : Nat) : Bool → List Bool → List Nat → List Bool
  | below, c :: cs, mk :: mks =>
    if c then true :: stagePassSet m true cs mks
    else if below && decide (mk ≤ m) then true :: stagePassSet m true cs mks
    else c :: cs
  | _, cs, _ => cs

/-- The clearing pass, highest first: the second part says whether every stage from here up is clear, so that the
pass goes on below; it stops at the first stage that is not cleared (R88). -/
def stagePassClear (m h : Nat) : List Bool → List Nat → List Bool × Bool
  | c :: cs, mk :: mks =>
    let r := stagePassClear m h cs mks
    if c && r.2 && decide (m < mk - h) then (false :: r.1, true) else (c :: r.1, !c && r.2)
  | cs, _ => (cs, true)

/-- The stages after one evaluation against the measure (R88). -/
def evalStages (m h : Nat) (marks : List Nat) (stages : List Bool) : List Bool :=
  (stagePassClear m h (stagePassSet m true stages marks) marks).1

/-- The level: the number of stages set (R88). -/
def levelOf (stages : List Bool) : Nat := (stages.filter id).length

/-! ## First condition code (R117) -/

/-- The rank of the highest-ranked condition that holds (R117). -/
def conditionCode (unconfigured duplicate uplink cross access line overrun : Bool) : Nat :=
  if unconfigured then 1 else if duplicate then 2 else if uplink then 3 else if cross then 4
  else if access then 5 else if line then 6 else if overrun then 7 else 8

end Sys2Proof.Machine
end

