-- ==== Sys2Proof/Machine/Ops.lean ====
section
/-! DEFINITION. The named reads and updates of the state that every block's operations are written with, and the
facts that several blocks read: which ports are live (R48, R63), which cross port leads to which peer (section 0,
Conventions), the image state, and what the transmitters put on the data ports (R39, R41, R58). -/

namespace Sys2Proof.Machine

open Sys2Proof.Config

/-! ## Reads -/

/-- What the Link Supervisor holds for port p (R48). -/
def State.link (s : State) (p : Nat) : PortLink := Tab.read PortLink.reset s.ls.ports p

/-- Is a link state live (R48)? -/
def LinkState.isLive : LinkState → Bool
  | .up => true
  | .suspect => true
  | .down => false
  | .qualifying => false
  | .heldDown => false

/-- Is port p live: its link state UP or SUSPECT (R48)? -/
def State.live (s : State) (p : Nat) : Bool := (s.link p).state.isLive

/-- The receive side of port p (R4). -/
def State.intake (s : State) (p : Nat) : PortIntake := Tab.read PortIntake.reset s.iu.ports p

/-- The transmitter of port p (R37). -/
def State.tx (s : State) (p : Nat) : PortTx := Tab.read PortTx.reset s.es.ports p

/-- The key of the queue of port p and class c (R35). -/
def queueKey (p c : Nat) : Nat := 4 * p + c

/-- The class queue of a key, its head first (R35). -/
def State.queue (s : State) (q : Nat) : List Desc := Tab.read [] s.es.queues q

/-- The queue cells of a key (R10). -/
def State.cellsOf (s : State) (q : Nat) : Nat := Tab.read 0 s.bm.queueCells q

/-- A tenant's in-use cells (R10). -/
def State.inUse (s : State) (t : Nat) : Nat := Tab.read 0 s.bm.inUse t

/-- The hold state of access port p (R85). -/
def State.hold (s : State) (p : Nat) : PortHold := Tab.read PortHold.reset s.rc.ports p

/-- The binding of spine path i (R64). -/
def State.binding (s : State) (i : Nat) : Binding := Tab.read .unbound s.pu.bindings i

/-- The borrow record for peer k (R70). -/
def State.borrow (s : State) (k : Nat) : BorrowRecord := Tab.read BorrowRecord.reset s.pu.borrows k

/-- The lend record for peer k, if it is present (R79). -/
def State.lend (s : State) (k : Nat) : Option LendRecord := Tab.find? s.pu.lends k

/-- The peer record for peer k (R119). -/
def State.peer (s : State) (k : Nat) : PeerRecord := Tab.read PeerRecord.reset s.pv.peers k

/-- The settings of tenant t; a tenant the tenant table gives no entry for is handled under R162 and R141. -/
def State.tenant (s : State) (t : Nat) : TenantSettings :=
  Tab.read { share := 0, rc := 0, re := 0, rd := 0, valid := false, methodCode := 0
             method := s.cfg.groupMethod, suppress := false } s.cfg.tenantTable t

/-- Is the image state CONFIGURED? -/
def State.configured (s : State) : Bool := s.il.state == .configured

/-- Is peer k's record LIVE (R119)? -/
def State.peerLive (s : State) (k : Nat) : Bool := (s.peer k).state == .live

/-- The peers of the station: the stations 0 to 3 other than itself (R70, R119). -/
def State.peers (s : State) : List Nat := stations.filter (fun k => k ≠ s.il.station)

/-- The cross port to peer k (section 2.6): Cj with j = (k - s - 1) mod 4. -/
def State.crossPort (s : State) (k : Nat) : Nat := 18 + (k + 7 - s.il.station) % 4

/-- The station that cross port p connects to (section 0, Conventions). -/
def State.peerOfPort (s : State) (p : Nat) : Nat := (s.il.station + (p - 18) + 1) % 4

/-- Is the cross port to peer k live? -/
def State.crossLive (s : State) (k : Nat) : Bool := s.live (s.crossPort k)

/-- The home uplink of spine path i as a port (R64). -/
def State.homePort (s : State) (i : Nat) : Nat := 16 + s.cfg.homes.getD i 0

/-- The other uplink. -/
def otherUplink (u : Nat) : Nat := if u = u0 then u1 else u0

/-- Is at least one uplink UP or SUSPECT? -/
def State.anyUplink (s : State) : Bool := s.live u0 || s.live u1

/-- The tenant set of access port p, and read the other way the flood set of a tenant: does the tenant map hold an
entry with scope p for tenant t (R31, R92)? -/
def State.serves (s : State) (p t : Nat) : Bool :=
  s.cfg.tenantMap.any (fun e => e.scope == .access p && e.tenant == t)

/-! ## Updates -/

/-- Give port p a new link record. -/
def State.setLink (s : State) (p : Nat) (l : PortLink) : State :=
  { s with ls := { s.ls with ports := Tab.write PortLink.reset s.ls.ports p l } }

/-- Give port p a new receive record. -/
def State.setIntake (s : State) (p : Nat) (i : PortIntake) : State :=
  { s with iu := { s.iu with ports := Tab.write PortIntake.reset s.iu.ports p i } }

/-- Give port p a new transmitter record. -/
def State.setTx (s : State) (p : Nat) (t : PortTx) : State :=
  { s with es := { s.es with ports := Tab.write PortTx.reset s.es.ports p t } }

/-- Give a class queue new content. -/
def State.setQueue (s : State) (q : Nat) (ds : List Desc) : State :=
  { s with es := { s.es with queues := Tab.write [] s.es.queues q ds } }

/-- Give access port p a new hold state. -/
def State.setHold (s : State) (p : Nat) (h : PortHold) : State :=
  { s with rc := { s.rc with ports := Tab.write PortHold.reset s.rc.ports p h } }

/-- Bind spine path i. -/
def State.setBinding (s : State) (i : Nat) (b : Binding) : State :=
  { s with pu := { s.pu with bindings := Tab.write .unbound s.pu.bindings i b } }

/-- Give peer k a new borrow record. -/
def State.setBorrow (s : State) (k : Nat) (b : BorrowRecord) : State :=
  { s with pu := { s.pu with borrows := Tab.write BorrowRecord.reset s.pu.borrows k b } }

/-- Create or change the lend record for peer k. -/
def State.setLend (s : State) (k : Nat) (l : LendRecord) : State :=
  { s with pu := { s.pu with lends := Tab.put s.pu.lends k l } }

/-- Remove the lend record for peer k. -/
def State.dropLend (s : State) (k : Nat) : State :=
  { s with pu := { s.pu with lends := Tab.drop s.pu.lends k } }

/-- Give peer k a new peer record. -/
def State.setPeer (s : State) (k : Nat) (r : PeerRecord) : State :=
  { s with pv := { s.pv with peers := Tab.write PeerRecord.reset s.pv.peers k r } }

/-- Do one thing for each of a list of numbers, in order. -/
def State.each (s : State) (ks : List Nat) (f : State → Nat → State) : State := ks.foldl f s

/-- Give each of a list of ports the link record that f makes of its own. -/
def State.mapLinks (s : State) (ps : List Nat) (f : PortLink → PortLink) : State :=
  ps.foldl (fun z p => z.setLink p (f (z.link p))) s

/-- Give each of a list of ports the transmitter record that f makes of its own. -/
def State.mapTx (s : State) (ps : List Nat) (f : PortTx → PortTx) : State :=
  ps.foldl (fun z p => z.setTx p (f (z.tx p))) s

/-- Give each of a list of access ports the hold state that f makes of its own. -/
def State.mapHolds (s : State) (ps : List Nat) (f : PortHold → PortHold) : State :=
  ps.foldl (fun z p => z.setHold p (f (z.hold p))) s

/-- Give each of a list of peers the borrow record that f makes of its own. -/
def State.mapBorrows (s : State) (ks : List Nat) (f : BorrowRecord → BorrowRecord) : State :=
  ks.foldl (fun z k => z.setBorrow k (f (z.borrow k))) s

/-- Give each of a list of peers the peer record that f makes of its own. -/
def State.mapPeers (s : State) (ks : List Nat) (f : PeerRecord → PeerRecord) : State :=
  ks.foldl (fun z k => z.setPeer k (f (z.peer k))) s

/-- Bind each of a list of spine paths as f says. -/
def State.rebind (s : State) (is : List Nat) (f : Nat → Binding) : State :=
  is.foldl (fun z i => z.setBinding i (f i)) s

/-! ## What the data ports show (R39, R41, R58) -/

/-- The bytes a port sends for the frame in flight on it, if there is one: a copy with a new frame check, behind
its group header on a cross port (R8, R39), or a hold frame (R41). -/
def State.portBytes (s : State) (p : Nat) : Option (List Byte) :=
  match (s.tx p).state with
  | .sending (.copy d) =>
    match Tab.find? s.bm.frames d.frame with
    | some f =>
      if portKind p = .cross then
        some (withFrameCheck (headerBytes { origin := s.il.station, tenant := f.tenant, cls := f.cls
                                            borrowed := d.borrowed, flood := d.flood } ++ f.body))
      else some (withFrameCheck f.body)
    | none => none
  | .sending (.hold t) => some (holdFrameBytes s.cfg.portBase p t)
  | .idle => none
  | .held => none

/-- What a port's transmitter puts on the line (R58). -/
inductive PortSignal where
  | silent
  | idleSignal
  | carrying
  deriving DecidableEq, Repr

/-- The signal a port sends: none in HELD-DOWN and while the image is not CONFIGURED, idle signal without frames in
DOWN and QUALIFYING, frames between idle signal in UP and SUSPECT (R58). -/
def State.portSignal (s : State) (p : Nat) : PortSignal :=
  if s.configured then
    match (s.link p).state with
    | .heldDown => .silent
    | .down => .idleSignal
    | .qualifying => .idleSignal
    | .up => .carrying
    | .suspect => .carrying
  else .silent

end Sys2Proof.Machine
end

