-- ==== Sys2Proof/Machine/Image.lean ====
section
/-! DEFINITION. The configuration image: the checks of a load (R161), the reading and clamping of every field at the
acceptance event (R162, R172, and the rules that own the settings), the decoding of tariffs (R140), and the commands
RESET and IMAGE_LOAD_END. -/

namespace Sys2Proof.Machine

open Sys2Proof.Config

/-! ## The checks (R161) -/

/-- The length in bytes that the image's length field gives (R172). -/
def imageLength (b : List Byte) : Nat := be16 b 2

/-- The tenant map count m (R172). -/
def mapCount (b : List Byte) : Nat := be16 b 91

/-- The tenant table count t (R172). -/
def tableCount (b : List Byte) : Nat := be16 b (93 + 4 * mapCount b)

/-- Does the CRC-32 over bytes 0 to length - 5 match the last four bytes, least significant first (R161)? -/
def imageCrcOk (b : List Byte) : Bool :=
  (crc32 (b.take (imageLength b - 4))).toNat == leNat ((b.drop (imageLength b - 4)).take 4)

/-- The checks of R161 in their order, over the bytes the EEPROM acknowledged: the reason of the first that fails, or
none. The presence check covers the bytes up to the length field's length (notes/assumptions/8.md). -/
def imageReason (b : List Byte) : LoadReason :=
  if b.length < 4 ∨ be16 b 0 = 0xFFFF ∨ b.length < imageLength b then .noImage
  else if be16 b 0 ≠ 0x5A48 then .format
  else if imageLength b < 99 ∨ 16384 < imageLength b then .format
  else if imageLength b < 95 + 4 * mapCount b ∨ imageLength b ≠ 99 + 4 * mapCount b + 25 * tableCount b then .format
  else if imageCrcOk b then .none else .checkFail

/-! ## Clamps -/

/-- A value in a legal range: below it reads as its low end, above it as its high end. -/
def clampTo (lo hi v : Nat) : Nat := if v < lo then lo else if hi < v then hi else v

/-- Prescale: 1, 16 or 256, anything else 256 (R164). -/
def readPrescale (v : Nat) : Nat := if v = 1 ∨ v = 16 ∨ v = 256 then v else 256

/-- A time constant: 0 stands for 256 and no value is clamped (R165). -/
def readConstant (v : Nat) : Nat := if v = 0 then 256 else v

/-- The group default method: outside 1 to 8 it reads as 4 (R142). -/
def readGroupMethod (v : Nat) : Nat := if 1 ≤ v ∧ v ≤ 8 then v else 4

/-- The held limit: 0 or above 256 reads as 256 (R44). -/
def readHeldLimit (v : Nat) : Nat := if v = 0 ∨ 256 < v then 256 else v

/-- A queue limit: 0 or above 24,576 reads as 24,576 (R11). -/
def readQueueLimit (v : Nat) : Nat := if v = 0 ∨ bufferCells < v then bufferCells else v

/-- The return level: first as the other levels, then at or above the shed level it reads as the shed level minus 1 (R86). -/
def readReturnLevel (shed v : Nat) : Nat := if shed ≤ clampTo 1 5 v then shed - 1 else clampTo 1 5 v

/-- The withdraw level: first as the other levels, then below the lend limit it reads as the lend limit (R86). -/
def readWithdrawLevel (lend v : Nat) : Nat := if clampTo 1 5 v < lend then lend else clampTo 1 5 v

/-- One stage mark after the mark before it (R86). -/
def readMark (before v : Nat) : Nat := if min v bufferCells < before + 1 then before + 1 else min v bufferCells

/-- The stage marks M1 to M5: each above 24,576 reads as 24,576, M1 of 0 as 1, then each in turn is at least the mark
before it plus 1 (R86). -/
def readMarks : Nat → List Nat → List Nat
  | _, [] => []
  | before, v :: vs => readMark before v :: readMarks (readMark before v) vs

/-- A home field: 0 names U0 and 1 names U1, any other value reads as the path's default (R64). -/
def readHome (path v : Nat) : Nat := if v ≤ 1 then v else defaultHomes.getD path 0

/-! ## The fields of an image (R172) -/

/-- Read n one-byte fields from offset i. -/
def bytesAt (b : List Byte) (i n : Nat) : List Nat := (List.range n).map (fun k => byteAt b (i + k))

/-- Read n two-byte fields from offset i. -/
def wordsAt (b : List Byte) (i n : Nat) : List Nat := (List.range n).map (fun k => be16 b (i + 2 * k))

/-- How many of a list of fields were read other than as loaded. -/
def clampCount (loaded read : List Nat) : Nat :=
  ((loaded.zip read).filter (fun e => e.1 ≠ e.2)).length

/-- The fields of fixed place as loaded, in the order of readFields. -/
def loadedFields (b : List Byte) : List Nat :=
  [byteAt b 4, be16 b 5] ++ bytesAt b 10 8 ++ bytesAt b 18 3
    ++ [byteAt b 21, byteAt b 22, byteAt b 23, be16 b 24, byteAt b 26, byteAt b 27]
    ++ bytesAt b 28 5 ++ bytesAt b 33 8
    ++ [be16 b 47, be16 b 49] ++ wordsAt b 51 5 ++ [be16 b 61, be16 b 63, be16 b 65] ++ wordsAt b 67 12

/-! ### The tenant map (R5) -/

/-- A tenant map entry as its four bytes give it; none when it cannot be placed (R5, R172). -/
def readMapEntry (b : List Byte) (i : Nat) : Option MapEntry :=
  let scope := byteAt b i
  let tag := be16 b (i + 1)
  let tenant := byteAt b (i + 3)
  if tag ≤ 4094 ∧ tenant ≠ 0 then
    if scope < 16 then some { scope := .access scope, tag := tag, tenant := tenant }
    else if scope = 255 then some { scope := .spine, tag := tag, tenant := tenant }
    else none
  else none

/-- The tenant map entries that are loaded, the first 1,024 in image order, each placed or not (R5). -/
def mapEntries (b : List Byte) : List (Option MapEntry) :=
  (List.range (min (mapCount b) 1024)).map (fun i => readMapEntry b (93 + 4 * i))

/-- Keep the first entry of each key (R5). -/
def keepFirst : List MapEntry → List MapEntry
  | [] => []
  | e :: es => e :: (keepFirst es).filter (fun f => !(f.scope == e.scope && f.tag == e.tag))

/-- The tenant map (R5). -/
def readTenantMap (b : List Byte) : List MapEntry := keepFirst ((mapEntries b).filterMap id)

/-- The clamps of the tenant map: one for more than 1,024 entries and one for each entry left out as one that cannot
be placed (R5). -/
def mapClamps (b : List Byte) : Nat :=
  (if 1024 < mapCount b then 1 else 0) + ((mapEntries b).filter Option.isNone).length

/-! ### The tenant table (R162) and tariffs (R140) -/

/-- The fourteen nibbles of a tariff field: pad, digits 1 to 12, sign (R140, R172). -/
def tariffNibbles (b : List Byte) (i : Nat) : List Nat :=
  (bytesAt b i 7).flatMap (fun v => [v / 16, v % 16])

/-- Is a sign nibble a plus code, a minus code or no sign (R140)? -/
def isMinus (n : Nat) : Bool := n == 0xB || n == 0xD

/-- Decode a tariff from its fourteen nibbles; none when it is invalid (R140). -/
def decodeTariff (ns : List Nat) : Option Nat :=
  let digits := (ns.drop 1).take 12
  let sign := ns.getD 13 0
  if digits.any (fun d => decide (9 < d)) then none
  else if ns.getD 0 0 ≠ 0 then none
  else if sign ≤ 9 then none
  else if isMinus sign && digits.any (fun d => d != 0) then none
  else some (digits.foldl (fun v d => v * 10 + d) 0)

/-- The resolved method of a method code (R142). -/
def resolveMethod (group code : Nat) : Nat := if 1 ≤ code ∧ code ≤ 8 then code else group

/-- One tenant table entry at an offset (R141, R142, R162, R172). -/
def readTenant (b : List Byte) (group i : Nat) : TenantSettings :=
  let code := byteAt b (i + 24) % 16
  let share := min (be16 b (i + 1)) bufferCells
  let suppress := (byteAt b (i + 24)).testBit 7
  match decodeTariff (tariffNibbles b (i + 3)), decodeTariff (tariffNibbles b (i + 10)),
    decodeTariff (tariffNibbles b (i + 17)) with
  | some c, some e, some d =>
    { share := share, rc := c, re := e, rd := d, valid := true, methodCode := code
      method := resolveMethod group code, suppress := suppress }
  | _, _, _ =>
    { share := share, rc := 0, re := 0, rd := 0, valid := false, methodCode := code
      method := resolveMethod group code, suppress := suppress }

/-- The clamps of one tenant table entry that is taken: its committed share (R11) and its method code (R142). -/
def tenantClamps (b : List Byte) (i : Nat) : Nat :=
  (if bufferCells < be16 b (i + 1) then 1 else 0) + (if 9 ≤ byteAt b (i + 24) % 16 then 1 else 0)

/-- The offsets of the tenant table's entries (R172). -/
def tableOffsets (b : List Byte) : List Nat :=
  (List.range (tableCount b)).map (fun i => 95 + 4 * mapCount b + 25 * i)

/-- Take one tenant table entry: tenant 0 is left out and counted, a later entry of a tenant is left out uncounted (R162). -/
def takeTenant (b : List Byte) (group : Nat) (acc : Tab TenantSettings × Nat) (i : Nat) : Tab TenantSettings × Nat :=
  let t := byteAt b i
  if t = 0 then (acc.1, acc.2 + 1)
  else if Tab.has acc.1 t then acc
  else (Tab.put acc.1 t (readTenant b group i), acc.2 + tenantClamps b i)

/-- The tenant table with its clamps (R162). -/
def readTenants (b : List Byte) (group : Nat) : Tab TenantSettings × Nat :=
  (tableOffsets b).foldl (takeTenant b group) ([], 0)

/-! ### All settings -/

/-- The settings an accepted image gives (R162, R172). -/
def readSettings (b : List Byte) : Settings :=
  let group := readGroupMethod (byteAt b 4)
  let shed := clampTo 1 5 (byteAt b 29)
  let lend := clampTo 1 5 (byteAt b 31)
  let marks := readMarks 0 (wordsAt b 51 5)
  let holdMark := clampTo 1 bufferCells (be16 b 61)
  { groupMethod := group
    prescale := readPrescale (be16 b 5)
    t1 := readConstant (byteAt b 7), t2 := readConstant (byteAt b 8), t3 := readConstant (byteAt b 9)
    classMap := (bytesAt b 10 8).map (fun v => min v 3)
    stageAccess := clampTo 1 6 (byteAt b 18)
    stageUplink := clampTo 1 6 (byteAt b 19)
    stageCross := clampTo 1 6 (byteAt b 20)
    errorLimit := clampTo 1 255 (byteAt b 21)
    flapLimit := clampTo 1 15 (byteAt b 22)
    ageLimit := clampTo 2 15 (byteAt b 23)
    heldLimit := readHeldLimit (be16 b 24)
    showLimit := clampTo 1 16 (byteAt b 26)
    maxShed := clampTo 1 8 (byteAt b 27)
    excessCut := clampTo 1 5 (byteAt b 28)
    shedLevel := shed
    returnLevel := readReturnLevel shed (byteAt b 30)
    lendLimit := lend
    withdrawLevel := readWithdrawLevel lend (byteAt b 32)
    homes := paths.map (fun i => readHome i (byteAt b (33 + i)))
    portBase := addrAt b 41
    holdTime := clampTo 1 65535 (be16 b 47)
    hysteresis := min (be16 b 49) (marks.getD 0 1)
    marks := marks
    holdMark := holdMark
    releaseMark := min (be16 b 63) holdMark
    excessReserve := min (be16 b 65) bufferCells
    queueLimits := (wordsAt b 67 12).map readQueueLimit
    tenantMap := readTenantMap b
    tenantTable := (readTenants b group).1 }

/-- The fields of fixed place as read, in the order of loadedFields. -/
def readFields (c : Settings) : List Nat :=
  [c.groupMethod, c.prescale] ++ c.classMap ++ [c.stageAccess, c.stageUplink, c.stageCross]
    ++ [c.errorLimit, c.flapLimit, c.ageLimit, c.heldLimit, c.showLimit, c.maxShed]
    ++ [c.excessCut, c.shedLevel, c.returnLevel, c.lendLimit, c.withdrawLevel] ++ c.homes
    ++ [c.holdTime, c.hysteresis] ++ c.marks ++ [c.holdMark, c.releaseMark, c.excessReserve] ++ c.queueLimits

/-- The clamped-field count of an accepted image (R162). -/
def imageClamps (b : List Byte) : Nat :=
  satAdd count16 0 (clampCount (loadedFields b) (readFields (readSettings b)) + mapClamps b
    + (readTenants b (readGroupMethod (byteAt b 4))).2)

/-! ## The end of a load (R162, R163) -/

/-- The acceptance event (R162): the settings are loaded, the state is CONFIGURED, the Time Base counters (R165) and the
window counter (R62) start, and the Crossline receiver runs from here (R118). -/
def State.accept (s : State) (b : List Byte) : State :=
  let c := readSettings b
  { s with
    il := { s.il with state := .configured, clamped := imageClamps b }
    cfg := c
    tb := { s.tb with prescaler := some c.prescale, t1 := some c.t1, t2 := some c.t2, t3 := some c.t3 }
    ls := { s.ls with window := some 0 } }

/-- A load that fails (R161, R163). -/
def State.refuseImage (s : State) (r : LoadReason) : State :=
  { s with il := { s.il with state := .unconfigured, reason := r } }

/-- The end of the image load; a load that has already ended does not end again (R160, R161). -/
def State.endLoad (s : State) (b : List Byte) : State :=
  if s.il.state = .loading then
    match imageReason b with
    | .none => s.accept b
    | .noImage => s.refuseImage .noImage
    | .format => s.refuseImage .format
    | .checkFail => s.refuseImage .checkFail
  else s

/-- The ports whose receivers report a signal at reset release (R48, R160). -/
def signalPorts (signals : BitVec 21) : Tab PortLink :=
  (allPorts.filter (fun p => signals.getLsbD p)).map (fun p => (p, { PortLink.reset with signal := true }))

/-- Every block at its reset values, with the straps' station number and the receivers' signal reports (R48, R160). The
commands that wait are outside the part and stay. -/
def State.resetWith (s : State) (straps : Nat) (signals : BitVec 21) : State :=
  { State.reset with
    il := { State.reset.il with station := straps }
    ls := { State.reset.ls with ports := signalPorts signals }
    pending := s.pending }

/-! ## Commands -/

/-- RESET (R160). -/
def execReset (straps : Fin 4) (signals : BitVec 21) (s : State) : Host.Outcome State Fault Refusal :=
  .next (s.resetWith straps signals)

/-- IMAGE_LOAD_END (R161 to R163). -/
def execImageLoadEnd (bytes : List Byte) (s : State) : Host.Outcome State Fault Refusal := .next (s.endLoad bytes)

end Sys2Proof.Machine
end

