-- ==== Sys2Proof/Machine/AddressTable.lean ====
section
/-! DEFINITION. The Address Table (Chapter 2): finding a key, learning, lookup, aging and removal, the application of
received announcements, and the building of ADDRESS content. Way w of bucket b is way number 4b + w. -/

namespace Sys2Proof.Machine

open Sys2Proof.Config

/-- The way numbers of a bucket, lowest first. -/
def waysOf (b : Nat) : List Nat := [4 * b, 4 * b + 1, 4 * b + 2, 4 * b + 3]

/-- Does an entry have this key? -/
def Entry.hasKey (e : Entry) (t : Nat) (a : Addr) : Bool := e.tenant == t && e.addr == a

/-- The way that holds a key, with its entry (R20, R22, R27). -/
def AddressTable.findKey (x : AddressTable) (t : Nat) (a : Addr) : Option (Nat × Entry) :=
  (waysOf (bucketOf t a)).findSome? (fun i =>
    match Tab.find? x.ways i with
    | some e => if e.hasKey t a then some (i, e) else none
    | none => none)

/-- Put an entry in a way. -/
def AddressTable.setWay (x : AddressTable) (i : Nat) (e : Entry) : AddressTable :=
  { x with ways := Tab.put x.ways i e }

/-- Make a way FREE. -/
def AddressTable.freeWay (x : AddressTable) (i : Nat) : AddressTable := { x with ways := Tab.drop x.ways i }

/-- Learning skipped: the learn-skipped count rises by one (R21, R27). -/
def AddressTable.skip (x : AddressTable) : AddressTable := { x with skipped := bump x.skipped }

/-- Is this entry ANNOUNCED? -/
def Entry.isAnnounced (e : Entry) : Bool := match e.place with
  | .atPeer _ => true
  | .atPort _ _ _ => false
  | .retired _ => false

/-- Is this entry RETIRED? -/
def Entry.isRetired (e : Entry) : Bool := match e.place with
  | .retired _ => true
  | .atPort _ _ _ => false
  | .atPeer _ => false

/-- The age of a LOCAL entry. -/
def Entry.age? (e : Entry) : Option Nat := match e.place with
  | .atPort _ a _ => some a
  | .atPeer _ => none
  | .retired _ => none

/-- The lowest-numbered FREE way of a bucket. -/
def AddressTable.freeIn (x : AddressTable) (b : Nat) : Option Nat :=
  (waysOf b).find? (fun i => !(Tab.has x.ways i))

/-- The lowest-numbered way of a bucket whose entry passes a test. -/
def AddressTable.firstIn (x : AddressTable) (b : Nat) (p : Entry → Bool) : Option Nat :=
  (waysOf b).find? (fun i => match Tab.find? x.ways i with
    | some e => p e
    | none => false)

/-- The highest age among the LOCAL ways of a bucket, 0 if there is none. -/
def AddressTable.oldestAge (x : AddressTable) (b : Nat) : Nat :=
  ((waysOf b).map (fun i => ((Tab.find? x.ways i).bind Entry.age?).getD 0)).foldl max 0

/-- The LOCAL way that R21's third case takes: the lowest-numbered of the highest age, if that age is 2 or more. -/
def AddressTable.oldLocal (x : AddressTable) (b : Nat) : Option Nat :=
  if 2 ≤ x.oldestAge b then x.firstIn b (fun e => e.age? == some (x.oldestAge b)) else none

/-- The way a new LOCAL entry takes, in the order of R21; none when learning is skipped. -/
def AddressTable.victim (x : AddressTable) (b : Nat) : Option Nat :=
  (x.freeIn b).orElse fun _ => (x.firstIn b Entry.isAnnounced).orElse fun _ =>
    (x.oldLocal b).orElse fun _ => x.firstIn b Entry.isRetired

/-- Learn from the source of an ACCESS arrival on port p (R20, R21). -/
def AddressTable.learn (x : AddressTable) (t : Nat) (a : Addr) (p : Nat) : AddressTable :=
  match x.findKey t a with
  | some (i, e) =>
    match e.place with
    | .atPort q _ m =>
      if q = p then x.setWay i { e with place := .atPort q 0 m }
      else x.setWay i { e with moves := nextMoves e.moves, place := .atPort p 0 .pending }
    | .atPeer _ => x.setWay i { e with moves := nextMoves e.moves, place := .atPort p 0 .pending }
    | .retired _ => x.setWay i { e with moves := nextMoves e.moves, place := .atPort p 0 .pending }
  | none =>
    match x.victim (bucketOf t a) with
    | some i => x.setWay i { tenant := t, addr := a, moves := 0, place := .atPort p 0 .pending }
    | none => x.skip

/-- What a lookup gives (R22). -/
inductive Lookup where
  | localAt (port : Nat)
  | announcedAt (peer : Nat)
  | miss
  | group
  deriving DecidableEq, Repr

/-- Look up the destination of an arrival (R22). -/
def AddressTable.lookup (x : AddressTable) (t : Nat) (a : Addr) : Lookup :=
  if isGroup a then .group
  else match x.findKey t a with
    | some (_, e) => match e.place with
      | .atPort q _ _ => .localAt q
      | .atPeer k => .announcedAt k
      | .retired _ => .miss
    | none => .miss

/-- Does the age tick bring this entry to the age limit (R23)? -/
def Entry.agesOut (limit : Nat) (e : Entry) : Bool :=
  match e.place with
  | .atPort _ a _ => decide (limit ≤ a + 1)
  | .atPeer _ => false
  | .retired _ => false

/-- The age tick at one entry (R23): a LOCAL entry's age rises, and at the limit it becomes RETIRED and PENDING. -/
def Entry.ageTick (limit : Nat) (e : Entry) : Entry :=
  match e.place with
  | .atPort q a m =>
    if limit ≤ a + 1 then { e with place := .retired .pending } else { e with place := .atPort q (a + 1) m }
  | .atPeer _ => e
  | .retired _ => e

/-- The age tick, one event over the whole table (R22, R23). -/
def AddressTable.ageTick (x : AddressTable) (limit : Nat) : AddressTable :=
  { x with ways := Tab.filterMap (fun _ e => some (e.ageTick limit)) x.ways }

/-- Does the age tick bring the entry of way i to the age limit (R23)? -/
def AddressTable.agesOut (x : AddressTable) (limit i : Nat) : Bool :=
  match Tab.find? x.ways i with
  | some e => e.agesOut limit
  | none => false

/-- Make every LOCAL entry at access port p RETIRED and PENDING (R24). -/
def AddressTable.retirePort (x : AddressTable) (p : Nat) : AddressTable :=
  { x with ways := Tab.filterMap (fun _ e => some (match e.place with
      | .atPort q _ _ => if q = p then { e with place := .retired .pending } else e
      | .atPeer _ => e
      | .retired _ => e)) x.ways }

/-- Make every entry ANNOUNCED at peer k FREE (R25). -/
def AddressTable.freePeer (x : AddressTable) (k : Nat) : AddressTable :=
  { x with ways := Tab.filterMap (fun _ e => match e.place with
      | .atPeer j => if j = k then none else some e
      | .atPort _ _ _ => some e
      | .retired _ => some e) x.ways }

/-- Does an announcement from station k win over a LOCAL entry at this station (R28)? -/
def announceWins (self k incoming own : Nat) : Bool :=
  let d := (incoming + 16 - own % 16) % 16
  decide (1 ≤ d ∧ d ≤ 7) || (d == 0 && decide (k < self))

/-- Apply one entry of an ADDRESS message from station k (R27, R28). -/
def AddressTable.apply (self k : Nat) (x : AddressTable) (m : AddressEntry) : AddressTable :=
  if m.tenant = 0 ∨ isGroup m.addr = true then x
  else match x.findKey m.tenant m.addr with
    | some (i, e) =>
      if m.forget then
        match e.place with
        | .atPeer j => if j = k then x.freeWay i else x
        | .atPort _ _ _ => x
        | .retired _ => x
      else match e.place with
        | .atPeer _ => x.setWay i { e with moves := m.moves, place := .atPeer k }
        | .retired _ => x.setWay i { e with moves := m.moves, place := .atPeer k }
        | .atPort q a _ =>
          if announceWins self k m.moves e.moves then x.setWay i { e with moves := m.moves, place := .atPeer k }
          else x.setWay i { e with place := .atPort q a .pending }
    | none =>
      if m.forget then x
      else
        let b := bucketOf m.tenant m.addr
        match (x.freeIn b).orElse fun _ => x.firstIn b Entry.isAnnounced with
        | some i => x.setWay i { tenant := m.tenant, addr := m.addr, moves := m.moves, place := .atPeer k }
        | none => x.skip

/-- Apply the entries of an ADDRESS message in the order they are carried (R27). A message that names the station
itself as its sender is disregarded. -/
def AddressTable.applyAll (x : AddressTable) (self k : Nat) (ms : List AddressEntry) : AddressTable :=
  if k = self then x else ms.foldl (AddressTable.apply self k) x

/-! ## ADDRESS content (R29) and the re-announce scan (R30) -/

/-- The announce mark of an entry, CLEAR where it has none. -/
def Entry.mark (e : Entry) : Mark := match e.place with
  | .atPort _ _ m => m
  | .retired m => m
  | .atPeer _ => .clear

/-- Give an entry that has an announce mark another one. -/
def Entry.setMark (e : Entry) (m : Mark) : Entry := match e.place with
  | .atPort q a _ => { e with place := .atPort q a m }
  | .retired _ => { e with place := .retired m }
  | .atPeer _ => e

/-- The ways that the next ADDRESS frame takes: PENDING ones, searched from the build position, up to 12 (R29). -/
def AddressTable.taken (x : AddressTable) : Tab Entry :=
  ((x.ways.filter (fun e => decide (x.build ≤ e.1)) ++ x.ways.filter (fun e => decide (e.1 < x.build))).filter
    (fun e => e.2.mark == .pending)).take 12

/-- The ADDRESS entry that announces a taken way (R29). -/
def Entry.announcement (e : Entry) : AddressEntry :=
  { tenant := e.tenant, addr := e.addr, moves := e.moves, forget := e.isRetired }

/-- Build ADDRESS content: the message's entries and the table with the taken ways IN-FRAME; none when no way is
PENDING or a frame is outstanding (R29). -/
def AddressTable.buildContent (x : AddressTable) : Option (List AddressEntry × AddressTable) :=
  if x.outstanding then none
  else match x.taken.getLast? with
    | none => none
    | some l =>
      some (x.taken.map (fun e => e.2.announcement),
        { x with
          ways := x.taken.foldl (fun t e => Tab.put t e.1 (e.2.setMark .inFrame)) x.ways
          build := (l.1 + 1) % Config.ways
          outstanding := true })

/-- The outstanding ADDRESS frame has been sent (R29, R26). -/
def AddressTable.sent (x : AddressTable) : AddressTable :=
  { x with
    ways := Tab.filterMap (fun _ e =>
      if e.mark = .inFrame then (if e.isRetired then none else some (e.setMark .clear)) else some e) x.ways
    outstanding := false }

/-- The outstanding ADDRESS frame has been discarded (R29). -/
def AddressTable.discarded (x : AddressTable) : AddressTable :=
  { x with
    ways := Tab.filterMap (fun _ e => some (if e.mark = .inFrame then e.setMark .pending else e)) x.ways
    outstanding := false }

/-- One way under a step of the scan: PENDING if it is LOCAL and CLEAR (R30). -/
def Entry.scanMark (e : Entry) : Entry := match e.place with
  | .atPort q a .clear => { e with place := .atPort q a .pending }
  | .atPort _ _ .pending => e
  | .atPort _ _ .inFrame => e
  | .atPeer _ => e
  | .retired _ => e

/-- One step of the full re-announce scan, while its position is not IDLE (R30). -/
def AddressTable.scanStep (x : AddressTable) : AddressTable :=
  match x.scan with
  | none => x
  | some b =>
    { x with
      ways := Tab.filterMap (fun i e => some (if i / 4 = b then e.scanMark else e)) x.ways
      scan := if b + 1 = buckets then none else some (b + 1) }

/-- A request for a full re-announce: the scan starts again at bucket 0 (R30). -/
def AddressTable.requestScan (x : AddressTable) : AddressTable := { x with scan := some 0 }

end Sys2Proof.Machine
end

