-- ==== Sys2Proof/Machine/Crossline.lean ====
section
/-! DEFINITION. The Crossline Controller (Chapter 7): the transmit queues, the taking of a frame in hand, attempts and
their ends, the word receiver with its checks and filter, and the notice queue. -/

namespace Sys2Proof.Machine

open Sys2Proof.Config

/-! ## Sources of a LEVEL (R115) -/

/-- Has a borrow record this reason, REQUESTED or ACTIVE (R70)? -/
def BorrowState.hasReason (b : BorrowState) (r : Reason) : Bool := match b with
  | .none => false
  | .requested q => q == r
  | .active q => q == r

/-- The fault lender or the relief lender: the peer of a record of that reason that is REQUESTED or ACTIVE (R70). -/
def State.lender (s : State) (r : Reason) : Option Nat :=
  s.peers.find? (fun k => (s.borrow k).state.hasReason r)

/-- The active lend count (R79). -/
def State.lendCount (s : State) : Nat := (s.peers.filter (fun k => (s.lend k).isSome)).length

/-- The contents of a LEVEL from its sources as they stand (R115). -/
def State.levelFields (s : State) : LevelFields :=
  { level := s.rc.level, u0 := (s.link u0).state, u1 := (s.link u1).state, lendOffer := s.rc.lendOffer
    lendCount := s.lendCount, faultLender := s.lender .fault, reliefLender := s.lender .relief
    solePath := s.pu.solePath, lostNotices := s.xc.lostNotices }

/-! ## Taking a frame in hand (R113) -/

/-- Is this message a STATUS? -/
def Msg.isStatus (m : Msg) : Bool := m.kind == .status

/-- Put a message in hand, with no failed attempt yet (R113). -/
def State.inHand (s : State) (m : Msg) : State :=
  { s with xc := { s.xc with hand := some { msg := m, built := none }, attempts := 0 } }

/-- Take a list's first message that passes a test, and leave the rest. -/
def takeFirst (p : Msg → Bool) : List Msg → Option (Msg × List Msg)
  | [] => none
  | m :: ms =>
    if p m then some (m, ms)
    else match takeFirst p ms with
      | some (n, rest) => some (n, m :: rest)
      | none => none

/-- Ask the Address Table for ADDRESS content, and take it in hand if there is any (R29, R113). -/
def State.askAddress (s : State) : State :=
  match s.tab.buildContent with
  | some (es, x) => { s with tab := x }.inHand (.address es)
  | none => s

/-- Take a frame when the hand is empty (R113): the front of the urgent queue, else of the normal queue, else ADDRESS
content; a silenced station takes the oldest STATUS only (R108). A step that may queue a message, empty the hand or set a
mark PENDING ends with it, once (notes/assumptions/6.md). -/
def State.takeFrame (s : State) : State :=
  if s.xc.hand.isSome ∨ s.il.state = .loading then s
  else if s.xc.duplicate then
    match takeFirst Msg.isStatus s.xc.normal with
    | some (m, rest) => { s with xc := { s.xc with normal := rest } }.inHand m
    | none => s
  else match s.xc.urgent with
    | m :: rest => { s with xc := { s.xc with urgent := rest } }.inHand m
    | [] => match s.xc.normal with
      | m :: rest => { s with xc := { s.xc with normal := rest } }.inHand m
      | [] => if s.configured then s.askAddress else s

/-! ## Queuing (R112) -/

/-- Put a message in a queue: in the place of a waiting one of its key, else at the tail (R112). -/
def placeMsg (m : Msg) : List Msg → List Msg
  | [] => [m]
  | n :: ns => if n.sameKey m then m :: ns else n :: placeMsg m ns

/-- Queue a message in the urgent queue (R112). -/
def State.queueUrgent (s : State) (m : Msg) : State :=
  { s with xc := { s.xc with urgent := placeMsg m s.xc.urgent } }

/-- Queue a message in the normal queue (R112). -/
def State.queueNormal (s : State) (m : Msg) : State :=
  { s with xc := { s.xc with normal := placeMsg m s.xc.normal } }

/-- Remove every waiting urgent message of a kind for a peer (R112). -/
def State.dropUrgent (s : State) (k : Kind) (peer : Nat) : State :=
  { s with xc := { s.xc with urgent := s.xc.urgent.filter (fun m => !(m.kind == k && m.dest == peer)) } }

/-- Take a waiting RETURN for a peer out of the normal queue (R72, R112). -/
def State.dropReturn (s : State) (peer : Nat) : State :=
  { s with xc := { s.xc with normal := s.xc.normal.filter (fun m => !(m.kind == .ret && m.dest == peer)) } }

/-- Queue a BORROW (R72). -/
def State.sendBorrow (s : State) (k : Nat) (r : Reason) : State := s.queueUrgent (.borrow k r s.pu.solePath)

/-- Queue a GRANT; one with result GRANTED removes a WITHDRAW waiting for the same peer (R112). -/
def State.sendGrant (s : State) (k : Nat) (r : GrantResult) : State :=
  (if r = .granted then s.dropUrgent .withdraw k else s).queueUrgent (.grant k r)

/-- Queue a WITHDRAW, which removes a GRANT waiting for the same peer (R112). -/
def State.sendWithdraw (s : State) (k : Nat) (r : WithdrawReason) : State :=
  (s.dropUrgent .grant k).queueUrgent (.withdraw k r)

/-- Queue a RETURN (R69, R74). -/
def State.sendReturn (s : State) (k : Nat) : State := s.queueNormal (.ret k)

/-- Queue a LEVEL to ALL; none is queued while the image is not CONFIGURED (R115). -/
def State.queueLevel (s : State) : State := if s.configured then s.queueNormal .level else s

/-- Is a reply of this kind to this collector waiting, or the frame in hand (R112)? -/
def State.replyWaits (s : State) (k : Kind) (c : Nat) : Bool :=
  s.xc.normal.any (fun m => m.kind == k && m.dest == c)
    || (match s.xc.hand with
        | some h => h.msg.kind == k && h.msg.dest == c
        | none => false)

/-! ## The end of a frame in hand (R107, R114) -/

/-- Tell the owner of a frame that it was sent (R114). DEDUCED: the clearing of the lost-notices flag by a sent LEVEL queues
no further LEVEL, as in section 7.11, event 6 (R115, notes/assumptions/27.md). -/
def State.ownerSent (s : State) (h : Hand) : State :=
  match h.msg with
  | .address _ => { s with tab := s.tab.sent }
  | .level => match h.built with
    | some l => if l.lostNotices then { s with xc := { s.xc with lostNotices := s.xc.lostAgain } } else s
    | none => s
  | .borrow _ _ _ => s
  | .grant _ _ => s
  | .withdraw _ _ => s
  | .ret _ => s
  | .billRecord _ _ => s
  | .status _ _ => s

/-- Tell the owner of a frame that it was discarded (R114). -/
def State.ownerDiscarded (s : State) (h : Hand) : State :=
  match h.msg with
  | .address _ => { s with tab := s.tab.discarded }
  | .level => s
  | .borrow _ _ _ => s
  | .grant _ _ => s
  | .withdraw _ _ => s
  | .ret _ => s
  | .billRecord _ _ => s
  | .status _ _ => s

/-- Empty the hand (R114). -/
def State.emptyHand (s : State) : State := { s with xc := { s.xc with hand := none, attempts := 0 } }

/-- Discard the frame in hand and tell its owner; the hand is empty (R107, R108, R114). -/
def State.discardHand (s : State) : State :=
  match s.xc.hand with
  | some h => (s.ownerDiscarded h).emptyHand
  | none => s

/-- A failed attempt (R107): the station stops driving, and at the fourth the frame is discarded. -/
def State.failAttempt (s : State) : State :=
  let s1 := { s with xc := { s.xc with toDrive := none, rxOwn := false, ownLast := true } }
  match s.xc.hand with
  | some _ =>
    if 4 ≤ s.xc.attempts + 1 then { s1 with xc := { s1.xc with lineFault := true } }.discardHand
    else { s1 with xc := { s1.xc with attempts := s.xc.attempts + 1 } }
  | none => s1

/-! ## Receiving (R104, R108, R109, R110) -/

/-- Count one line error (R104, R109, R120, R170). -/
def State.lineError (s : State) : State := { s with xc := { s.xc with lineErrors := bump s.xc.lineErrors } }

/-- Offer a notice to the notice queue (R110): at 16 it replaces the newest, which is lost. -/
def State.offerNotice (s : State) (n : Notice) : State :=
  if s.xc.notices.length < 16 then { s with xc := { s.xc with notices := s.xc.notices ++ [n] } }
  else
    let s1 := { s with xc := { s.xc with notices := s.xc.notices.dropLast ++ [n], overruns := bump s.xc.overruns
                                         overrunLatch := true, lostNotices := true, lostAgain := true } }
    if s.xc.lostNotices then s1 else s1.queueLevel

/-- Does a switching station accept a frame of this kind from this sender to this destination (R109)? -/
def State.accepts (s : State) (k : Kind) (sender dest : Nat) : Bool :=
  let fromPeer := decide (sender ≤ 3) && sender != s.il.station
  let fromCollector := decide (4 ≤ sender)
  let toSelf := dest == s.il.station
  match k with
  | .level => dest == destAll && fromPeer
  | .address => dest == destAll && fromPeer
  | .borrow => toSelf && fromPeer
  | .grant => toSelf && fromPeer
  | .withdraw => toSelf && fromPeer
  | .ret => toSelf && fromPeer
  | .billFetch => toSelf && fromCollector
  | .statusFetch => toSelf && fromCollector
  | .billRecord => false
  | .status => false

/-- Filter a complete frame by its kind, payload length, destination and sender (R109). -/
def State.filterFrame (s : State) (sender h1 : Nat) (payload : List Word) : State :=
  match kindOfCode (h1 / 256) with
  | none => s.lineError
  | some k =>
    if lengthAllowed k payload.length then
      if s.accepts k sender (h1 % 256) then
        s.offerNotice { kind := k, sender := sender, dest := h1 % 256, payload := payload }
      else s
    else s.lineError

/-- A complete frame that carries the station's own number and that it did not start: the duplicate-number flag is
set unless the frame is a STATUS, and a frame in hand that is not a STATUS is discarded (R108). -/
def State.noteDuplicate (s : State) (sender h1 : Nat) : State :=
  if sender = s.il.station ∧ kindOfCode (h1 / 256) ≠ some .status ∧ s.xc.duplicate = false then
    let s1 := { s with xc := { s.xc with duplicate := true } }
    match s.xc.hand with
    | some h => if h.msg.isStatus then s1 else s1.discardHand
    | none => s1
  else s

/-- A frame received complete, by its words from the claim to the end of the payload (R104, R108, R109). A frame the
station started is not delivered to it. -/
def State.frameComplete (s : State) (ws : List Word) : State :=
  if s.xc.rxOwn then { s with xc := { s.xc with rxOwn := false } }
  else
    let sender := (ws.getD 0 0).toNat % 8
    let h1 := (ws.getD 1 0).toNat
    (s.noteDuplicate sender h1).filterFrame sender h1 (ws.drop 3)

/-- Set the receive state and the fill run. -/
def State.setRx (s : State) (r : RxState) (fill : Nat) : State :=
  { s with xc := { s.xc with rx := r, fillRun := fill } }

/-- A sync word of another station: the receive state is ONE-SYNC, and the own-last mark is cleared (R104, R105). -/
def State.firstSync (s : State) : State :=
  { s with xc := { s.xc with rx := .oneSync, fillRun := 0, ownLast := false } }

/-- A second sync word acquires a frame that another station started (R104). -/
def State.acquire (s : State) : State :=
  { s with xc := { s.xc with rx := .inFrame [], fillRun := 0, rxOwn := false, ownLast := false } }

/-- A frame fails at this word: a line error (R104). -/
def State.frameFails (s : State) (r : RxState) (fill : Nat) : State :=
  ({ s with xc := { s.xc with rxOwn := false } }.setRx r fill).lineError

/-- The receiver takes one data word of a frame (R104). -/
def State.takeFrameWord (s : State) (ws : List Word) (d : Word) : State :=
  let got := ws ++ [d]
  if got.length = 3 ∧ 48 < d.toNat then s.frameFails .searching 0
  else if 4 ≤ got.length ∧ got.length = 4 + (got.getD 2 0).toNat then
    if d = checkWord ws then (s.setRx .searching 0).frameComplete ws else s.frameFails .searching 0
  else s.setRx (.inFrame got) 0

/-- The receiver takes one word from the line (R104). -/
def State.rxWord (s : State) (w : LineWord) : State :=
  match s.xc.rx with
  | .searching => match w with
    | .sync => s.firstSync
    | .fill => s.setRx .searching (s.xc.fillRun + 1)
    | .data _ => s.setRx .searching 0
  | .oneSync => match w with
    | .sync => s.acquire
    | .fill => s.setRx .searching (s.xc.fillRun + 1)
    | .data _ => s.setRx .searching 0
  | .inFrame ws => match w with
    | .sync => (s.frameFails .oneSync 0).firstSync
    | .fill => s.frameFails .searching (s.xc.fillRun + 1)
    | .data d => s.takeFrameWord ws d

/-- The receiver takes a run of words; while the image is LOADING it discards every word (R118). -/
def State.rxWords (s : State) (ws : List LineWord) : State :=
  if s.il.state = .loading then s else ws.foldl State.rxWord s

/-- Does a frame that the station is driving occupy the line? -/
def State.driving (s : State) : Bool := s.xc.toDrive.isSome

/-! ## Starting a frame (R105, R106) -/

/-- The deferral in fill words (R105). -/
def State.deferral (s : State) : Nat := if s.xc.ownLast then 8 else 4

/-- May the station start this frame in hand at this word boundary (R105)? -/
def State.mayStart (s : State) (h : Hand) : Bool :=
  (!s.xc.duplicate || h.msg.isStatus) && s.il.state != .loading && s.xc.rx == .searching
    && decide (s.deferral ≤ s.xc.fillRun)

/-- The start of an attempt: a LEVEL's contents are built from their sources as they stand (R115). -/
def State.beginAttempt (s : State) (h : Hand) : State :=
  if h.msg.kind = .level then
    { s with xc := { s.xc with hand := some { h with built := some s.levelFields }, lostAgain := false } }
  else s

/-- The claim read back (R106): equal, it is won and the rest of the frame stands to be driven; lower, it is lost to
the frame on the line; higher, the attempt fails. The fill word is all ones, and so higher than every claim (R103). DESIGN CHOICE: a
claim that reads back as a sync word fails the attempt too, and ends the frame for the receiver as any sync does: a line error, and
ONE-SYNC (R104, notes/assumptions/33.md). -/
def State.resolveClaim (s : State) (h : Hand) (read : LineWord) : State :=
  match read with
  | .data c =>
    if c = claimOf s.il.station h.msg then
      { s with xc := { s.xc with rx := .inFrame [c], fillRun := 0, rxOwn := true
                                 toDrive := some ((h.afterClaim s.il.station).map .data) } }
    else if c.toNat < (claimOf s.il.station h.msg).toNat then
      { s with xc := { s.xc with rx := .inFrame [c], fillRun := 0, rxOwn := false, ownLast := false } }
    else ({ s with xc := { s.xc with rx := .inFrame [c], fillRun := 0, rxOwn := false } }).failAttempt
  | .sync => ({ s with xc := { s.xc with rx := .inFrame [], fillRun := 0 } }.rxWord .sync).failAttempt
  | .fill => ({ s with xc := { s.xc with rx := .inFrame [], fillRun := 0 } }.rxWord .fill).failAttempt

/-- Drive the two sync words and the claim of a frame in hand, with what is read back for each (R105 to R107). DEDUCED: an
attempt that fails at a sync word counts no line error here, since no frame has been acquired (R104, notes/assumptions/28.md).
DESIGN CHOICE: a failure sets the own-last mark last, after the word read back (R105, R107, notes/assumptions/29.md). -/
def State.startFrame (s : State) (h : Hand) (sync1 sync2 claim : LineWord) : State :=
  let s1 := s.beginAttempt h
  let h1 := (s1.xc.hand).getD h
  if sync1 ≠ .sync then (s1.rxWord sync1).failAttempt
  else if sync2 ≠ .sync then ((s1.setRx .oneSync 0).rxWord sync2).failAttempt
  else s1.resolveClaim h1 claim

end Sys2Proof.Machine
end

