-- ==== Sys2Proof/Machine/Line.lean ====
section
/-! DEFINITION. The commands of the Crossline's word level (sections 7.3 and 7.5): words from the line, the start of a
frame, the failure of an attempt, and the end of a frame that was sent. -/

namespace Sys2Proof.Machine

open Sys2Proof.Config

/-- Words that another station, or nobody, drives: none come while the station drives a frame whose claim it has won. -/
def State.hear (s : State) (ws : List LineWord) : State := if s.driving then s else s.rxWords ws

/-- The station hears the gap up to a word boundary, and starts the frame in hand there if R105 lets it. -/
def State.tryStart (s : State) (gap : List LineWord) (sync1 sync2 claim : LineWord) : State :=
  if s.driving then s
  else
    let s1 := s.rxWords gap
    match s1.xc.hand with
    | some h => if s1.mayStart h then s1.startFrame h sync1 sync2 claim else s1
    | none => s1

/-- The word at which an attempt fails: the station reads back what it drove up to there, and then a word that differs
(R107). The receiver takes every one of them. DESIGN CHOICE: where that word is a sync, which clears the own-last mark as the
first sync of another frame, the failure sets the mark after it (R105, notes/assumptions/29.md). -/
def State.lineBreaks (s : State) (good : Nat) (read : LineWord) : State :=
  match s.xc.toDrive with
  | some ws =>
    if good < ws.length ∧ ws[good]? ≠ some read then
      ({ s with xc := { s.xc with toDrive := none, rxOwn := false } }.rxWords (ws.take good ++ [read])).failAttempt
    else s
  | none => s

/-- The frame being driven ends with its check word read back as driven: the receiver has taken it whole, its owner is
told, and the hand empties (R114, R105). -/
def State.driveOut (s : State) : State :=
  match s.xc.toDrive, s.xc.hand with
  | some ws, some h =>
    let s1 := s.rxWords ws
    ({ s1 with xc := { s1.xc with toDrive := none, ownLast := true } }.ownerSent h).emptyHand
  | some ws, none =>
    let s1 := s.rxWords ws
    { s1 with xc := { s1.xc with toDrive := none, ownLast := true } }
  | none, _ => s

/-! ## Commands -/

/-- CROSSLINE_FRAME_RECEIVED (R104). -/
def execCrosslineFrameReceived (ws : List LineWord) (s : State) : Host.Outcome State Fault Refusal :=
  .next (s.hear ws).takeFrame

/-- FRAME_ACQUIRED (R104): the words before a frame, then its two sync words. -/
def execFrameAcquired (gap : List LineWord) (s : State) : Host.Outcome State Fault Refusal :=
  .next (s.hear (gap ++ [.sync, .sync])).takeFrame

/-- FRAME_START (R105). -/
def execFrameStart (gap : List LineWord) (sync1 sync2 claim : LineWord) (s : State) : Host.Outcome State Fault Refusal :=
  .next (s.tryStart gap sync1 sync2 claim).takeFrame

/-- ATTEMPT_FAILED (R107). -/
def execAttemptFailed (good : Nat) (read : LineWord) (s : State) : Host.Outcome State Fault Refusal :=
  .next (s.lineBreaks good read).takeFrame

/-- FRAME_SENT (R114). -/
def execFrameSent (s : State) : Host.Outcome State Fault Refusal := .next s.driveOut.takeFrame

end Sys2Proof.Machine
end

