-- ==== Sys2Proof/Machine/Egress.lean ====
section
/-! DEFINITION. The Buffer Manager's admission and release (sections 1.5 to 1.7) and the Egress Scheduler's placement,
selection, holds and flushes (Chapter 3). -/

namespace Sys2Proof.Machine

open Sys2Proof.Config

/-! ## Release (R15, R16, R17) -/

/-- How a copy leaves the Egress Scheduler (R15). -/
inductive ReleaseOutcome where
  | transmitted
  | flushed
  | truncated
  deriving DecidableEq, Repr

/-- The buffer in-use (R17). -/
def BufferManager.bufferInUse (b : BufferManager) : Nat := bufferCells - b.freeCells

/-- The uplink measure: the queue cells of the eight queues of U0 and U1 (R17). -/
def BufferManager.measure (b : BufferManager) : Nat :=
  ((List.range' (queueKey u0 0) 8).map (fun q => Tab.read 0 b.queueCells q)).sum

/-- Is this queue one of the eight uplink queues? -/
def isUplinkQueue (q : Nat) : Bool := decide (queueKey u0 0 ≤ q) && decide (q < queueKey u0 0 + 8)

/-- Send a change event (R17); one that carries nothing is not sent. -/
def BufferManager.sendChange (b : BufferManager) (c : Change) : BufferManager :=
  if c = { measure := none, buffer := none, tenant := none } then b
  else { b with changes := b.changes ++ [c] }

/-- Give back a copy's queue cells and descriptor (R15). -/
def BufferManager.giveBack (b : BufferManager) (q n : Nat) : BufferManager :=
  { b with queueCells := Tab.write 0 b.queueCells q (Tab.read 0 b.queueCells q - n)
           freeDescriptors := b.freeDescriptors + 1 }

/-- Delete a stored frame at the release of its last copy: its cells are freed, and a frame that was metered here and
of which no copy was transmitted earns the loss credit (R16). -/
def BufferManager.freeFrame (b : BufferManager) (id : Nat) (f : StoredFrame) : BufferManager :=
  { b with freeCells := b.freeCells + f.cells
           inUse := Tab.write 0 b.inUse f.tenant (Tab.read 0 b.inUse f.tenant - f.cells)
           frames := Tab.drop b.frames id
           losses := if f.metered && !f.transmitted then b.losses ++ [LossReport.mk f.tenant f.length]
                     else b.losses }

/-- The stored-frame record after one copy of it is released (R15). -/
def StoredFrame.afterRelease (f : StoredFrame) (o : ReleaseOutcome) : StoredFrame :=
  { f with outstanding := f.outstanding - 1, transmitted := f.transmitted || o == .transmitted }

/-- Release one copy with its outcome (R15, R16), and send the change event it makes (R17). -/
def BufferManager.release (b : BufferManager) (d : Desc) (o : ReleaseOutcome) : BufferManager :=
  match Tab.find? b.frames d.frame with
  | none => b
  | some f0 =>
    let q := queueKey d.port d.cls
    let f := f0.afterRelease o
    let b1 := b.giveBack q f.cells
    let last := f.outstanding == 0
    let b2 := if last then b1.freeFrame d.frame f else { b1 with frames := Tab.put b1.frames d.frame f }
    b2.sendChange
      { measure := if isUplinkQueue q then some b2.measure else none
        buffer := if last then some b2.bufferInUse else none
        tenant := if last then some (f.tenant, Tab.read 0 b2.inUse f.tenant) else none }

/-- Release one copy (R15). -/
def State.release (s : State) (d : Desc) (o : ReleaseOutcome) : State := { s with bm := s.bm.release d o }

/-! ## Selection (R38, R40, R41) -/

/-- The highest-numbered class of a port whose queue is not empty, with its head and the rest (R38). -/
def State.topCopy (s : State) (p : Nat) : Option (Nat × Desc × List Desc) :=
  [3, 2, 1, 0].findSome? (fun c =>
    match s.queue (queueKey p c) with
    | d :: rest => some (queueKey p c, d, rest)
    | [] => none)

/-- A port takes a selection (R38): a pending hold frame first, else, when IDLE, the head of the highest class. A
transmission begins only while the port is live. -/
def State.select (s : State) (p : Nat) : State :=
  let x := s.tx p
  if s.live p then
    match x.state with
    | .sending _ => s
    | .idle => match x.pendingHold with
      | some t => s.setTx p { x with state := .sending (.hold t), pendingHold := none }
      | none => match s.topCopy p with
        | some (q, d, rest) => (s.setQueue q rest).setTx p { x with state := .sending (.copy d) }
        | none => s
    | .held => match x.pendingHold with
      | some t => s.setTx p { x with state := .sending (.hold t), pendingHold := none }
      | none => s
  else s

/-- The state a transmitter falls back to when a frame ends: HELD while it is under hold, else IDLE (R39, R41). -/
def PortTx.afterFrame (x : PortTx) : PortTx :=
  { x with state := if x.rxHold.isSome then .held else .idle }

/-- A hold request from the Relief Controller (R40): stored as the pending hold on a live port, then a selection;
discarded on any other. -/
def State.holdRequest (s : State) (p time : Nat) : State :=
  if s.live p then (s.setTx p { s.tx p with pendingHold := some time }).select p else s

/-! ## Received holds (R42, R43) -/

/-- A hold on a port ends (R43). -/
def State.endHold (s : State) (p : Nat) : State :=
  let x := s.tx p
  let y := { x with rxHold := none, heldCount := 0, holdDue := false }
  match x.state with
  | .held => (s.setTx p { y with state := .idle }).select p
  | .idle => s.setTx p y
  | .sending _ => s.setTx p y

/-- A received hold at its port's transmitter (R42, R43): discarded on a port that is not live. -/
def State.receivedHold (s : State) (p time : Nat) : State :=
  if s.live p then
    if time = 0 then
      match (s.tx p).rxHold with
      | some _ => s.endHold p
      | none => s
    else
      let x := s.tx p
      s.setTx p { x with rxHold := some time
                         state := match x.state with
                           | .idle => .held
                           | .held => .held
                           | .sending f => .sending f }
  else s

/-! ## Flushes (R45, R46) -/

/-- Release one copy FLUSHED (R15). -/
def State.releaseFlushed (s : State) (d : Desc) : State := s.release d .flushed

/-- Flush one class queue: every queued copy is removed and released FLUSHED (R45, R46). -/
def State.flushQueue (s : State) (q : Nat) : State :=
  (s.queue q).foldl State.releaseFlushed (s.setQueue q [])

/-- Flush the four class queues of a port (R45, R46). DESIGN CHOICE: the highest class goes first, each queue from its head,
and so do the change events of the releases (notes/assumptions/25.md). -/
def State.flushQueues (s : State) (p : Nat) : State :=
  (((s.flushQueue (queueKey p 3)).flushQueue (queueKey p 2)).flushQueue (queueKey p 1)).flushQueue (queueKey p 0)

/-- Release the copy in flight, if one is, as TRUNCATED (R46). -/
def State.truncate (s : State) (p : Nat) : State :=
  match (s.tx p).state with
  | .sending (.copy d) => s.release d .truncated
  | .sending (.hold _) => s
  | .idle => s
  | .held => s

/-- The link-loss flush of a port, as one event (R46). DESIGN CHOICE: the copy in flight is released before the queued ones
(notes/assumptions/25.md). -/
def State.linkLoss (s : State) (p : Nat) : State := ((s.truncate p).flushQueues p).setTx p PortTx.reset

/-! ## Placement and admission (R12, R13, R14, R36) -/

/-- Place one copy of an admitted frame at the tail of its queue, then a selection; on a port that is not live it is
released FLUSHED at once (R36). -/
def State.placeCopy (s : State) (d : Desc) : State :=
  if s.live d.port then
    (s.setQueue (queueKey d.port d.cls) (s.queue (queueKey d.port d.cls) ++ [d])).select d.port
  else s.release d .flushed

/-- The queue limit of a port for a class, by the port's kind (R11). -/
def State.queueLimit (s : State) (p c : Nat) : Nat :=
  s.cfg.queueLimits.getD (match portKind p with
    | .access => c
    | .uplink => 4 + c
    | .cross => 8 + c) bufferCells

/-- The copies left after the queue limits (R12, step 1). -/
def State.withinLimits (s : State) (a : Arrival) : List Dest :=
  a.dests.filter (fun d => decide (s.cellsOf (queueKey d.port a.cls) + a.cells ≤ s.queueLimit d.port a.cls))

/-- How admission decides (R12). -/
inductive Decision where
  | cross
  | committed
  | excess
  | refused
  deriving DecidableEq, Repr

/-- The decision on an arrival with the copies that its queue limits left (R12, steps 2 to 5). -/
def State.admitDecision (s : State) (a : Arrival) (ds : List Dest) : Decision :=
  if ds = [] ∨ s.bm.freeDescriptors < ds.length ∨ s.bm.freeCells < a.cells then .refused
  else if a.kind = .cross then .cross
  else if s.inUse a.tenant + a.cells ≤ (s.tenant a.tenant).share then .committed
  else if s.rc.level < s.cfg.excessCut ∧ s.cfg.excessReserve ≤ s.bm.freeCells - a.cells then .excess
  else .refused

/-- Take the cells, the descriptors and the record of an admitted frame, report it for metering, and send the change
event (R13, R17). -/
def BufferManager.admitFrame (b : BufferManager) (a : Arrival) (ds : List Dest) (w : Decision) : BufferManager :=
  let metered := w == .committed || w == .excess
  let b1 :=
    { b with
      freeCells := b.freeCells - a.cells
      inUse := Tab.write 0 b.inUse a.tenant (Tab.read 0 b.inUse a.tenant + a.cells)
      freeDescriptors := b.freeDescriptors - ds.length
      queueCells := ds.foldl (fun q (d : Dest) => Tab.write 0 q (queueKey d.port a.cls)
        (Tab.read 0 q (queueKey d.port a.cls) + a.cells)) b.queueCells
      frames := Tab.put b.frames b.nextFrame
        { tenant := a.tenant, length := a.length, cells := a.cells, cls := a.cls, outstanding := ds.length
          metered := metered, transmitted := false, body := a.body }
      nextFrame := b.nextFrame + 1
      usageReports := if metered then b.usageReports ++ [UsageReport.mk a.tenant a.length (w == Decision.excess)]
                      else b.usageReports }
  b1.sendChange
    { measure := if ds.any (fun d => isUplinkQueue (queueKey d.port a.cls)) then some b1.measure else none
      buffer := some b1.bufferInUse
      tenant := some (a.tenant, Tab.read 0 b1.inUse a.tenant) }

/-- The descriptor of one copy of a stored frame (R35). -/
def descOf (id cls : Nat) (d : Dest) : Desc :=
  { frame := id, port := d.port, cls := cls, borrowed := d.borrowed, flood := d.flood }

/-- Decide one arrival record whole (R12 to R14, R36). A refused ACCESS or UPLINK arrival is reported; a refused CROSS
arrival is not (R14). R36 lets the copies of a frame be placed in any order. DESIGN CHOICE: they are placed, or on a port that
is not live released FLUSHED (R15), in the order of the destination list, which is that of the change events too
(notes/assumptions/25.md). -/
def State.admitArrival (s : State) (a : Arrival) : State :=
  let ds := s.withinLimits a
  match s.admitDecision a ds with
  | .refused => if a.kind = .cross then s else { s with bm := { s.bm with refusals := s.bm.refusals ++ [a.tenant] } }
  | w => (ds.map (descOf s.bm.nextFrame a.cls)).foldl State.placeCopy { s with bm := s.bm.admitFrame a ds w }

end Sys2Proof.Machine
end

