-- ==== Sys2Proof/Machine/Relief.lean ====
section
/-! DEFINITION. The Relief Controller (Chapter 6): the lend offer, the evaluation of a change event, tenant relief
states, port holds and the shed decision. -/

namespace Sys2Proof.Machine

open Sys2Proof.Config

/-! ## The lend offer (R97) -/

/-- Does the station hold a fault borrow, one that is REQUESTED or ACTIVE (R70)? -/
def State.faultBorrow (s : State) : Bool := (s.lender .fault).isSome

/-- What the lend offer is to be (R97). -/
def State.offerNow (s : State) : Bool :=
  decide (s.rc.level < s.cfg.lendLimit) && s.anyUplink && !s.faultBorrow

/-- Re-evaluate the lend offer; a change queues a LEVEL (R97). -/
def State.reofferLend (s : State) : State :=
  if s.offerNow = s.rc.lendOffer then s
  else { s with rc := { s.rc with lendOffer := s.offerNow } }.queueLevel

/-! ## Port holds (R92 to R95) -/

/-- The renew time: half the hold time, 0 read as 1 µs (R86). -/
def State.renewTime (s : State) : Nat := if s.cfg.holdTime / 2 = 0 then 1 else s.cfg.holdTime / 2

/-- Is access port p to be held (R92)? -/
def State.toBeHeld (s : State) (p : Nat) : Bool := s.live p && s.rc.held.any (fun t => s.serves p t)

/-- Compare one access port's hold state with whether it is to be held (R93). -/
def State.compareHold (s : State) (p : Nat) : State :=
  let h := s.hold p
  if s.toBeHeld p && !h.holding then
    (s.setHold p { holding := true, renew := some s.renewTime, renewDue := false }).holdRequest p s.cfg.holdTime
  else if h.holding && !s.toBeHeld p && s.live p then
    (s.setHold p PortHold.reset).holdRequest p 0
  else s

/-- Compare every access port (R93). -/
def State.compareHolds (s : State) : State := s.each accessPorts State.compareHold

/-- The Relief Controller takes the report of a fault on an access port (R95, R93). -/
def State.holdFault (s : State) (p : Nat) : State := (s.setHold p PortHold.reset).compareHolds

/-! ## Change events (R87 to R91) -/

/-- Store the values a change event carries (R87). -/
def ReliefController.store (r : ReliefController) (c : Change) : ReliefController :=
  { r with measure := c.measure.getD r.measure
           bufferInUse := c.buffer.getD r.bufferInUse
           tenantInUse := match c.tenant with
             | some (t, n) => Tab.write 0 r.tenantInUse t n
             | none => r.tenantInUse }

/-- Evaluate the stages; a change of level queues a LEVEL and re-evaluates the lend offer (R88, R89). -/
def State.evaluateStages (s : State) : State :=
  let st := evalStages s.rc.measure s.cfg.hysteresis s.cfg.marks s.rc.stages
  let s1 := { s with rc := { s.rc with stages := st, level := levelOf st } }
  if levelOf st = s.rc.level then s1 else s1.queueLevel.reofferLend

/-- Is tenant t HELD after an evaluation against the stored values (R91)? -/
def State.heldAfter (s : State) (t : Nat) : Bool :=
  let n := Tab.read 0 s.rc.tenantInUse t
  let share := (s.tenant t).share
  if s.rc.held.contains t then !(decide (s.rc.bufferInUse < s.cfg.releaseMark) || decide (n ≤ share))
  else decide (s.cfg.holdMark ≤ s.rc.bufferInUse) && decide (share < n)

/-- Evaluate the relief state of every tenant; a change of any compares every access port (R91, R93). -/
def State.evaluateTenants (s : State) : State :=
  let held := tenants.filter s.heldAfter
  let s1 := { s with rc := { s.rc with held := held } }
  if held = s.rc.held then s1 else s1.compareHolds

/-- Take one change event whole (R87). -/
def State.takeChange (s : State) (c : Change) : State :=
  let s1 := { s with rc := s.rc.store c }
  let s2 := if c.measure.isSome then s1.evaluateStages else s1
  if c.buffer.isSome || c.tenant.isSome then s2.evaluateTenants else s2

/-! ## Shedding and returning (R98) -/

/-- The number of spine paths in mode SPLIT (R98). -/
def State.splitCount (s : State) : Nat :=
  (paths.filter (fun i => match s.binding i with
    | .split _ => true
    | .unbound => false
    | .home => false
    | .replaceUplink => false
    | .replacePeer _ => false)).length

/-- The Relief Controller's report tick: it may send the Path Unit one request (R98). -/
def State.shedDecision (s : State) : State :=
  if s.cfg.shedLevel ≤ s.rc.level then
    if s.splitCount < s.cfg.maxShed then { s with pu := { s.pu with shedDue := s.pu.shedDue + 1 } } else s
  else if s.rc.level ≤ s.cfg.returnLevel then { s with pu := { s.pu with returnDue := s.pu.returnDue + 1 } }
  else s

/-! ## Renewal (R94) -/

/-- The renew timer of a HOLDING port has come to 0: a new hold request, and the timer starts again (R94). -/
def State.renewHold (s : State) (p : Nat) : State :=
  (s.setHold p { s.hold p with renew := some s.renewTime, renewDue := false }).holdRequest p s.cfg.holdTime

end Sys2Proof.Machine
end

