-- ==== Sys2Proof/Machine/PathUnit.lean ====
section
/-! DEFINITION. The Path Unit (Chapter 5): re-placing of spine paths, the borrow table and the choice of a lender, the
lend table, and the protocol messages BORROW, GRANT, WITHDRAW and RETURN at both ends. Each event is taken in the order
of R66: the paths move, the records left with no path are freed, the fault request the event calls for is made. -/

namespace Sys2Proof.Machine

open Sys2Proof.Config

/-! ## Bindings -/

/-- The peer a path is bound toward, if any (R64). -/
def Binding.toward : Binding → Option Nat
  | .replacePeer k => some k
  | .split k => some k
  | .unbound => none
  | .home => none
  | .replaceUplink => none

/-- Is at least one path bound toward peer k? -/
def State.hasPathToward (s : State) (k : Nat) : Bool := paths.any (fun i => (s.binding i).toward == some k)

/-- Is at least one path UNBOUND? -/
def State.hasUnbound (s : State) : Bool := paths.any (fun i => s.binding i == .unbound)

/-- The peer that step 3 of R66 binds a path toward: the fault lender, ACTIVE, with no upgrade waiting, and not the one
whose arrangement the event is ending. -/
def State.faultTarget (s : State) (ending : Option Nat) : Option Nat :=
  s.peers.find? (fun k => (s.borrow k).state == .active .fault && !(s.borrow k).upgrade && ending != some k)

/-- The binding of a path that is re-placed (R66). -/
def State.replacement (s : State) (ending : Option Nat) (i : Nat) : Binding :=
  if s.live (s.homePort i) then .home
  else if s.live (otherUplink (s.homePort i)) then .replaceUplink
  else match s.faultTarget ending with
    | some f => .replacePeer f
    | none => .unbound

/-- Re-place the paths whose number and binding pass a test (R66). -/
def State.replacePaths (s : State) (ending : Option Nat) (p : Nat → Binding → Bool) : State :=
  s.rebind (paths.filter (fun i => p i (s.binding i))) (s.replacement ending)

/-- Bind every UNBOUND path toward peer k (R74, R75). -/
def State.bindUnbound (s : State) (k : Nat) : State :=
  s.rebind (paths.filter (fun i => s.binding i == .unbound)) (fun _ => .replacePeer k)

/-! ## Borrow records -/

/-- A borrow record gone to NONE; its exclusion timer outlives it (R70). -/
def BorrowRecord.ended (b : BorrowRecord) : BorrowRecord := { b with state := .none, timer := 0, upgrade := false }

/-- Exclude the peer for four report ticks (R74 to R76); the no-uplink mark is set as said, and cleared otherwise (R70). -/
def BorrowRecord.excluded (b : BorrowRecord) (noUplink : Bool) : BorrowRecord :=
  { b with exclusion := 4, noUplink := noUplink }

/-- Is there a record with reason FAULT, REQUESTED or ACTIVE, among the borrow records (R72)? -/
def State.hasFaultRecord (s : State) : Bool := s.faultBorrow

/-- The station an ordering of lenders puts first: lower level, then lower number (R71). -/
def betterLender (s : State) (a b : Nat) : Bool :=
  match (s.peer a).stored, (s.peer b).stored with
  | some x, some y => decide (x.level < y.level) || (x.level == y.level && decide (a < b))
  | some _, none => true
  | none, _ => false

/-- Is peer k in the Peer View's answer (R124) and not excluded (R71, conditions 1 to 4)? -/
def State.eligible (s : State) (k : Nat) : Bool :=
  s.peerLive k && s.crossLive k && (s.borrow k).exclusion == 0
    && (match (s.peer k).stored with
        | some l => l.u0.isLive || l.u1.isLive
        | none => false)

/-- The further conditions of a RELIEF request (R71, conditions 5 to 7). -/
def State.eligibleRelief (s : State) (k : Nat) : Bool :=
  s.eligible k
    && (match (s.peer k).stored with
        | some l => l.lendOffer
        | none => false)
    && s.lender .fault != some k
    && (match s.lend k with
        | some l => l.reason != .relief
        | none => true)

/-- The candidate lender (R71). -/
def State.candidate (s : State) (r : Reason) : Option Nat :=
  (s.peers.filter (fun k => match r with
    | .fault => s.eligible k
    | .relief => s.eligibleRelief k)).foldl
    (fun best k => match best with
      | none => some k
      | some b => if betterLender s k b then some k else some b) none

/-- Make a request to a candidate (R72): the record REQUESTED with timer 2, a BORROW queued, a waiting RETURN to the
same peer taken out. -/
def State.request (s : State) (k : Nat) (r : Reason) : State :=
  ((s.setBorrow k { s.borrow k with state := .requested r, timer := 2, upgrade := false }).sendBorrow k r).dropReturn k

/-- Make the fault request an event calls for: a path is UNBOUND and no FAULT record is REQUESTED or ACTIVE (R72). -/
def State.faultRequest (s : State) : State :=
  if s.hasUnbound && !s.hasFaultRecord then
    match s.candidate .fault with
    | some k => s.request k .fault
    | none => s
  else s

/-- A borrow record with a REQUESTED fault request given up (R72). -/
def BorrowRecord.abandoned (b : BorrowRecord) : BorrowRecord := if b.state = .requested .fault then b.ended else b

/-- Abandon a REQUESTED fault record when no path is left UNBOUND (R72). -/
def State.abandonFault (s : State) : State := if s.hasUnbound then s else s.mapBorrows s.peers BorrowRecord.abandoned

/-- Is a borrow record ACTIVE? -/
def BorrowState.isActive : BorrowState → Bool
  | .active _ => true
  | .none => false
  | .requested _ => false

/-- Free one ACTIVE record with no path bound toward its peer, with a RETURN where the peer is LIVE and its cross port
live (R69). -/
def State.freeRecord (s : State) (k : Nat) : State :=
  if (s.borrow k).state.isActive && !s.hasPathToward k then
    let s1 := s.setBorrow k (s.borrow k).ended
    if s.peerLive k && s.crossLive k then s1.sendReturn k else s1
  else s

/-- What follows the moves of an event: records freed, a fault request abandoned or made (R66, R69, R72). -/
def State.settlePaths (s : State) : State := ((s.each s.peers State.freeRecord).abandonFault).faultRequest

/-- The fields the Path Unit gives the LEVEL builder (R65, R70, R79). -/
def State.pathReport (s : State) : Option Nat × Option Nat × Bool × Nat :=
  (s.lender .fault, s.lender .relief, s.pu.solePath, s.lendCount)

/-- Report what an event changed: each of those fields to the LEVEL builder, and a fault borrow that has begun or
ended to the Relief Controller (R65, R70, R79, R97). -/
def State.reportPaths (before after : State) : State :=
  let s1 := if before.pathReport = after.pathReport then after else after.queueLevel
  if before.faultBorrow = after.faultBorrow then s1 else s1.reofferLend

/-! ## Uplink and cross-port reports (R67, R68, R72, R77, R83) -/

/-- Bring the sole-path flag up to date (R65). -/
def State.setSole (s : State) : State := { s with pu := { s.pu with solePath := !s.anyUplink } }

/-- Upgrade the relief borrow from peer k to a FAULT record (R75). -/
def State.upgrade (s : State) (k : Nat) : State :=
  (s.setBorrow k { s.borrow k with state := .active .fault, upgrade := true, timer := 2 }).sendBorrow k .fault

/-- The SPLIT paths whose home is port u (R67). -/
def State.splitPaths (s : State) (u : Nat) : List Nat :=
  paths.filter (fun i => s.homePort i == u && (match s.binding i with
    | .split _ => true
    | .unbound => false
    | .home => false
    | .replaceUplink => false
    | .replacePeer _ => false))

/-- A SPLIT path's binding when all of it goes to its relief lender (R67). -/
def Binding.onLender : Binding → Binding
  | .split k => .replacePeer k
  | .unbound => .unbound
  | .home => .home
  | .replaceUplink => .replaceUplink
  | .replacePeer k => .replacePeer k

/-- The second row of R67: SPLIT paths whose home is the failed uplink u. -/
def State.moveSplit (s : State) (u : Nat) : State :=
  let is := s.splitPaths u
  if s.live (otherUplink u) then s.rebind is (fun _ => .replaceUplink)
  else match s.faultTarget none with
    | some f => s.rebind is (fun _ => .replacePeer f)
    | none =>
      if s.hasFaultRecord then s.rebind is (fun _ => .unbound)
      else (s.rebind is (fun i => (s.binding i).onLender)).each (s.peers.filter (fun k => is.any (fun i => s.binding i == .split k))) State.upgrade

/-- Remove the lend record for peer k, with a WITHDRAW(NO-UPLINK) (R83). -/
def State.emptyLend (s : State) (k : Nat) : State := (s.dropLend k).sendWithdraw k .noUplink

/-- Remove every lend record, with a WITHDRAW(NO-UPLINK) to each borrower that had one (R83). DESIGN CHOICE: the WITHDRAWs
enter the queue by rising station number (notes/assumptions/26.md). -/
def State.emptyLends (s : State) : State :=
  s.each (s.peers.filter (fun k => (s.lend k).isSome)) State.emptyLend

/-- The Path Unit takes the report that uplink u has left UP and SUSPECT (R67, R83). DESIGN CHOICE: its WITHDRAWs are queued
after the BORROW of an upgrade and before the BORROW of a fault request (notes/assumptions/26.md). -/
def State.pathsUplinkFault (s : State) (u : Nat) : State :=
  let s1 := s.setSole.replacePaths none (fun i b => b == .home && s.homePort i == u)
  let s2 := (s1.moveSplit u).replacePaths none (fun i b => b == .replaceUplink && otherUplink (s.homePort i) == u)
  let s3 := if s.anyUplink then s2 else s2.emptyLends
  s.reportPaths s3.settlePaths

/-- The binding a path takes when uplink u enters UP from QUALIFYING (R68). -/
def State.uplinkUpBinding (s : State) (u i : Nat) : Binding :=
  match s.binding i with
  | .unbound => if s.homePort i = u then .home else if s.live (s.homePort i) then .unbound else .replaceUplink
  | .replacePeer k =>
    if s.homePort i = u then .replacePeer k else if s.live (s.homePort i) then .replacePeer k else .replaceUplink
  | .home => .home
  | .replaceUplink => .replaceUplink
  | .split k => .split k

/-- The Path Unit takes the report that uplink u has entered UP from QUALIFYING (R68). -/
def State.pathsUplinkUp (s : State) (u : Nat) : State :=
  s.reportPaths (s.setSole.rebind paths (s.uplinkUpBinding u)).settlePaths

/-- The Path Unit takes the report that a cross port has entered UP from QUALIFYING (R72). -/
def State.pathsCrossUp (s : State) : State := s.reportPaths s.faultRequest

/-- End every arrangement with peer k without a message (R77). -/
def State.endArrangements (s : State) (k : Nat) : State :=
  let s1 := if (s.borrow k).state.isActive then s.replacePaths (some k) (fun _ b => b.toward == some k) else s
  (s1.setBorrow k (s1.borrow k).ended).dropLend k

/-- The Path Unit takes the report of a fault on the cross port to peer k, or of k gone STALE (R77). -/
def State.pathsPeerLost (s : State) (k : Nat) : State := s.reportPaths (s.endArrangements k).settlePaths

/-! ## The borrower's messages (R74 to R76) -/

/-- The lowest-numbered HOME path (R73, R74). -/
def State.lowestHome (s : State) : Option Nat := paths.find? (fun i => s.binding i == .home)

/-- Split the lowest-numbered HOME path toward peer k, if there is one (R73, R74). -/
def State.splitLowest (s : State) (k : Nat) : State :=
  match s.lowestHome with
  | some i => s.setBinding i (.split k)
  | none => s

/-- End the arrangement with peer k as borrower: its paths are re-placed, the record is NONE without a RETURN, and k is
excluded for four ticks (R75, R76). -/
def State.loseLender (s : State) (k : Nat) (noUplink : Bool) : State :=
  let s1 := s.replacePaths (some k) (fun _ b => b.toward == some k)
  s1.setBorrow k ((s1.borrow k).ended.excluded noUplink)

/-- A GRANT from peer k (R74, R75). DEDUCED: one that is disregarded, or that finds no record and is answered with a RETURN, makes
no fault request, also while a path is UNBOUND (R72, notes/assumptions/12.md). -/
def State.grantFrom (s : State) (k : Nat) (g : GrantResult) : State :=
  let b := s.borrow k
  match b.state with
  | .requested r =>
    if g = .granted then
      let s1 := s.setBorrow k { b with state := .active r, timer := 0, upgrade := false }
      match r with
      | .fault => s.reportPaths (s1.bindUnbound k).settlePaths
      | .relief => s.reportPaths (s1.splitLowest k).settlePaths
    else s.reportPaths (s.setBorrow k (b.ended.excluded false)).settlePaths
  | .active _ =>
    if b.upgrade then
      if g = .granted then s.reportPaths ((s.setBorrow k { b with upgrade := false, timer := 0 }).bindUnbound k).settlePaths
      else s.reportPaths (s.loseLender k false).settlePaths
    else s
  | .none => if g = .granted then s.sendReturn k else s

/-- A WITHDRAW from peer k (R76). DEDUCED: one that finds no record makes no fault request, also while a path is UNBOUND (R72,
notes/assumptions/12.md). -/
def State.withdrawFrom (s : State) (k : Nat) (w : WithdrawReason) : State :=
  let b := s.borrow k
  match b.state with
  | .active _ => s.reportPaths (s.loseLender k (w == .noUplink)).settlePaths
  | .requested _ => s.reportPaths (s.setBorrow k (b.ended.excluded (w == .noUplink))).settlePaths
  | .none => s

/-! ## Shed and return requests (R73) -/

/-- The relief lender of an ACTIVE relief borrow. -/
def State.activeRelief (s : State) : Option Nat := s.peers.find? (fun k => (s.borrow k).state == .active .relief)

/-- The peer of a REQUESTED relief borrow. -/
def State.requestedRelief (s : State) : Option Nat := s.peers.find? (fun k => (s.borrow k).state == .requested .relief)

/-- A shed request (R73). DEDUCED: one that finds no candidate, or a REQUESTED relief borrow, makes no fault request, also while a
path is UNBOUND (R72, notes/assumptions/12.md). -/
def State.shed (s : State) : State :=
  match s.activeRelief with
  | some k => s.reportPaths (s.splitLowest k).settlePaths
  | none => match s.requestedRelief with
    | some _ => s
    | none => match s.candidate .relief with
      | some k => s.reportPaths (s.request k .relief).settlePaths
      | none => s

/-- The highest-numbered SPLIT path (R73). -/
def State.highestSplit (s : State) : Option Nat :=
  paths.reverse.find? (fun i => match s.binding i with
    | .split _ => true
    | .unbound => false
    | .home => false
    | .replaceUplink => false
    | .replacePeer _ => false)

/-- A return request (R73). DEDUCED: one that finds neither a SPLIT path nor a REQUESTED relief borrow makes no fault request, also
while a path is UNBOUND (R72, notes/assumptions/12.md). -/
def State.giveBackPath (s : State) : State :=
  match s.highestSplit with
  | some i => s.reportPaths (s.setBinding i .home).settlePaths
  | none => match s.requestedRelief with
    | some k => s.reportPaths (s.setBorrow k (s.borrow k).ended).settlePaths
    | none => s

/-! ## The lender's messages (R80, R81) -/

/-- Answer a FAULT request GRANTED, the lend record taking the borrower's sole-path flag (R80, R82). -/
def State.lendFault (s : State) (k : Nat) (sole : Bool) : State :=
  (s.setLend k { reason := .fault, solePath := sole }).sendGrant k .granted

/-- Answer a RELIEF request GRANTED (R80). -/
def State.lendRelief (s : State) (k : Nat) : State :=
  (s.setLend k { reason := .relief, solePath := false }).sendGrant k .granted

/-- Refuse a request; a stale FAULT record that a RELIEF request met is removed (R80). -/
def State.refuse (s : State) (k : Nat) (r : Reason) (g : GrantResult) : State :=
  (match r with
   | .relief => s.dropLend k
   | .fault => s).sendGrant k g

/-- The answer to a RELIEF request that no earlier case of R80 has answered. -/
def State.answerRelief (s : State) (k : Nat) : State :=
  if s.cfg.lendLimit ≤ s.rc.level then s.refuse k .relief .levelHigh
  else if (s.borrow k).state = .active .relief then s.refuse k .relief .mutualRelief
  else if (s.borrow k).state = .requested .relief then
    if s.il.station < k then s.refuse k .relief .mutualRelief
    else (s.setBorrow k (s.borrow k).ended).lendRelief k
  else s.lendRelief k

/-- The answer to a BORROW from peer k that is answered (R80), case by case in the table's order. -/
def State.answerBorrow (s : State) (k : Nat) (r : Reason) (sole : Bool) : State :=
  match r, s.lend k with
  | .fault, some _ => s.lendFault k sole
  | .relief, some l =>
    if l.reason = .relief then s.sendGrant k .granted
    else if s.anyUplink then s.answerRelief k else s.refuse k .relief .noUplink
  | .fault, none => if s.anyUplink then s.lendFault k sole else s.refuse k .fault .noUplink
  | .relief, none => if s.anyUplink then s.answerRelief k else s.refuse k .relief .noUplink

/-- A BORROW from peer k (R80): no answer when its record is not LIVE or the cross port to it is not live. -/
def State.borrowFrom (s : State) (k : Nat) (r : Reason) (sole : Bool) : State :=
  if s.peerLive k && s.crossLive k then s.reportPaths (s.answerBorrow k r sole) else s

/-- A RETURN from peer k (R81). -/
def State.returnFrom (s : State) (k : Nat) : State := s.reportPaths (s.dropLend k)

/-- The lend check on a LEVEL stored from peer k (R81). -/
def State.lendCheck (s : State) (k : Nat) (l : LevelFields) : State :=
  let names := l.faultLender == some s.il.station || l.reliefLender == some s.il.station
  let s1 := match s.lend k with
    | some d =>
      if names then
        (match d.reason with
         | .fault => s.setLend k { d with solePath := l.solePath }
         | .relief => s)
      else s.dropLend k
    | none => s
  let b := s1.borrow k
  let s2 := if b.noUplink && (l.u0.isLive || l.u1.isLive) then s1.setBorrow k { b with exclusion := 0, noUplink := false }
            else s1
  s.reportPaths s2

/-! ## The report tick (R78, R82) -/

/-- The staged fault return: the lowest-numbered REPLACE path whose home uplink is UP becomes HOME (R78, step 1). -/
def State.stagedReturn (s : State) : State :=
  match paths.find? (fun i =>
      (match s.binding i with
       | .replaceUplink => true
       | .replacePeer _ => true
       | .unbound => false
       | .home => false
       | .split _ => false) && (s.link (s.homePort i)).state == .up) with
  | some i => s.setBinding i .home
  | none => s

/-- The borrower of the highest number whose lend record passes a test. -/
def State.highestLend (s : State) (p : LendRecord → Bool) : Option Nat :=
  s.peers.reverse.find? (fun k => match s.lend k with
    | some l => p l
    | none => false)

/-- Withdraw the lend to peer k for the level (R82). -/
def State.withdrawLend (s : State) (k : Nat) : State := (s.dropLend k).sendWithdraw k .level

/-- The withdrawal of one lend per report tick at or above the withdraw level: relief lends first, then fault lends
whose borrower does not report sole-path (R82). -/
def State.withdrawOne (s : State) : State :=
  if s.cfg.withdrawLevel ≤ s.rc.level then
    match s.highestLend (fun l => l.reason == .relief) with
    | some k => s.withdrawLend k
    | none => match s.highestLend (fun l => !l.solePath) with
      | some k => s.withdrawLend k
      | none => s
  else s

/-- Does the request timer of this record count down (R78, step 4)? -/
def BorrowRecord.counts (b : BorrowRecord) : Bool := match b.state with
  | .requested _ => true
  | .active _ => b.upgrade
  | .none => false

/-- Does this report tick bring the request timer of this record to 0 (R78, step 4)? -/
def BorrowRecord.runsOut (b : BorrowRecord) : Bool := b.counts && decide (b.timer ≤ 1)

/-- The request timer of peer k at the report tick (R78, step 4). At 0 a REQUESTED record is NONE; an upgrade's
BORROW(FAULT) is queued again with the timer restarted if a path is UNBOUND, else its mark clears (R75). -/
def State.requestTick (s : State) (k : Nat) : State :=
  let b := s.borrow k
  if b.runsOut then
    match b.state with
    | .requested _ => s.setBorrow k b.ended
    | .active _ =>
      if s.hasUnbound then (s.setBorrow k { b with timer := 2 }).sendBorrow k .fault
      else s.setBorrow k { b with timer := 0, upgrade := false }
    | .none => s
  else if b.counts then s.setBorrow k { b with timer := b.timer - 1 } else s

/-- The exclusion timer of a record at the report tick (R78, step 5); at 0 the no-uplink mark clears (R70). -/
def BorrowRecord.exclusionTick (b : BorrowRecord) : BorrowRecord :=
  if b.exclusion = 0 then b
  else { b with exclusion := b.exclusion - 1, noUplink := b.noUplink && decide (1 < b.exclusion) }

/-- Steps 1 to 3 of R78: the staged fault return, the fault retry and the withdrawal. -/
def State.tickPaths (s : State) : State := s.stagedReturn.faultRequest.withdrawOne

/-- Steps 4 and 5 of R78: the request timers and the exclusion timers. -/
def State.tickTimers (s : State) : State :=
  (s.each s.peers State.requestTick).mapBorrows s.peers BorrowRecord.exclusionTick

/-- The Path Unit's report tick, as one event (R78). -/
def State.pathTick (s : State) : State :=
  let s1 := s.tickPaths.tickTimers
  s.reportPaths ((s1.each s1.peers State.freeRecord).abandonFault)

end Sys2Proof.Machine
end

