-- ==== Sys2Proof/Machine/Links.lean ====
section
/-! DEFINITION. The Link Supervisor (Chapter 4): faults and entries to UP with what each neighbour does with the report,
the judgement of a health window, and the commands WINDOW_END, SIGNAL_PRESENT, SIGNAL_LOST and LINE_CODE_ERROR. -/

namespace Sys2Proof.Machine

open Sys2Proof.Config

/-! ## Faults (R56, R59) -/

/-- A port's record at a fault (R56): the flap count rises, the latch is set, the qualification is cleared, and the
state is HELD-DOWN when the flap count has reached the flap limit, else DOWN. -/
def PortLink.faulted (l : PortLink) (flapLimit : Nat) : PortLink :=
  { l with flaps := l.flaps + 1, latch := true, good := 0, stages := 0
           state := if flapLimit ≤ l.flaps + 1 then .heldDown else .down }

/-- The reception in progress on a port as the port's fault leaves it: one that was to be taken is cut (R1, R24). -/
def Reception.faulted : Reception → Reception
  | .taken => .cut
  | .idle => .idle
  | .discarded => .discarded
  | .cut => .cut

/-- A port's fault meets the reception in progress on it (R1). -/
def State.cutReception (s : State) (p : Nat) : State :=
  s.setIntake p { s.intake p with reception := (s.intake p).reception.faulted }

/-- The uplinks' report to the LEVEL builder (R59, R60). -/
def State.uplinkChanged (s : State) (p : Nat) : State := if portKind p = .uplink then s.queueLevel else s

/-- What the blocks other than the Egress Scheduler do with the report of a fault, by the port's kind (R59). The order
among them is a DESIGN CHOICE (notes/assumptions/7.md). An arrival that was complete before the fault may be learned from after
the removal (R24): its reception is cut, and State.receiveFrame takes it up. -/
def State.faultReports (s : State) (p : Nat) : State :=
  match portKind p with
  | .access => { s with tab := s.tab.retirePort p }.holdFault p
  | .uplink => ((s.pathsUplinkFault p).reofferLend).queueLevel
  | .cross => s.pathsPeerLost (s.peerOfPort p)

/-- A fault on port p, as one event (R56, R59, R46, R1). -/
def State.linkFault (s : State) (p : Nat) : State :=
  let s1 := s.setLink p ((s.link p).faulted s.cfg.flapLimit)
  ((s1.cutReception p).linkLoss p).faultReports p

/-! ## Entry to UP (R53, R60) -/

/-- What the blocks do with the report that port p has entered UP from QUALIFYING (R60). -/
def State.upReports (s : State) (p : Nat) : State :=
  match portKind p with
  | .access => (s.select p).compareHolds
  | .uplink => (((s.select p).pathsUplinkUp p).reofferLend).queueLevel
  | .cross => (s.select p).pathsCrossUp

/-- Port p enters UP from QUALIFYING (R53). -/
def State.enterUp (s : State) (p : Nat) : State :=
  (s.setLink p { s.link p with state := .up }).upReports p

/-! ## The judgement of a window (R50 to R54) -/

/-- The required stage of a port, by its kind (R52). -/
def State.requiredStage (s : State) (p : Nat) : Nat :=
  match portKind p with
  | .access => s.cfg.stageAccess
  | .uplink => s.cfg.stageUplink
  | .cross => s.cfg.stageCross

/-- Was the window that has just ended bad (R50)? -/
def PortLink.windowBad (l : PortLink) (errorLimit : Nat) : Bool := l.lossMark || decide (errorLimit ≤ l.errors)

/-- The window fields cleared for the next window (R50). -/
def PortLink.nextWindow (l : PortLink) : PortLink := { l with lossMark := false, errors := 0 }

/-- A QUALIFYING port's record after one more good window (R52). -/
def PortLink.countGood (l : PortLink) : PortLink :=
  let n := if l.good + 1 > 256 then 256 else l.good + 1
  { l with good := n, stages := max l.stages (stagesReached n) }

/-- What a judged window does to a port, by its link state (R51, R52, R54). -/
def State.judged (s : State) (p : Nat) (bad : Bool) : State :=
  let l := s.link p
  match l.state with
  | .down =>
    if l.signal && !bad then
      (s.setLink p { l with state := .qualifying, good := 0, stages := 0 }).uplinkChanged p
    else s
  | .qualifying =>
    if bad then s.setLink p { l with good := 0, stages := 0 }
    else
      let s1 := s.setLink p l.countGood
      if s.requiredStage p ≤ l.countGood.stages then s1.enterUp p else s1
  | .up => if bad then (s.setLink p { l with state := .suspect }).uplinkChanged p else s
  | .suspect => if bad then s.linkFault p else (s.setLink p { l with state := .up }).uplinkChanged p
  | .heldDown => s

/-- A port judges the window that has ended and the next one begins (R50). -/
def State.judgeWindow (s : State) (p : Nat) : State :=
  let bad := (s.link p).windowBad s.cfg.errorLimit
  (s.setLink p (s.link p).nextWindow).judged p bad

/-- A port takes the window end, if one is due at it (R50). The first port to take a window end takes it up; the others
then still owe it. -/
def State.takeWindowEnd (s : State) (p : Nat) : State :=
  if s.ls.windowOwed.contains p then
    ({ s with ls := { s.ls with windowOwed := s.ls.windowOwed.filter (fun q => q ≠ p) } }).judgeWindow p
  else if s.ls.windowOwed = [] ∧ 0 < s.ls.windowDue then
    ({ s with ls := { s.ls with windowDue := s.ls.windowDue - 1
                                windowOwed := allPorts.filter (fun q => q ≠ p) } }).judgeWindow p
  else s

/-! ## Receiver reports (R49, R52, R55) -/

/-- A signal-present report (R49). -/
def State.signalFound (s : State) (p : Nat) : State := s.setLink p { s.link p with signal := true }

/-- A signal-lost report (R49, R52, R55). While the image is LOADING it is recorded in the signal field only, and when
UNCONFIGURED no window is running either (R49, R62). -/
def State.signalGone (s : State) (p : Nat) : State :=
  let l := s.link p
  if s.configured then
    let s1 := s.setLink p { l with signal := false, lossMark := true }
    match l.state with
    | .down => s1
    | .heldDown => s1
    | .qualifying =>
      (s1.setLink p { l with signal := false, lossMark := true, state := .down, good := 0, stages := 0 }).uplinkChanged p
    | .up => s1.linkFault p
    | .suspect => s1.linkFault p
  else s.setLink p { l with signal := false }

/-- A line-code error report (R49); it counts in a window only while windows run (R49, R62). -/
def State.codeError (s : State) (p : Nat) : State :=
  if s.configured then
    s.setLink p { s.link p with errors := if (s.link p).errors < 255 then (s.link p).errors + 1 else (s.link p).errors }
  else s

/-! ## The age tick (R57) -/

/-- A port's record at the age tick (R57). -/
def PortLink.ageTick (l : PortLink) : PortLink :=
  match l.state with
  | .heldDown => { l with flaps := 0, state := .down, good := 0, stages := 0 }
  | .down => { l with flaps := 0 }
  | .qualifying => { l with flaps := 0 }
  | .up => { l with flaps := 0 }
  | .suspect => { l with flaps := 0 }

/-- The Link Supervisor's age tick over every port (R57); an uplink that leaves HELD-DOWN is reported (R60). -/
def State.flapReset (s : State) : State :=
  let s1 := s.mapLinks allPorts PortLink.ageTick
  if (s.link u0).state = .heldDown ∨ (s.link u1).state = .heldDown then s1.queueLevel else s1

/-! ## Commands -/

/-- WINDOW_END (R50). -/
def execWindowEnd (p : Fin 21) (s : State) : Host.Outcome State Fault Refusal := .next (s.takeWindowEnd p).takeFrame

/-- SIGNAL_PRESENT (R49). -/
def execSignalPresent (p : Fin 21) (s : State) : Host.Outcome State Fault Refusal := .next (s.signalFound p)

/-- SIGNAL_LOST (R49, R52, R55). -/
def execSignalLost (p : Fin 21) (s : State) : Host.Outcome State Fault Refusal := .next (s.signalGone p).takeFrame

/-- LINE_CODE_ERROR (R49). -/
def execLineCodeError (p : Fin 21) (s : State) : Host.Outcome State Fault Refusal := .next (s.codeError p)

end Sys2Proof.Machine
end

