-- ==== Sys2Proof/Machine/Frames.lean ====
section
/-! DEFINITION. The frame path: reception and its checks, classification (Chapter 1), the destination set (section 2.6),
and the commands of reception, admission and transmission. -/

namespace Sys2Proof.Machine

open Sys2Proof.Config

/-! ## The destination set (R31 to R34) -/

/-- A unicast copy: both marks clear (R31). -/
def plain (p : Nat) : Dest := { port := p, borrowed := false, flood := false }

/-- A spine copy to a cross port carries the borrowed mark (R34). -/
def borrowedTo (p : Nat) : Dest := { port := p, borrowed := true, flood := false }

/-- The local flood of a tenant: its live flood-set ports, less the arrival port of an ACCESS arrival (R31). -/
def State.localFlood (s : State) (t : Nat) (arrival : Option Nat) : List Dest :=
  (accessPorts.filter (fun p => s.serves p t && s.live p && arrival != some p)).map plain

/-- The flood copies to the live cross ports (R32, R33). -/
def State.crossFlood (s : State) : List Dest :=
  (crossPorts.filter (fun p => s.live p)).map (fun p => { port := p, borrowed := false, flood := true })

/-- The copy of a spine path before liveness is looked at, for a frame that is flooded or not (R34). A flood copy keeps
the cross port it shares with a spine copy: a SPLIT path's spine copy then goes to the home uplink, a REPLACE path's is
dropped. -/
def State.spinePort (s : State) (path : Nat) (selector flooded : Bool) : Option Dest :=
  match s.binding path with
  | .home => some (plain (s.homePort path))
  | .replaceUplink => some (plain (otherUplink (s.homePort path)))
  | .replacePeer k => if flooded && s.crossLive k then none else some (borrowedTo (s.crossPort k))
  | .split k =>
    if selector && !(flooded && s.crossLive k) then some (borrowedTo (s.crossPort k))
    else some (plain (s.homePort path))
  | .unbound => none

/-- The spine copy, dropped when the port so named is not live (R31, R34). -/
def State.spineCopy (s : State) (path : Nat) (selector flooded : Bool) : List Dest :=
  match s.spinePort path selector flooded with
  | some d => if s.live d.port then [d] else []
  | none => []

/-- One unicast copy, left out when its port is not live (R31). -/
def State.unicast (s : State) (p : Nat) : List Dest := if s.live p then [plain p] else []

/-- The destination set of an ACCESS arrival (R32). -/
def State.accessDests (s : State) (port tenant : Nat) (src dst : Addr) (l : Lookup) : List Dest :=
  let path := pathOf tenant src dst
  let sel := splitSelector tenant src dst
  match l with
  | .localAt q => if q = port then [] else s.unicast q
  | .announcedAt k => if s.crossLive k then [plain (s.crossPort k)] else s.spineCopy path sel false
  | .miss => s.localFlood tenant (some port) ++ s.spineCopy path sel true ++ s.crossFlood
  | .group => s.localFlood tenant (some port) ++ s.spineCopy path sel true ++ s.crossFlood

/-- The destination set of an UPLINK arrival (R33). -/
def State.uplinkDests (s : State) (tenant : Nat) (l : Lookup) : List Dest :=
  match l with
  | .localAt q => s.unicast q
  | .announcedAt k => if s.crossLive k then [plain (s.crossPort k)] else []
  | .miss => s.localFlood tenant none ++ s.crossFlood
  | .group => s.localFlood tenant none ++ s.crossFlood

/-- The uplink of a frame that arrives borrowed (R33). -/
def State.lentUplink (s : State) (path : Nat) : List Dest :=
  if s.live (s.homePort path) then [plain (s.homePort path)]
  else if s.live (otherUplink (s.homePort path)) then [plain (otherUplink (s.homePort path))]
  else []

/-- The destination set of a CROSS arrival (R33). -/
def State.crossDests (s : State) (tenant : Nat) (src dst : Addr) (borrowed flood : Bool) (l : Lookup) : List Dest :=
  if borrowed then s.lentUplink (pathOf tenant src dst)
  else if flood then s.localFlood tenant none
  else match l with
    | .localAt q => s.unicast q
    | .announcedAt _ => s.localFlood tenant none
    | .miss => s.localFlood tenant none
    | .group => s.localFlood tenant none

/-- The verdict on a finished destination set (R31, R32). -/
def verdictOf (kind : ArrivalKind) (port : Nat) (l : Lookup) (ds : List Dest) : Verdict :=
  if ds = [] then (if kind = .access ∧ l = .localAt port then .samePort else .noDestination) else .forward

/-! ## Classification and the arrival record (R5 to R9) -/

/-- The tenant that the tenant map gives a key (R6). -/
def State.tenantOf (s : State) (sc : Scope) (tag : Nat) : Option Nat :=
  (s.cfg.tenantMap.find? (fun e => e.scope == sc && e.tag == tag)).map MapEntry.tenant

/-- The tenant map scope of an access port or an uplink (R6). -/
def scopeOf (p : Nat) : Scope := if p < 16 then .access p else .spine

/-- Count one bad frame on a port (R2, R3, R4). -/
def State.countBad (s : State) (p : Nat) : State :=
  s.setIntake p { s.intake p with bad := bump (s.intake p).bad }

/-- Count one unclassified frame on a port (R4, R6). -/
def State.countUnclassified (s : State) (p : Nat) : State :=
  s.setIntake p { s.intake p with unclassified := bump (s.intake p).unclassified }

/-- Complete an arrival record: the lookup, the destination set, and the record handed on to admission (R9, R22, R31). -/
def State.forward (s : State) (kind : ArrivalKind) (p tenant cls : Nat) (frame : List Byte) (borrowed flood : Bool) : State :=
  let src := addrAt frame 6
  let dst := addrAt frame 0
  let l := s.tab.lookup tenant dst
  let ds := match kind with
    | .access => s.accessDests p tenant src dst l
    | .uplink => s.uplinkDests tenant l
    | .cross => s.crossDests tenant src dst borrowed flood l
  { s with iu := { s.iu with arrivals := s.iu.arrivals ++
      [{ port := p, kind := kind, tenant := tenant, cls := cls, length := frame.length
         cells := (frame.length + 255) / 256, src := src, dst := dst, borrowed := borrowed, flood := flood
         verdict := verdictOf kind p l ds, dests := ds, body := frame.take (frame.length - 4) }] } }

/-- Classify an access or uplink frame and pass it on; an ACCESS arrival is learned from before its lookup (R6, R7, R20,
R22). -/
def State.classify (s : State) (p : Nat) (frame : List Byte) : State :=
  match s.tenantOf (scopeOf p) (tagOf frame) with
  | none => s.countUnclassified p
  | some t =>
    let cls := s.cfg.classMap.getD (priorityOf frame) 0
    if p < 16 then
      { s with tab := s.tab.learn t (addrAt frame 6) p }.forward .access p t cls frame false false
    else s.forward .uplink p t cls frame false false

/-! ## Reception (R1 to R3) -/

/-- The checks of R2 that do not concern a group header. -/
def frameBad (bytes frame : List Byte) : Bool :=
  decide (frame.length < 64) || decide (9216 < frame.length) || !frameCheckOk bytes || isGroup (addrAt frame 6)

/-- Does the group header of an arrival on port p fail (R8)? -/
def State.headerBad (s : State) (p : Nat) (h : GroupHeader) : Bool :=
  h.origin != s.peerOfPort p || h.tenant == 0 || (h.borrowed && h.flood)

/-- A MAC control frame: a hold frame's time goes to the arrival port's transmitter, any other control code is a bad
frame (R3, R168). The control code and the hold time follow the frame's own type (notes/assumptions/9.md). -/
def State.controlFrame (s : State) (p : Nat) (frame : List Byte) : State :=
  if be16 frame (typeOffset frame + 2) = 1 then s.receivedHold p (be16 frame (typeOffset frame + 4))
  else s.countBad p

/-- A frame on an access port or an uplink (R2, R3, R6). -/
def State.receivePlain (s : State) (p : Nat) (bytes : List Byte) : State :=
  if frameBad bytes bytes then s.countBad p
  else if be16 bytes (typeOffset bytes) = 0x8808 then s.controlFrame p bytes
  else s.classify p bytes

/-- An arrival on a cross port: a control frame without group header, or a group header followed by a frame (R3, R8). -/
def State.receiveCross (s : State) (p : Nat) (bytes : List Byte) : State :=
  if crossControl bytes then
    if frameBad bytes bytes then s.countBad p else s.controlFrame p bytes
  else
    let h := readHeader bytes
    let frame := bytes.drop 4
    if frameBad bytes frame || s.headerBad p h then s.countBad p
    else s.forward .cross p h.tenant h.cls frame h.borrowed h.flood

/-- A frame's reception begins: whether it will be taken is fixed by the port's link state now (R1). -/
def State.beginReception (s : State) (p : Nat) : State :=
  s.setIntake p { s.intake p with reception := if s.live p then .taken else .discarded }

/-- The checks of a whole frame, by its port's kind (R2, R3). -/
def State.checkFrame (s : State) (p : Nat) (bytes : List Byte) : State :=
  if portKind p = .cross then s.receiveCross p bytes else s.receivePlain p bytes

/-- The reception of a frame on a port ends (R1, R2). One that was not to be taken is discarded. One that the port's fault
met is discarded uncounted if the fault cut it short, whatever its bytes are; a frame whose last byte had come before the fault is
checked, counted if bad, and learned from, after it (R2, R24). -/
def State.receiveFrame (s : State) (p : Nat) (frame : ReceivedFrame) : State :=
  let s1 := s.setIntake p { s.intake p with reception := .idle }
  match (s.intake p).reception with
  | .taken => s1.checkFrame p frame.bytes
  | .discarded => s1
  | .cut => if frame.beforeFault then s1.checkFrame p frame.bytes else s1
  | .idle => s

/-! ## Admission -/

/-- The oldest arrival record from a port, and the others. -/
def takeArrival (p : Nat) : List Arrival → Option (Arrival × List Arrival)
  | [] => none
  | a :: rest =>
    if a.port = p then some (a, rest)
    else match takeArrival p rest with
      | some (b, others) => some (b, a :: others)
      | none => none

/-- Decide the oldest arrival record that waits from port p (R12). -/
def State.admitFrom (s : State) (p : Nat) : State :=
  match takeArrival p s.iu.arrivals with
  | some (a, rest) => { s with iu := { s.iu with arrivals := rest } }.admitArrival a
  | none => s

/-! ## Transmission -/

/-- The copy in flight on a port ends complete (R39). -/
def State.copyEnds (s : State) (p : Nat) : State :=
  match (s.tx p).state with
  | .sending (.copy d) => ((s.release d .transmitted).setTx p (s.tx p).afterFrame).select p
  | .sending (.hold _) => s
  | .idle => s
  | .held => s

/-- The hold frame in flight on a port ends (R41). -/
def State.holdEnds (s : State) (p : Nat) : State :=
  match (s.tx p).state with
  | .sending (.hold _) => (s.setTx p (s.tx p).afterFrame).select p
  | .sending (.copy _) => s
  | .idle => s
  | .held => s

/-- The fine tick taken at a received-hold timer where it is due (R37, R43): at 0 the hold ends. -/
def State.holdTick (s : State) (p : Nat) : State :=
  let x := s.tx p
  if x.holdDue then
    match x.rxHold with
    | some n => if n ≤ 1 then s.endHold p else s.setTx p { x with rxHold := some (n - 1), holdDue := false }
    | none => s.setTx p { x with holdDue := false }
  else s

/-! ## Commands -/

/-- RECEPTION_BEGINS (R1). -/
def execReceptionBegins (p : Fin 21) (s : State) : Host.Outcome State Fault Refusal := .next (s.beginReception p)

/-- FRAME_RECEPTION (R2). -/
def execFrameReception (p : Fin 21) (frame : ReceivedFrame) (s : State) : Host.Outcome State Fault Refusal :=
  .next (s.receiveFrame p frame).takeFrame

/-- ADMISSION (R12). -/
def execAdmission (p : Fin 21) (s : State) : Host.Outcome State Fault Refusal := .next (s.admitFrom p)

/-- COPY_TRANSMITTED (R39). -/
def execCopyTransmitted (p : Fin 21) (s : State) : Host.Outcome State Fault Refusal := .next (s.copyEnds p)

/-- HOLD_FRAME_END (R41). -/
def execHoldFrameEnd (p : Fin 21) (s : State) : Host.Outcome State Fault Refusal := .next (s.holdEnds p)

/-- RECEIVED_HOLD_TIMER_EXPIRY (R43). -/
def execReceivedHoldTimerExpiry (p : Fin 21) (s : State) : Host.Outcome State Fault Refusal := .next (s.holdTick p)

end Sys2Proof.Machine
end

