-- ==== Sys2Proof/Machine/Charge.lean ====
section
/-! DEFINITION. The charge of a billing record (Chapter 10): the exact sum, its division into micro-BU, the rounding
methods, and the marks. The tariffs are decoded in Image.lean. -/

namespace Sys2Proof.Machine

open Sys2Proof.Config

/-- Units of the exact sum in one micro-BU (R144). -/
def microBU : Int := 100000000000

/-- Half of one micro-BU in units of the exact sum (R145). -/
def halfMicroBU : Int := 50000000000

/-- The exact sum S (R143). -/
def exactSum (u : Usage) (t : TenantSettings) : Int :=
  (u.committed : Int) * t.rc + (u.excess : Int) * t.re - (u.lost : Int) * t.rd

/-- The quotient q: S in micro-BU, truncated toward zero (R144). -/
def quotient (x : Int) : Int := x.tdiv microBU

/-- The remainder r (R144). -/
def remainder (x : Int) : Int := x - quotient x * microBU

/-- q moved away from zero, in the direction of the sign of S (R144). -/
def movedAway (x : Int) : Int := if x < 0 then quotient x - 1 else quotient x + 1

/-- Does a method move q away from zero, for a remainder that is not 0 (R145, R146)? -/
def movesAway (method : Nat) (x : Int) : Bool :=
  let size := (remainder x).natAbs
  let half := halfMicroBU.natAbs
  match method with
  | 1 => decide (half ≤ size)
  | 2 => decide (half < size) || (size == half && (quotient x).natAbs % 2 == 1)
  | 3 => decide (half < size)
  | 4 => false
  | 5 => true
  | 6 => decide (0 < x)
  | 7 => decide (x < 0)
  | 8 => (quotient x).natAbs % 5 == 0
  | _ => false

/-- The charge in micro-BU that a method gives an exact sum (R144 to R146). -/
def roundCharge (method : Nat) (x : Int) : Int :=
  if remainder x ≠ 0 ∧ movesAway method x = true then movedAway x else quotient x

/-- The charge of a usage under a tenant's settings: +0 when the tariff-valid mark is clear (R143, R149). -/
def chargeOf (u : Usage) (t : TenantSettings) : Int := if t.valid then roundCharge t.method (exactSum u t) else 0

/-- The INEXACT mark (R147, R149). -/
def inexactMark (u : Usage) (t : TenantSettings) : Bool :=
  t.valid && !t.suppress && remainder (exactSum u t) != 0

/-- The record of tenant t's pending set, before it has its number (R135, R148, R149, R152). -/
def State.buildRecord (s : State) (t : Nat) (p : PendingSet) : BillRecord :=
  let x := s.tenant t
  let c := chargeOf p.usage x
  { station := s.il.station, tenant := t, first := p.first, last := p.last, number := 0
    committed := p.usage.committed, excess := p.usage.excess, lost := p.usage.lost
    admitted := p.usage.admitted, refused := p.usage.refused
    method := x.method, minus := decide (c < 0), magnitude := c.natAbs, inexact := inexactMark p.usage x
    saturated := p.usage.saturated, unpriced := !x.valid, merged := p.first != p.last }

end Sys2Proof.Machine
end

