-- ==== Sys2Proof/Machine/Billing.lean ====
section
/-! DEFINITION. The billing chain: reports and epoch closes at the Usage Meter (Chapter 9), the Rating Engine's walk, and
the Billing Record Queue with its fetches and show timer (Chapter 11), with the commands of the chain. -/

namespace Sys2Proof.Machine

open Sys2Proof.Config

/-! ## The Usage Meter (R128 to R132) -/

/-- A tenant's active set (R128). -/
def State.active (s : State) (t : Nat) : Usage := Tab.read Usage.zero s.um.active t

/-- A tenant's pending set, if it is present (R128). -/
def State.pendingSet (s : State) (t : Nat) : Option PendingSet := Tab.find? s.um.pending t

/-- Give a tenant a new active set. -/
def State.setActive (s : State) (t : Nat) (u : Usage) : State :=
  { s with um := { s.um with active := Tab.write Usage.zero s.um.active t u } }

/-- Take the oldest usage report (R129). -/
def State.takeUsage (s : State) : State :=
  match s.bm.usageReports with
  | r :: rest =>
    { s with bm := { s.bm with usageReports := rest } }.setActive r.tenant ((s.active r.tenant).addUsage r.length r.excess)
  | [] => s

/-- Take the oldest refusal report (R129). -/
def State.takeRefusal (s : State) : State :=
  match s.bm.refusals with
  | t :: rest => { s with bm := { s.bm with refusals := rest } }.setActive t (s.active t).addRefusal
  | [] => s

/-- Take the oldest loss report (R129). -/
def State.takeLoss (s : State) : State :=
  match s.bm.losses with
  | r :: rest =>
    { s with bm := { s.bm with losses := rest } }.setActive r.tenant ((s.active r.tenant).addLoss r.length)
  | [] => s

/-- A tenant's pending set after a close of epoch e: moved there from the active set, or merged with it (R130, R131). -/
def State.closedSet (s : State) (t : Nat) : PendingSet :=
  match s.pendingSet t with
  | none => { usage := s.active t, first := s.um.epoch, last := s.um.epoch }
  | some p => { usage := p.usage.merge (s.active t), first := p.first, last := s.um.epoch }

/-- Put the Rating Engine in a state. -/
def State.setRate (s : State) (r : RateState) : State := { s with re := { s.re with state := r } }

/-- An epoch close, as one event (R130), and the restart of the walk (R136). -/
def State.closeEpoch (s : State) : State :=
  { s with um := { s.um with active := []
                             pending := tenants.map (fun t => (t, s.closedSet t))
                             epoch := nextEpoch s.um.epoch } }.setRate (.stepping 1)

/-- Is the Rating Engine COMPUTING (R133)? -/
def State.isComputing (s : State) : Bool := match s.re.state with
  | .computing _ => true
  | .idle => false
  | .stepping _ => false
  | .waiting _ => false

/-- An expiry of T3 at the Usage Meter: held while a record is being computed, else taken (R130, R132). -/
def State.meterClose (s : State) : State :=
  if s.isComputing then { s with um := { s.um with heldCloses := s.um.heldCloses + 1 } } else s.closeEpoch

/-- The Usage Meter takes an expiry of T3 that is due; T3 reloads if it has not counted again (R165, R130). -/
def State.takeEpoch (s : State) : State :=
  if 0 < s.tb.epochDue then
    { s with tb := { s.tb with epochDue := s.tb.epochDue - 1
                               t3 := if s.tb.t3 = some 0 then some s.cfg.t3 else s.tb.t3 } }.meterClose
  else s

/-! ## The Rating Engine's walk (R133 to R137) -/

/-- Advance from tenant t: to the next tenant, or to IDLE after tenant 255 (R134). -/
def State.advance (s : State) (t : Nat) : State := s.setRate (if t < 255 then .stepping (t + 1) else .idle)

/-- Make tenant t's pending set absent (R134, R135). -/
def State.dropPending (s : State) (t : Nat) : State :=
  { s with um := { s.um with pending := Tab.drop s.um.pending t } }

/-- Slots of the Billing Record Queue (R151). -/
def recordSlots : Nat := 64

/-- The step of the walk at its tenant (R134). -/
def State.ratingStep (s : State) : State :=
  match s.re.state with
  | .stepping t =>
    match s.pendingSet t with
    | none => s.advance t
    | some p =>
      if p.usage.allZero then (s.dropPending t).advance t
      else if s.bq.records.length < recordSlots then s.setRate (.computing t)
      else s.setRate (.waiting t)
  | .idle => s
  | .computing _ => s
  | .waiting _ => s

/-- Append a record at the tail with the next record number; on an empty queue it is a FRESH head (R153). -/
def BillingQueue.append (b : BillingQueue) (r : BillRecord) : BillingQueue :=
  { b with records := b.records ++ [{ r with number := b.next }]
           next := nextNumber b.next
           head := if b.records = [] then .fresh else b.head }

/-- Take a number of held closes in turn, each as one event (R132). -/
def State.takeCloses : State → Nat → State
  | s, 0 => s
  | s, n + 1 => s.closeEpoch.takeCloses n

/-- Take every held close, and clear their count (R132). -/
def State.takeHeldCloses (s : State) : State :=
  { s with um := { s.um with heldCloses := 0 } }.takeCloses s.um.heldCloses

/-- The end of a computation (R135): the record is appended, the pending set is absent, the engine advances, and the held
closes are taken. A pending set is present throughout a computation (R132, R134); without one there is no record to make. -/
def State.computationEnd (s : State) : State :=
  match s.re.state with
  | .computing t =>
    match s.pendingSet t with
    | some p => (({ s with bq := s.bq.append (s.buildRecord t p) }.dropPending t).advance t).takeHeldCloses
    | none => (s.advance t).takeHeldCloses
  | .idle => s
  | .stepping _ => s
  | .waiting _ => s

/-- A freed slot, reported and not yet taken, reaches the Rating Engine (R137): an engine WAITING at t becomes STEPPING at t
and takes t's step again, in the same event (R134). -/
def State.slotFreed (s : State) : State :=
  if 0 < s.bq.slotsFreed then
    let s1 := { s with bq := { s.bq with slotsFreed := s.bq.slotsFreed - 1 } }
    match s.re.state with
    | .waiting t => (s1.setRate (.stepping t)).ratingStep
    | .idle => s1
    | .stepping _ => s1
    | .computing _ => s1
  else s

/-! ## Fetches (R154 to R158) -/

/-- Queue a BILL-RECORD reply to collector c (R158). -/
def State.replyBill (s : State) (c : Nat) (r : BillReply) : State := s.queueNormal (.billRecord c r)

/-- Show the head to collector c with timer 0 and reply with it; NONE on an empty queue (R154, R155). -/
def State.showHead (s : State) (c : Nat) : State :=
  match s.bq.records with
  | r :: _ => { s with bq := { s.bq with head := .shown c 0 } }.replyBill c (.record r)
  | [] => { s with bq := { s.bq with head := .absent } }.replyBill c .none

/-- Remove the head record and report its slot freed (R155, steps 1 and 2). -/
def State.removeHead (s : State) : State :=
  { s with bq := { s.bq with records := s.bq.records.tail, slotsFreed := s.bq.slotsFreed + 1 } }

/-- Answer a fetch from collector c, by the head state and the repeat mark (R154 to R156). An absent head belongs to an
empty queue, which has no record to show. DESIGN CHOICE: at a station that has been silenced since it showed the head to c, a
plain fetch of c with no reply to c waiting removes the head, as R155 says of every such fetch, although R139 and R158 say that no
record leaves a silenced station's queue (notes/assumptions/32.md). -/
def State.answerFetch (s : State) (c : Nat) (repeated : Bool) : State :=
  if s.bq.records = [] then s.replyBill c .none
  else match s.bq.head with
    | .absent => s.showHead c
    | .fresh => s.showHead c
    | .shown d _ =>
      if d = c then (if repeated then s.showHead c else s.removeHead.showHead c) else s.replyBill c .busy

/-- A BILL-FETCH from collector c: no effect while a reply to c is waiting or in hand (R154). -/
def State.billFetch (s : State) (c : Nat) (repeated : Bool) : State :=
  if s.replyWaits .billRecord c then s else s.answerFetch c repeated

/-! ## The show timer (R157) -/

/-- Does the report tick bring the show timer to the show limit (R157)? -/
def BillingQueue.lapses (b : BillingQueue) (limit : Nat) : Bool :=
  match b.head with
  | .shown _ n => decide (limit ≤ n + 1)
  | .absent => false
  | .fresh => false

/-- The report tick at the head: the timer of a SHOWN head rises, and at the show limit the head is FRESH (R157). -/
def BillingQueue.showTick (b : BillingQueue) (limit : Nat) : BillingQueue :=
  match b.head with
  | .shown c n => { b with head := if limit ≤ n + 1 then .fresh else .shown c (n + 1) }
  | .absent => b
  | .fresh => b

/-! ## Commands -/

/-- USAGE_REPORT (R129). -/
def execUsageReport (s : State) : Host.Outcome State Fault Refusal := .next s.takeUsage

/-- REFUSAL_REPORT (R129). -/
def execRefusalReport (s : State) : Host.Outcome State Fault Refusal := .next s.takeRefusal

/-- LOSS_REPORT (R129). -/
def execLossReport (s : State) : Host.Outcome State Fault Refusal := .next s.takeLoss

/-- EPOCH_CLOSE (R130). -/
def execEpochClose (s : State) : Host.Outcome State Fault Refusal := .next s.takeEpoch

/-- RATING_STEP (R134). -/
def execRatingStep (s : State) : Host.Outcome State Fault Refusal := .next s.ratingStep

/-- COMPUTATION_END (R135). -/
def execComputationEnd (s : State) : Host.Outcome State Fault Refusal := .next s.computationEnd

/-- SLOT_FREED (R137). -/
def execSlotFreed (s : State) : Host.Outcome State Fault Refusal := .next s.slotFreed

end Sys2Proof.Machine
end

