-- ==== Sys2Proof/Machine/PeerView.lean ====
section
/-! DEFINITION. The Peer View (Chapter 8): storing a LEVEL, the report tick and the age tick. -/

namespace Sys2Proof.Machine

open Sys2Proof.Config

/-- A record that has stored a LEVEL (R120). -/
def PeerRecord.store (l : LevelFields) : PeerRecord :=
  { state := .live, missed := 0, stored := some l }

/-- Does storing a LEVEL in this record ask for a full re-announce: a re-join, or a LEVEL with its lost-notices flag set
(R126)? -/
def PeerRecord.asksScan (r : PeerRecord) (l : LevelFields) : Bool := r.state != .live || l.lostNotices

/-- Store a LEVEL from peer k that is not malformed, make the lend check on it, and ask for a full re-announce where R126
says so (R120). -/
def State.storeLevel (s : State) (k : Nat) (l : LevelFields) : State :=
  let s2 := (s.setPeer k (PeerRecord.store l)).lendCheck k l
  if (s.peer k).asksScan l then { s2 with tab := s2.tab.requestScan } else s2

/-- The act on a LEVEL notice from peer k (R120): a malformed one is discarded and counted as a line error. -/
def State.levelFrom (s : State) (k : Nat) (ws : List Word) : State :=
  match readLevel k ws with
  | some l => s.storeLevel k l
  | none => s.lineError

/-- Does the report tick make this record STALE: LIVE with a missed count that reaches 3 (R121)? -/
def PeerRecord.goesStale (r : PeerRecord) : Bool := r.state == .live && decide (2 ≤ r.missed)

/-- The report tick at one record (R121): a LIVE record's missed count rises, and at 3 the record is STALE. -/
def PeerRecord.reportTick (r : PeerRecord) : PeerRecord :=
  match r.state with
  | .live => if 2 ≤ r.missed then { r with state := .stale, missed := 3 } else { r with missed := r.missed + 1 }
  | .absent => r
  | .stale => r

/-- The Peer View's report tick, as one event over every record (R121); then the Path Unit takes the report of each record
that has become STALE, as an event of its own (R123). DESIGN CHOICE: the reports are taken in the step of the tick, by
rising station number (notes/assumptions/26.md). -/
def State.peerReportTick (s : State) : State :=
  (s.mapPeers s.peers PeerRecord.reportTick).each (s.peers.filter (fun k => (s.peer k).goesStale)) State.pathsPeerLost

/-- The age tick at one record: a STALE record becomes ABSENT, and the Address Table frees the peer's announced entries
(R122, R25). -/
def State.peerAgeTick (s : State) (k : Nat) : State :=
  match (s.peer k).state with
  | .stale => { s.setPeer k PeerRecord.reset with tab := s.tab.freePeer k }
  | .absent => s
  | .live => s

/-- The Peer View's age tick (R122). -/
def State.peersAgeTick (s : State) : State := s.each s.peers State.peerAgeTick

end Sys2Proof.Machine
end

