-- ==== Sys2Proof/Machine/Notices.lean ====
section
/-! DEFINITION. The message processor (R111): the removal of the oldest notice and the act on it, the status builder (R116,
R117), and one command for each kind of act. -/

namespace Sys2Proof.Machine

open Sys2Proof.Config

/-! ## The status builder (R116, R117, R61, R4, R139, R159) -/

/-- The fault latches of a run of ports, as the conditions of R117 read them. -/
def State.anyLatch (s : State) (ps : List Nat) : Bool := ps.any (fun p => (s.link p).latch)

/-- The first condition code (R117). -/
def State.condition (s : State) : Nat :=
  conditionCode (s.il.state == .unconfigured) s.xc.duplicate (s.anyLatch [u0, u1]) (s.anyLatch crossPorts)
    (s.anyLatch accessPorts) s.xc.lineFault s.xc.overrunLatch

/-- What STATUS says of a port: the highest stage set is reported when QUALIFYING (R61, R116). DESIGN CHOICE: in any other state the
stage field of R171 is 0, none, whatever stages are still set (notes/assumptions/34.md). -/
def PortLink.status (l : PortLink) : PortStatus :=
  { state := l.state, stage := if l.state = .qualifying then l.stages else 0, latch := l.latch }

/-- The number of tenants whose pending set is present and not all zero (R139). -/
def State.tenantsPending (s : State) : Nat := (s.um.pending.filter (fun e => !e.2.usage.allZero)).length

/-- The sum of a receive count over the 21 ports, saturating in the reply (R4). -/
def State.intakeSum (s : State) (f : PortIntake → Nat) : Nat :=
  satAdd count32 0 ((allPorts.map (fun p => f (s.intake p))).sum)

/-- A STATUS reply from the values as they stand (R116). -/
def State.statusReply (s : State) : StatusReply :=
  { image := s.il.state, reason := s.il.reason, clamped := s.il.clamped, duplicate := s.xc.duplicate
    level := s.rc.level, ports := allPorts.map (fun p => (s.link p).status)
    lineErrors := s.xc.lineErrors, lineFault := s.xc.lineFault, overruns := s.xc.overruns
    overrunLatch := s.xc.overrunLatch, skipped := s.tab.skipped
    badSum := s.intakeSum PortIntake.bad, unclassSum := s.intakeSum PortIntake.unclassified
    depth := s.bq.records.length, tenantsPending := s.tenantsPending, condition := s.condition }

/-- A port's record with its fault latch clear (R61). -/
def PortLink.unlatched (l : PortLink) : PortLink := { l with latch := false }

/-- Clear the latches that a reply has carried: the port fault latches, the line-fault latch and the overrun latch (R116,
R61). -/
def State.clearLatches (s : State) : State :=
  { s with xc := { s.xc with lineFault := false, overrunLatch := false } }.mapLinks allPorts PortLink.unlatched

/-- A STATUS-FETCH from collector c: no effect while a STATUS to c is waiting or in hand, else the reply is built, queued,
and the latches it carries are cleared, as one event (R116). -/
def State.statusFetch (s : State) (c : Nat) : State :=
  if s.replyWaits .status c then s else s.clearLatches.queueNormal (.status c s.statusReply)

/-! ## The message processor (R111) -/

/-- Does the message processor act on a notice of this kind as the image state stands? When UNCONFIGURED only fetches are
acted on (R111). -/
def State.actsOn (s : State) (k : Kind) : Bool :=
  match s.il.state with
  | .configured => true
  | .loading => false
  | .unconfigured => k == .billFetch || k == .statusFetch

/-- Remove the oldest notice. -/
def State.removeNotice (s : State) : State := { s with xc := { s.xc with notices := s.xc.notices.tail } }

/-- Remove the oldest notice if it passes a test, act on it where the image state says so, and take a frame if the hand is
empty. A command for another kind of notice than the oldest one changes nothing. -/
def State.process (s : State) (p : Notice → Bool) (act : State → Notice → State) : State :=
  match s.xc.notices with
  | n :: _ => if p n then (if s.actsOn n.kind then act s.removeNotice n else s.removeNotice).takeFrame else s
  | [] => s

/-- Is this notice of kind k? -/
def Notice.isKind (n : Notice) (k : Kind) : Bool := n.kind == k

/-- The first payload word of a notice. -/
def Notice.word (n : Notice) : Word := n.payload.getD 0 0

/-- The repeat mark of a BILL-FETCH (R170). DESIGN CHOICE: its other bits, which no field names, are ignored
(notes/assumptions/30.md). -/
def Notice.repeats (n : Notice) : Bool := n.word.getLsbD 0

/-- The act on an ADDRESS (R27, R28). -/
def State.actAddress (s : State) (n : Notice) : State :=
  { s with tab := s.tab.applyAll s.il.station n.sender (readAddressEntries n.payload) }

/-- The act on a BORROW (R80, R170). DESIGN CHOICE: bits 15 to 2 of its word are ignored (notes/assumptions/30.md). -/
def State.actBorrow (s : State) (n : Notice) : State :=
  s.borrowFrom n.sender (if n.word.getLsbD 0 then .relief else .fault) (n.word.getLsbD 1)

/-- The act on a GRANT: one whose result is above 3 is discarded and counted as a line error (R74, R170). -/
def State.actGrant (s : State) (n : Notice) : State :=
  match grantOfCode n.word.toNat with
  | some g => s.grantFrom n.sender g
  | none => s.lineError

/-- The act on a WITHDRAW (R76, R170). -/
def State.actWithdraw (s : State) (n : Notice) : State := s.withdrawFrom n.sender (withdrawOfCode n.word.toNat)

/-! ## Commands -/

/-- LEVEL (R120). -/
def execLevelNotice (s : State) : Host.Outcome State Fault Refusal :=
  .next (s.process (fun n => n.isKind .level) (fun z n => z.levelFrom n.sender n.payload))

/-- ADDRESS (R27). -/
def execAddressNotice (s : State) : Host.Outcome State Fault Refusal :=
  .next (s.process (fun n => n.isKind .address) State.actAddress)

/-- BORROW (R80). -/
def execBorrowNotice (s : State) : Host.Outcome State Fault Refusal :=
  .next (s.process (fun n => n.isKind .borrow) State.actBorrow)

/-- GRANT (R74). -/
def execGrantNotice (s : State) : Host.Outcome State Fault Refusal :=
  .next (s.process (fun n => n.isKind .grant) State.actGrant)

/-- WITHDRAW (R76). -/
def execWithdrawNotice (s : State) : Host.Outcome State Fault Refusal :=
  .next (s.process (fun n => n.isKind .withdraw) State.actWithdraw)

/-- RETURN (R81). -/
def execReturnNotice (s : State) : Host.Outcome State Fault Refusal :=
  .next (s.process (fun n => n.isKind .ret) (fun z n => z.returnFrom n.sender))

/-- BILL_FETCH_PLAIN (R155). -/
def execBillFetchPlain (s : State) : Host.Outcome State Fault Refusal :=
  .next (s.process (fun n => n.isKind .billFetch && !n.repeats) (fun z n => z.billFetch n.sender false))

/-- BILL_FETCH_REPEAT (R156). -/
def execBillFetchRepeat (s : State) : Host.Outcome State Fault Refusal :=
  .next (s.process (fun n => n.isKind .billFetch && n.repeats) (fun z n => z.billFetch n.sender true))

/-- STATUS_FETCH (R116). -/
def execStatusFetch (s : State) : Host.Outcome State Fault Refusal :=
  .next (s.process (fun n => n.isKind .statusFetch) (fun z n => z.statusFetch n.sender))

end Sys2Proof.Machine
end

