-- ==== Sys2Proof/Machine/Ticks.lean ====
section
/-! DEFINITION. The Time Base (section 12.2) with the commands that follow from its ticks: FINE_TICK, PRESCALER_OUTPUT,
REPORT_TICK, AGE_TICK, the commands that name what a tick brings about, RENEW_TIMER_EXPIRY, SCAN_STEP, and the takings of the
requests and changes that the ticks and the frame path raise. -/

namespace Sys2Proof.Machine

open Sys2Proof.Config

/-! ## The fine tick (R164, R50, R43, R94, R30) -/

/-- A counter at 0 reloads with its constant; a STOPPED counter stays STOPPED (R165). -/
def reload (const : Nat) : Option Nat → Option Nat
  | some 0 => some const
  | some (n + 1) => some (n + 1)
  | none => none

/-- One count of a counter that may be STOPPED: the new count, and 1 if it came to 0, else 0 (R165). -/
def countOnce (const : Nat) : Option Nat → Option Nat × Nat
  | some c => (some (countDown const c).1, if (countDown const c).2 then 1 else 0)
  | none => (none, 0)

/-- The prescaler counts a fine tick; an output is due when it comes to 0 (R164, R165). -/
def State.prescalerTick (s : State) : State :=
  let r := countOnce s.cfg.prescale s.tb.prescaler
  { s with tb := { s.tb with prescaler := r.1, prescalerDue := s.tb.prescalerDue + r.2 } }

/-- Fine ticks in a health window (R50). -/
def windowTicks : Nat := 4096

/-- The window counter counts a fine tick; a window end is due at 4,096 (R50, R62). -/
def State.windowTick (s : State) : State :=
  match s.ls.window with
  | some n =>
    if n + 1 < windowTicks then { s with ls := { s.ls with window := some (n + 1) } }
    else { s with ls := { s.ls with window := some 0, windowDue := s.ls.windowDue + 1 } }
  | none => s

/-- A RUNNING received-hold timer counts a fine tick; at 1 the tick is due there (R37, R43). -/
def PortTx.fineTick (x : PortTx) : PortTx :=
  match x.rxHold with
  | some n => if 1 < n then { x with rxHold := some (n - 1) } else { x with holdDue := true }
  | none => x

/-- A renew timer counts a fine tick; at 1 the tick is due there (R94). -/
def PortHold.fineTick (h : PortHold) : PortHold :=
  match h.renew with
  | some n => if 1 < n then { h with renew := some (n - 1) } else { h with renewDue := true }
  | none => h

/-- A scan in progress is paced one step at each fine tick (R30). -/
def AddressTable.fineTick (x : AddressTable) : AddressTable :=
  if x.scan.isSome then { x with scanDue := x.scanDue + 1 } else x

/-- The fine tick at every counter and timer that counts it. -/
def State.fineTick (s : State) : State :=
  let s1 := s.prescalerTick.windowTick
  let s2 := s1.mapTx allPorts PortTx.fineTick
  let s3 := s2.mapHolds accessPorts PortHold.fineTick
  { s3 with tab := s3.tab.fineTick }

/-- An output of the prescaler that is due is taken: the prescaler reloads, and T1 counts (R165). -/
def State.prescalerOutput (s : State) : State :=
  if 0 < s.tb.prescalerDue then
    let r := countOnce s.cfg.t1 s.tb.t1
    { s with tb := { s.tb with prescalerDue := s.tb.prescalerDue - 1, prescaler := reload s.cfg.prescale s.tb.prescaler
                               t1 := r.1, reportDue := s.tb.reportDue + r.2 } }
  else s

/-! ## The report tick (R165) -/

/-- The users of the report tick (R165). -/
def reportUsers : List ReportUser :=
  [.egressScheduler, .reliefController, .pathUnit, .peerView, .levelBuilder, .billingQueue]

/-- The users of the age tick (R165). -/
def ageUsers : List AgeUser := [.addressTable, .linkSupervisor, .peerView]

/-- One port at the Egress Scheduler's report tick: under hold its held-duration count rises, up to 256 (R44). -/
def PortTx.reportTick (x : PortTx) : PortTx :=
  if x.rxHold.isSome then { x with heldCount := min 256 (x.heldCount + 1) } else x

/-- Is a port's held-duration count, after its rise, at or above the held limit (R45)? -/
def PortTx.atLimit (limit : Nat) (x : PortTx) : Bool :=
  x.reportTick.rxHold.isSome && decide (limit ≤ x.reportTick.heldCount)

/-- The Egress Scheduler's report tick, as one event: every count rises, and each port whose count has reached the held
limit is flushed (R44, R45). DESIGN CHOICE: the ports are flushed by rising number (notes/assumptions/25.md). -/
def State.egressTick (s : State) : State :=
  (s.mapTx allPorts PortTx.reportTick).each (allPorts.filter (fun p => (s.tx p).atLimit s.cfg.heldLimit)) State.flushQueues

/-- What one user does at the report tick. -/
def State.reportAct (s : State) : ReportUser → State
  | .egressScheduler => s.egressTick
  | .reliefController => s.shedDecision
  | .pathUnit => s.pathTick
  | .peerView => s.peerReportTick
  | .levelBuilder => s.queueLevel
  | .billingQueue => { s with bq := s.bq.showTick s.cfg.showLimit }

/-- The expiry of T1 that is due is taken up: T1 reloads, T2 counts, and every user owes it its taking (R165). -/
def State.beginReport (s : State) : State :=
  let r := countOnce s.cfg.t2 s.tb.t2
  { s with tb := { s.tb with reportDue := s.tb.reportDue - 1, t1 := reload s.cfg.t1 s.tb.t1, t2 := r.1
                             ageDue := s.tb.ageDue + r.2, reportOwed := reportUsers } }

/-- A user takes the report tick it owes. -/
def State.takeReport (s : State) (u : ReportUser) : State :=
  ({ s with tb := { s.tb with reportOwed := s.tb.reportOwed.filter (fun v => v ≠ u) } }).reportAct u

/-- A user takes the report tick: the one in progress if it still owes it, else the next one that is due once every user
has taken the last (R165). -/
def State.reportTick (s : State) (u : ReportUser) : State :=
  if s.tb.reportOwed.contains u then s.takeReport u
  else if s.tb.reportOwed = [] ∧ 0 < s.tb.reportDue then s.beginReport.takeReport u
  else s

/-! ## The age tick (R165) -/

/-- What one user does at the age tick. -/
def State.ageAct (s : State) : AgeUser → State
  | .addressTable => { s with tab := s.tab.ageTick s.cfg.ageLimit }
  | .linkSupervisor => s.flapReset
  | .peerView => s.peersAgeTick

/-- The expiry of T2 that is due is taken up: T2 reloads, T3 counts, and every user owes it its taking (R165). -/
def State.beginAge (s : State) : State :=
  let r := countOnce s.cfg.t3 s.tb.t3
  { s with tb := { s.tb with ageDue := s.tb.ageDue - 1, t2 := reload s.cfg.t2 s.tb.t2, t3 := r.1
                             epochDue := s.tb.epochDue + r.2, ageOwed := ageUsers } }

/-- A user takes the age tick it owes. -/
def State.takeAge (s : State) (u : AgeUser) : State :=
  ({ s with tb := { s.tb with ageOwed := s.tb.ageOwed.filter (fun v => v ≠ u) } }).ageAct u

/-- A user takes the age tick, as reportTick does the report tick (R165). -/
def State.ageTick (s : State) (u : AgeUser) : State :=
  if s.tb.ageOwed.contains u then s.takeAge u
  else if s.tb.ageOwed = [] ∧ 0 < s.tb.ageDue then s.beginAge.takeAge u
  else s

/-! ## Events that are due -/

/-- The fine tick taken at a renew timer where it is due: at 0 the hold is renewed (R94). -/
def State.renewTick (s : State) (p : Nat) : State :=
  let h := s.hold p
  if h.renewDue then
    match h.renew with
    | some n =>
      if n ≤ 1 ∧ h.holding then s.renewHold p
      else s.setHold p { h with renew := some (n - 1), renewDue := false }
    | none => s.setHold p { h with renewDue := false }
  else s

/-- A step of the full re-announce scan that a fine tick has paced (R30); one that finds the scan IDLE does nothing. -/
def State.scanTick (s : State) : State :=
  if 0 < s.tab.scanDue then
    { s with tab := { s.tab with scanDue := if s.tab.scan.isSome then s.tab.scanDue - 1 else 0 }.scanStep }
  else s

/-- The oldest change event that waits is taken (R87). -/
def State.nextChange (s : State) : State :=
  match s.bm.changes with
  | c :: rest => { s with bm := { s.bm with changes := rest } }.takeChange c
  | [] => s

/-- A shed request that waits is taken (R73). -/
def State.takeShed (s : State) : State :=
  if 0 < s.pu.shedDue then { s with pu := { s.pu with shedDue := s.pu.shedDue - 1 } }.shed else s

/-- A return request that waits is taken (R73). -/
def State.takeReturn (s : State) : State :=
  if 0 < s.pu.returnDue then { s with pu := { s.pu with returnDue := s.pu.returnDue - 1 } }.giveBackPath else s

/-! ## Ticks that a row of their own names

Some things that come about at a tick have a row of their own in the table. Each is a part of its user's tick, which is one
event (R22, R45, R78, R121, R157), so the command is that whole tick at its user, taken only when it brings the named thing
about at the named item; otherwise it changes nothing (DEDUCED, notes/assumptions/31.md). -/

/-- A user's report tick, if it brings about what the command names. -/
def State.reportTickIf (s : State) (u : ReportUser) (named : Bool) : State := if named then s.reportTick u else s

/-- The held-limit flush of port p: the report tick at which its held-duration count reaches the limit (R45). -/
def State.limitFlush (s : State) (p : Nat) : State :=
  s.reportTickIf .egressScheduler ((s.tx p).atLimit s.cfg.heldLimit)

/-- Peer k gone STALE: the report tick at which its missed count reaches 3 (R121). -/
def State.peerStale (s : State) (k : Nat) : State :=
  s.reportTickIf .peerView (s.peers.contains k && (s.peer k).goesStale)

/-- The lapse of the head: the report tick at which its show timer reaches the show limit (R157). -/
def State.showLapse (s : State) : State := s.reportTickIf .billingQueue (s.bq.lapses s.cfg.showLimit)

/-- The timeout of the request to peer k: the report tick at which the timer of its REQUESTED record reaches 0 (R78). -/
def State.requestTimeout (s : State) (k : Nat) : State :=
  let b := s.tickPaths.borrow k
  s.reportTickIf .pathUnit (s.peers.contains k && b.runsOut && !b.state.isActive)

/-- The timeout of the upgrade at peer k: the report tick at which the timer of the upgrade reaches 0 (R75, R78). -/
def State.upgradeTimeout (s : State) (k : Nat) : State :=
  let b := s.tickPaths.borrow k
  s.reportTickIf .pathUnit (s.peers.contains k && b.runsOut && b.state.isActive)

/-- The end of peer k's exclusion: the report tick at which its exclusion timer reaches 0 (R70, R78). -/
def State.exclusionExpiry (s : State) (k : Nat) : State :=
  s.reportTickIf .pathUnit (s.peers.contains k && (s.borrow k).exclusion == 1)

/-- The end of entry w's age: the age tick at which it reaches the age limit (R23). -/
def State.entryAgedOut (s : State) (w : Nat) : State :=
  if s.tab.agesOut s.cfg.ageLimit w then s.ageTick .addressTable else s

/-! ## Commands -/

/-- FINE_TICK (R164). -/
def execFineTick (s : State) : Host.Outcome State Fault Refusal := .next s.fineTick

/-- PRESCALER_OUTPUT (R165). -/
def execPrescalerOutput (s : State) : Host.Outcome State Fault Refusal := .next s.prescalerOutput

/-- REPORT_TICK (R165). -/
def execReportTick (u : ReportUser) (s : State) : Host.Outcome State Fault Refusal := .next (s.reportTick u).takeFrame

/-- AGE_TICK (R165). -/
def execAgeTick (u : AgeUser) (s : State) : Host.Outcome State Fault Refusal := .next (s.ageTick u).takeFrame

/-- ENTRY_AGED_OUT (R23). -/
def execEntryAgedOut (w : Fin 8192) (s : State) : Host.Outcome State Fault Refusal := .next (s.entryAgedOut w).takeFrame

/-- RENEW_TIMER_EXPIRY (R94). -/
def execRenewTimerExpiry (p : Fin 16) (s : State) : Host.Outcome State Fault Refusal := .next (s.renewTick p)

/-- SCAN_STEP (R30). -/
def execScanStep (s : State) : Host.Outcome State Fault Refusal := .next s.scanTick.takeFrame

/-- CHANGE_EVENT (R87). -/
def execChangeEvent (s : State) : Host.Outcome State Fault Refusal := .next s.nextChange.takeFrame

/-- SHED_REQUEST (R73). -/
def execShedRequest (s : State) : Host.Outcome State Fault Refusal := .next s.takeShed.takeFrame

/-- RETURN_REQUEST (R73). -/
def execReturnRequest (s : State) : Host.Outcome State Fault Refusal := .next s.takeReturn.takeFrame

/-- HELD_LIMIT_FLUSH (R45). -/
def execHeldLimitFlush (p : Fin 21) (s : State) : Host.Outcome State Fault Refusal := .next (s.limitFlush p).takeFrame

/-- PEER_STALE (R121). -/
def execPeerStale (k : Fin 4) (s : State) : Host.Outcome State Fault Refusal := .next (s.peerStale k).takeFrame

/-- SHOW_LIMIT_LAPSE (R157). -/
def execShowLimitLapse (s : State) : Host.Outcome State Fault Refusal := .next s.showLapse.takeFrame

/-- REQUEST_TIMEOUT (R78). -/
def execRequestTimeout (k : Fin 4) (s : State) : Host.Outcome State Fault Refusal := .next (s.requestTimeout k).takeFrame

/-- UPGRADE_TIMEOUT (R75). -/
def execUpgradeTimeout (k : Fin 4) (s : State) : Host.Outcome State Fault Refusal := .next (s.upgradeTimeout k).takeFrame

/-- EXCLUSION_EXPIRY (R70). -/
def execExclusionExpiry (k : Fin 4) (s : State) : Host.Outcome State Fault Refusal := .next (s.exclusionExpiry k).takeFrame

end Sys2Proof.Machine
end

