-- ==== Sys2Proof/Machine/Dispatch.lean ====
section
/-! DEFINITION. The effect of each command on everything but the queue of commands: one call of its meaning for each
constructor of Instr. -/

namespace Sys2Proof.Machine

def exec (i : Instr) (s : State) : Host.Outcome State Fault Refusal :=
  match i with
  | .reset straps signals => Sys2Proof.Machine.execReset straps signals s
  | .imageLoadEnd bytes => Sys2Proof.Machine.execImageLoadEnd bytes s
  | .fineTick => Sys2Proof.Machine.execFineTick s
  | .prescalerOutput => Sys2Proof.Machine.execPrescalerOutput s
  | .reportTick u => Sys2Proof.Machine.execReportTick u s
  | .ageTick u => Sys2Proof.Machine.execAgeTick u s
  | .entryAgedOut w => Sys2Proof.Machine.execEntryAgedOut w s
  | .epochClose => Sys2Proof.Machine.execEpochClose s
  | .windowEnd p => Sys2Proof.Machine.execWindowEnd p s
  | .signalPresent p => Sys2Proof.Machine.execSignalPresent p s
  | .signalLost p => Sys2Proof.Machine.execSignalLost p s
  | .lineCodeError p => Sys2Proof.Machine.execLineCodeError p s
  | .frameReception p frame => Sys2Proof.Machine.execFrameReception p frame s
  | .admission p => Sys2Proof.Machine.execAdmission p s
  | .copyTransmitted p => Sys2Proof.Machine.execCopyTransmitted p s
  | .holdFrameEnd p => Sys2Proof.Machine.execHoldFrameEnd p s
  | .receivedHoldTimerExpiry p => Sys2Proof.Machine.execReceivedHoldTimerExpiry p s
  | .heldLimitFlush p => Sys2Proof.Machine.execHeldLimitFlush p s
  | .renewTimerExpiry p => Sys2Proof.Machine.execRenewTimerExpiry p s
  | .changeEvent => Sys2Proof.Machine.execChangeEvent s
  | .usageReport => Sys2Proof.Machine.execUsageReport s
  | .refusalReport => Sys2Proof.Machine.execRefusalReport s
  | .lossReport => Sys2Proof.Machine.execLossReport s
  | .scanStep => Sys2Proof.Machine.execScanStep s
  | .peerStale k => Sys2Proof.Machine.execPeerStale k s
  | .showLimitLapse => Sys2Proof.Machine.execShowLimitLapse s
  | .requestTimeout k => Sys2Proof.Machine.execRequestTimeout k s
  | .upgradeTimeout k => Sys2Proof.Machine.execUpgradeTimeout k s
  | .exclusionExpiry k => Sys2Proof.Machine.execExclusionExpiry k s
  | .shedRequest => Sys2Proof.Machine.execShedRequest s
  | .returnRequest => Sys2Proof.Machine.execReturnRequest s
  | .crosslineFrameReceived ws => Sys2Proof.Machine.execCrosslineFrameReceived ws s
  | .frameStart gap sync1 sync2 claim => Sys2Proof.Machine.execFrameStart gap sync1 sync2 claim s
  | .attemptFailed good read => Sys2Proof.Machine.execAttemptFailed good read s
  | .frameSent => Sys2Proof.Machine.execFrameSent s
  | .levelNotice => Sys2Proof.Machine.execLevelNotice s
  | .addressNotice => Sys2Proof.Machine.execAddressNotice s
  | .borrowNotice => Sys2Proof.Machine.execBorrowNotice s
  | .grantNotice => Sys2Proof.Machine.execGrantNotice s
  | .withdrawNotice => Sys2Proof.Machine.execWithdrawNotice s
  | .returnNotice => Sys2Proof.Machine.execReturnNotice s
  | .billFetchPlain => Sys2Proof.Machine.execBillFetchPlain s
  | .billFetchRepeat => Sys2Proof.Machine.execBillFetchRepeat s
  | .statusFetch => Sys2Proof.Machine.execStatusFetch s
  | .ratingStep => Sys2Proof.Machine.execRatingStep s
  | .computationEnd => Sys2Proof.Machine.execComputationEnd s
  | .slotFreed => Sys2Proof.Machine.execSlotFreed s
  | .frameAcquired gap => Sys2Proof.Machine.execFrameAcquired gap s
  | .receptionBegins p => Sys2Proof.Machine.execReceptionBegins p s

end Sys2Proof.Machine
end

