-- ==== Sys2Proof/Safety.lean ====
section
/-! DEFINITION. What a safe run is: every step answers a next state, and what the spec says holds at every moment holds. Each
invariant is written with the reads of Machine/Ops.lean and bounded quantifiers, so that it can be decided on a state. -/

namespace Sys2Proof.Machine

open Sys2Proof.Config

/-- An outcome is safe when it is a next state. -/
def Safe (o : Host.Outcome State Fault Refusal) : Prop := ∃ t, o = .next t

/-! ## The canonical form of the tables -/

/-- A table lists no key with its default value. -/
def Tab.noDefault {α : Type} [DecidableEq α] (d : α) (t : Tab α) : Bool := t.all (fun e => e.2 ≠ d)

/-- Every table of the state is in its one canonical form: keys strictly rising, and no default value listed (Word.lean). -/
def State.Canonical (s : State) : Prop :=
  (Tab.wf s.ls.ports = true ∧ Tab.noDefault PortLink.reset s.ls.ports = true) ∧
  (Tab.wf s.iu.ports = true ∧ Tab.noDefault PortIntake.reset s.iu.ports = true) ∧
  Tab.wf s.tab.ways = true ∧
  (Tab.wf s.bm.inUse = true ∧ Tab.noDefault 0 s.bm.inUse = true) ∧
  (Tab.wf s.bm.queueCells = true ∧ Tab.noDefault 0 s.bm.queueCells = true) ∧
  Tab.wf s.bm.frames = true ∧
  (Tab.wf s.es.queues = true ∧ Tab.noDefault [] s.es.queues = true) ∧
  (Tab.wf s.es.ports = true ∧ Tab.noDefault PortTx.reset s.es.ports = true) ∧
  (Tab.wf s.rc.tenantInUse = true ∧ Tab.noDefault 0 s.rc.tenantInUse = true) ∧
  (Tab.wf s.rc.ports = true ∧ Tab.noDefault PortHold.reset s.rc.ports = true) ∧
  (Tab.wf s.pu.bindings = true ∧ Tab.noDefault .unbound s.pu.bindings = true) ∧
  (Tab.wf s.pu.borrows = true ∧ Tab.noDefault BorrowRecord.reset s.pu.borrows = true) ∧
  Tab.wf s.pu.lends = true ∧
  (Tab.wf s.pv.peers = true ∧ Tab.noDefault PeerRecord.reset s.pv.peers = true) ∧
  (Tab.wf s.um.active = true ∧ Tab.noDefault Usage.zero s.um.active = true) ∧
  Tab.wf s.um.pending = true

/-! ## The cell buffer (R10) -/

/-- The copy in flight in a transmitter, if there is one. -/
def PortTx.inFlight (x : PortTx) : List Desc :=
  match x.state with
  | .sending (.copy d) => [d]
  | .sending (.hold _) => []
  | .idle => []
  | .held => []

/-- Every copy there is: the queued ones and the ones in flight (R35). -/
def State.copies (s : State) : List Desc :=
  s.es.queues.flatMap (fun e => e.2) ++ s.es.ports.flatMap (fun e => e.2.inFlight)

/-- The cells of a copy: those of its frame. -/
def State.copyCells (s : State) (d : Desc) : Nat :=
  match Tab.find? s.bm.frames d.frame with
  | some f => f.cells
  | none => 0

/-- R10's accounts: the free cells with the cells of the stored frames are the whole buffer; each tenant's in-use cells are
those of its stored frames; each queue's cells are those of the copies it holds, queued or in flight; and the free
descriptors with the copies are all there are. -/
def State.BufferSound (s : State) : Prop :=
  s.bm.freeCells + Tab.sum StoredFrame.cells s.bm.frames = bufferCells ∧
  (∀ t, s.inUse t = ((s.bm.frames.filter (fun e => e.2.tenant == t)).map (fun e => e.2.cells)).sum) ∧
  (∀ q, s.cellsOf q = ((s.copies.filter (fun d => queueKey d.port d.cls == q)).map s.copyCells).sum) ∧
  s.bm.freeDescriptors + s.copies.length = descriptors

/-- What R10's accounts rest on: the tables they are read off are canonical; a stored frame's copies outstanding are the
copies there are of it, at least one; every copy is of a stored frame; every stored frame and every arrival record belongs to
a tenant 1 to 255, and the tenant map names no other. -/
def State.BufferLinked (s : State) : Prop :=
  Tab.wf s.bm.frames = true ∧ Tab.wf s.es.queues = true ∧ Tab.wf s.es.ports = true ∧
  (∀ e ∈ s.bm.frames, e.1 < s.bm.nextFrame ∧ 1 ≤ e.2.outstanding ∧ 1 ≤ e.2.tenant ∧ e.2.tenant ≤ 255 ∧
    e.2.outstanding = (s.copies.filter (fun d => d.frame == e.1)).length) ∧
  (∀ d ∈ s.copies, Tab.has s.bm.frames d.frame = true) ∧
  (∀ a ∈ s.iu.arrivals, 1 ≤ a.tenant ∧ a.tenant ≤ 255) ∧
  (∀ e ∈ s.cfg.tenantMap, 1 ≤ e.tenant ∧ e.tenant ≤ 255)

/-! ## Ports that are not live (R38, R46) -/

/-- A port that is not live has no copy queued, nothing in flight, no hold pending and is under no hold (R36, R38, R40, R46);
and no arrival record, and no entry of the class map, has a class above 3 (R7, R9). -/
def State.DeadQuiet (s : State) : Prop :=
  (∀ p ∈ allPorts, s.live p = false → s.tx p = PortTx.reset ∧ ∀ c ∈ [0, 1, 2, 3], s.queue (queueKey p c) = []) ∧
  (∀ a ∈ s.iu.arrivals, a.cls ≤ 3) ∧ (∀ c ∈ s.cfg.classMap, c ≤ 3)

/-! ## The Link Supervisor (R48, R56) -/

/-- While the image is LOADING no window runs and every port is DOWN with no fault counted (R48, R62). -/
def State.LinksStill (s : State) : Prop :=
  s.ls.window = none ∧ s.ls.windowDue = 0 ∧ s.ls.windowOwed = [] ∧
  ∀ p ∈ allPorts, (s.link p).state = .down ∧ (s.link p).flaps = 0

/-- The ranges of R48, for every port: the good-window count, the stages, the window error count, and a flap count that
never exceeds the flap limit (R56). -/
def State.LinksSound (s : State) : Prop :=
  (s.il.state = .loading → s.LinksStill) ∧ 1 ≤ s.cfg.flapLimit ∧ s.cfg.flapLimit ≤ 15 ∧
  ∀ p ∈ allPorts, (s.link p).good ≤ 256 ∧ (s.link p).stages ≤ 6 ∧ (s.link p).errors ≤ 255 ∧
    (s.link p).flaps ≤ s.cfg.flapLimit ∧ ((s.link p).state ≠ .heldDown → (s.link p).flaps < s.cfg.flapLimit)

/-! ## Spine paths (R65, R66, R69, R70, R80) -/

/-- While the image is LOADING no path is bound, no peer is known and no borrow is held (R64, R70, R127). -/
def State.PathsStill (s : State) : Prop :=
  s.LinksStill ∧ s.pu.bindings = [] ∧ ∀ k ∈ stations, (s.peer k).state = .absent ∧ (s.borrow k).state = .none

/-- A path's binding agrees with the links, the peers and the borrow records: a path bound toward a peer in REPLACE rests on the
fault borrow, one in SPLIT on the relief borrow (R65, R66, R69). -/
def State.bindingSound (s : State) (i : Nat) : Bool :=
  match s.binding i with
  | .unbound => !s.anyUplink
  | .home => s.live (s.homePort i)
  | .replaceUplink => s.live (otherUplink (s.homePort i))
  | .replacePeer k => s.peers.contains k && s.peerLive k && s.crossLive k && (s.borrow k).state == .active .fault
  | .split k =>
    s.peers.contains k && s.peerLive k && s.crossLive k && (s.borrow k).state == .active .relief && s.live (s.homePort i)

/-- A peer's borrow and lend records agree with the peer, its cross port and the paths (R65, R69, R70, R77, R80). -/
def State.recordsSound (s : State) (k : Nat) : Prop :=
  ((s.borrow k).state ≠ .none → s.peerLive k = true ∧ s.crossLive k = true) ∧
  ((s.borrow k).state.isActive = true → s.hasPathToward k = true) ∧
  ((s.borrow k).upgrade = true → (s.borrow k).state = .active .fault) ∧
  (((s.lend k).map LendRecord.reason) = some .relief → (s.borrow k).state.hasReason .relief = false)

/-- The spine path table with the borrow and lend tables: the sole-path flag (R65), every binding (R65, R66, R69), every
record, at most one record of each reason (R70), and no notice but a fetch from a station that is no peer (R109). -/
def State.PathsSound (s : State) : Prop :=
  s.il.station ≤ 3 ∧ s.cfg.homes.length = 8 ∧ (∀ h ∈ s.cfg.homes, h ≤ 1) ∧
  (s.il.state = .loading → s.PathsStill) ∧
  s.pu.solePath = !s.anyUplink ∧
  (∀ i ∈ paths, s.bindingSound i = true) ∧
  (∀ k ∈ s.peers, s.recordsSound k) ∧
  (∀ j ∈ s.peers, ∀ k ∈ s.peers, ∀ r ∈ [Reason.fault, Reason.relief],
    (s.borrow j).state.hasReason r = true → (s.borrow k).state.hasReason r = true → j = k) ∧
  (∀ n ∈ s.xc.notices, n.kind = .billFetch ∨ n.kind = .statusFetch ∨ n.sender ∈ s.peers)

/-! ## The address table (R18, R29) -/

/-- Is a location in its range: an access port, or a peer station other than the station itself (R18)? -/
def Place.inRange (self : Nat) : Place → Bool
  | .atPort q _ _ => decide (q < 16)
  | .atPeer k => decide (k ≤ 3) && k != self
  | .retired _ => true

/-- Every entry stands in its key's bucket, no two ways hold one key, no key has a group address, locations and move counts are
in range, and a mark is IN-FRAME only while an ADDRESS frame is outstanding; an ADDRESS notice comes from a switching station
(R18, R29, R109). -/
def State.AddressesSound (s : State) : Prop :=
  Tab.wf s.tab.ways = true ∧
  (∀ e ∈ s.tab.ways, e.1 / 4 = bucketOf e.2.tenant e.2.addr ∧ isGroup e.2.addr = false ∧ e.2.moves ≤ 15 ∧
    e.2.place.inRange s.il.station = true ∧ (e.2.mark = .inFrame → s.tab.outstanding = true)) ∧
  (s.tab.ways.map (fun e => (e.2.tenant, e.2.addr))).Nodup ∧
  (∀ n ∈ s.xc.notices, n.kind = .address → n.sender ≤ 3)

/-! ## The Crossline Controller (R102, R107, R110, R112) -/

/-- At most one message of a key waits in a queue, each in the queue of its urgency; at most 16 notices wait; fewer than four
attempts have failed, and none with an empty hand (R102, R107, R110, R112). -/
def State.LineSound (s : State) : Prop :=
  (s.xc.urgent.map (fun m => (m.kind, m.dest))).Nodup ∧ (∀ m ∈ s.xc.urgent, m.urgency = 0) ∧
  (s.xc.normal.map (fun m => (m.kind, m.dest))).Nodup ∧ (∀ m ∈ s.xc.normal, m.urgency = 1) ∧
  s.xc.notices.length ≤ 16 ∧ s.xc.attempts ≤ 3 ∧ (s.xc.hand = none → s.xc.attempts = 0)

/-! ## Congestion, metering and billing (R88, R128, R134, R151 to R153) -/

/-- A run of records carries consecutive numbers, the last one before the next number (R153). -/
def numbersRun (next : Nat) : List BillRecord → Bool
  | [] => true
  | [r] => nextNumber r.number == next
  | r :: x :: rest => (nextNumber r.number == x.number) && numbersRun next (x :: rest)

/-- The Billing Record Queue and the engine: at most 64 records with consecutive numbers, a head state that is absent only on an
empty queue, a show timer below the show limit, and while a record is computed a pending set that is not all zero and a free
slot for the record (R132, R134, R151, R153). -/
def State.BillingSound (s : State) : Prop :=
  s.bq.records.length ≤ recordSlots ∧ numbersRun s.bq.next s.bq.records = true ∧
  (s.bq.head = .absent ↔ s.bq.records = []) ∧
  (match s.bq.head with
   | .shown _ n => n < s.cfg.showLimit
   | .absent => True
   | .fresh => True) ∧
  1 ≤ s.cfg.showLimit ∧
  (s.il.state = .loading → s.bq.head = .absent ∨ s.bq.head = .fresh) ∧
  (match s.re.state with
   | .computing t => s.bq.records.length < recordSlots ∧ ∃ p, s.pendingSet t = some p ∧ p.usage.allZero = false
   | .idle => True
   | .stepping _ => True
   | .waiting _ => True)

/-- The set stages of congestion are a run from C1, and the level is their number (R88); there are five marks (R86). -/
def State.StagesSound (s : State) : Prop :=
  s.cfg.marks.length = 5 ∧ s.rc.stages.length = 5 ∧ s.rc.level = levelOf s.rc.stages ∧
  ∀ i ∈ [0, 1, 2, 3], s.rc.stages.getD (i + 1) false = true → s.rc.stages.getD i false = true

/-- A usage set within its ranges (R128). -/
def Usage.inRange (u : Usage) : Bool :=
  decide (u.committed ≤ count48) && decide (u.excess ≤ count48) && decide (u.lost ≤ count48)
    && decide (u.admitted ≤ count32) && decide (u.refused ≤ count32)

/-- Every set is within its ranges, and the epoch number is 1 to 65,535 (R128). -/
def State.MeterSound (s : State) : Prop :=
  (∀ e ∈ s.um.active, e.2.inRange = true) ∧
  (∀ e ∈ s.um.pending, e.2.usage.inRange = true) ∧
  1 ≤ s.um.epoch ∧ s.um.epoch ≤ 65535

end Sys2Proof.Machine
end

