-- ==== Sys2Proof/Certificates/Slice0/Obligations.lean ====
section
/-! DEFINITION. The statements about the part that the provers are given, chapter by chapter. A result of a command is stated with
its frame: t = { s with b := t.b } says that no block but b is changed. Where a command ends with the transmitter's taking of a
frame (R113, notes/assumptions/6.md), the state t is the one just before that taking, and TransmitterTakesInOrder says what it
takes. -/

open Sys2Proof Sys2Proof.Machine Sys2Proof.Config

/-! ## The machine -/

/-- A step takes the oldest command that waits and runs it on the state with the rest of the queue; with none waiting the part
idles. The queue is the model's own (notes/assumptions/2.md). -/
def Obligations.StepTakesFrontCommand : Prop :=
  (∀ (s : State) (c : Instr) (rest : List Instr), s.pending = c :: rest → step s = exec c { s with pending := rest }) ∧
  (∀ s : State, s.pending = [] → step s = .next s)

/-- Every command answers a next state in every state, and leaves the queue of commands as it is. That is the model's reading: the
spec gives every event an effect in every state (DEDUCED, notes/assumptions/22.md), and a command whose event is not there changes
nothing (DESIGN CHOICE, notes/assumptions/4.md). Settings, station number and image state are fixed from the end of the load until
the next reset: no command but RESET changes them (R160, R162, R163). -/
def Obligations.EveryCommandRuns : Prop :=
  ∀ (c : Instr) (s : State), ∃ t : State, exec c s = .next t ∧ t.pending = s.pending ∧
    ((∀ straps signals, c ≠ .reset straps signals) → s.il.state ≠ .loading → t.cfg = s.cfg ∧ t.il = s.il)

/-! ## Reset and the image (Chapter 12) -/

/-- RESET leaves every block at the values its rule states: counts, queues and tables empty, the buffer free, every timer stopped,
every latch and mark clear; the station number the straps give, and each port's signal as its receiver reports it. The settings are
what image bytes of zero read as, but for the homes (notes/assumptions/20.md); the commands that wait stay
(notes/assumptions/1.md). -/
def Obligations.ResetLeaves : Prop :=
  ∀ (straps : Fin 4) (signals : BitVec 21) (s : State), ∃ t : State, exec (.reset straps signals) s = .next t ∧
    t = { State.reset with il := t.il, ls := t.ls, pending := s.pending } ∧
    t.il = { station := straps, state := .loading, reason := .none, clamped := 0 } ∧
    (t.cfg = { readSettings (List.replicate 99 0) with homes := [0, 0, 0, 0, 1, 1, 1, 1] } ∧ t.cfg.tenantMap = [] ∧
      t.cfg.classMap = [0, 0, 0, 0, 0, 0, 0, 0] ∧ ∀ n ∈ tenants, (t.tenant n).valid = false) ∧
    t.tb = { prescaler := none, t1 := none, t2 := none, t3 := none, prescalerDue := 0, reportDue := 0, reportOwed := []
             ageDue := 0, ageOwed := [], epochDue := 0 } ∧
    t.ls = { ports := t.ls.ports, window := none, windowDue := 0, windowOwed := [] } ∧
    (∀ p ∈ allPorts,
      t.link p = { state := .down, signal := signals.getLsbD p, good := 0, stages := 0, flaps := 0, latch := false
                   lossMark := false, errors := 0 } ∧
      t.intake p = { bad := 0, unclassified := 0, reception := .idle } ∧
      t.tx p = { state := .idle, rxHold := none, heldCount := 0, pendingHold := none, holdDue := false } ∧
      t.hold p = { holding := false, renew := none, renewDue := false } ∧
      ∀ c < 4, t.queue (queueKey p c) = [] ∧ t.cellsOf (queueKey p c) = 0) ∧
    t.iu.arrivals = [] ∧
    t.tab = { ways := [], skipped := 0, build := 0, outstanding := false, scan := none, scanDue := 0 } ∧
    (∀ n ∈ tenants, t.inUse n = 0 ∧ Tab.read 0 t.rc.tenantInUse n = 0) ∧
    t.bm = { t.bm with freeCells := 24576, freeDescriptors := 8192, frames := [], nextFrame := 0, changes := []
                       usageReports := [], refusals := [], losses := [] } ∧
    t.rc = { t.rc with measure := 0, bufferInUse := 0, stages := [false, false, false, false, false], level := 0, held := []
                       lendOffer := false } ∧
    (∀ i ∈ paths, t.binding i = .unbound) ∧ t.pu.solePath = true ∧ t.pu.shedDue = 0 ∧ t.pu.returnDue = 0 ∧
    (∀ k ∈ stations, t.borrow k = { state := .none, timer := 0, upgrade := false, exclusion := 0, noUplink := false } ∧
      t.lend k = none ∧ t.peer k = { state := .absent, missed := 0, stored := none }) ∧
    t.xc = { urgent := [], normal := [], hand := none, attempts := 0, ownLast := false, fillRun := 0, rx := .searching
             notices := [], lineErrors := 0, lineFault := false, overruns := 0, overrunLatch := false, lostNotices := false
             duplicate := false, toDrive := none, rxOwn := false, lostAgain := false } ∧
    (∀ n ∈ tenants, t.active n = Usage.zero ∧ t.pendingSet n = none) ∧ t.um.epoch = 1 ∧ t.um.heldCloses = 0 ∧
    t.re.state = .idle ∧ t.bq = { records := [], next := 1, head := .absent, slotsFreed := 0 } ∧
    t.pending = s.pending

/-- The checks of R161 in their order, on a load that has not ended: an image that passes all of them is accepted, with its
settings read, the Time Base counters at their constants and the window counter at 0 (R162, R165, R62); the first that fails
ends the load UNCONFIGURED with its reason and sets nothing else (R161, R163). What bytes the presence check covers is the
model's reading (notes/assumptions/8.md). -/
def Obligations.ImageLoadEnds : Prop :=
  ∀ (s : State) (b : List Byte), s.il.state = .loading →
    let n := imageLength b
    let absent := b.length < 4 ∨ be16 b 0 = 0xFFFF ∨ b.length < n
    let wrongWord := be16 b 0 ≠ 0x5A48
    let wrongLength := n < 99 ∨ 16384 < n
    let wrongSections := n < 95 + 4 * mapCount b ∨ n ≠ 99 + 4 * mapCount b + 25 * tableCount b
    let wrongCheck := (crc32 (b.take (n - 4))).toNat ≠ leNat ((b.drop (n - 4)).take 4)
    let unconfigured := fun r => { s with il := { s.il with state := .unconfigured, reason := r } }
    (absent → exec (.imageLoadEnd b) s = .next (unconfigured .noImage)) ∧
    (¬absent → wrongWord ∨ wrongLength ∨ wrongSections → exec (.imageLoadEnd b) s = .next (unconfigured .format)) ∧
    (¬absent → ¬wrongWord → ¬wrongLength → ¬wrongSections → wrongCheck →
      exec (.imageLoadEnd b) s = .next (unconfigured .checkFail)) ∧
    (¬absent → ¬wrongWord → ¬wrongLength → ¬wrongSections → ¬wrongCheck →
      ∃ t : State, exec (.imageLoadEnd b) s = .next t ∧ t = { s with il := t.il, cfg := t.cfg, tb := t.tb, ls := t.ls } ∧
        t.il = { s.il with state := .configured, clamped := imageClamps b } ∧ t.cfg = readSettings b ∧
        t.tb = { s.tb with prescaler := some t.cfg.prescale, t1 := some t.cfg.t1, t2 := some t.cfg.t2, t3 := some t.cfg.t3 } ∧
        t.ls = { s.ls with window := some 0 })

/-- Every setting that an image gives lies in its legal range, whatever the image's bytes are; the return level is its own field,
0 read as 1, and at most the shed level minus 1; a resolved method is the method code where that is 1 to 8, else the group default;
the tenant map holds no key twice (R5, R7, R11, R23, R44, R50, R52, R56, R64, R86, R140, R142, R151, R164, R165). -/
def Obligations.SettingsInRange : Prop :=
  ∀ b : List Byte, let c := readSettings b
    (1 ≤ c.groupMethod ∧ c.groupMethod ≤ 8) ∧ (c.prescale = 1 ∨ c.prescale = 16 ∨ c.prescale = 256) ∧
    (1 ≤ c.t1 ∧ c.t1 ≤ 256) ∧ (1 ≤ c.t2 ∧ c.t2 ≤ 256) ∧ (1 ≤ c.t3 ∧ c.t3 ≤ 256) ∧
    (c.classMap.length = 8 ∧ ∀ x ∈ c.classMap, x ≤ 3) ∧
    (∀ x ∈ [c.stageAccess, c.stageUplink, c.stageCross], 1 ≤ x ∧ x ≤ 6) ∧
    (1 ≤ c.errorLimit ∧ c.errorLimit ≤ 255) ∧ (1 ≤ c.flapLimit ∧ c.flapLimit ≤ 15) ∧
    (2 ≤ c.ageLimit ∧ c.ageLimit ≤ 15) ∧ (1 ≤ c.heldLimit ∧ c.heldLimit ≤ 256) ∧
    (1 ≤ c.showLimit ∧ c.showLimit ≤ 16) ∧ (1 ≤ c.maxShed ∧ c.maxShed ≤ 8) ∧ (1 ≤ c.excessCut ∧ c.excessCut ≤ 5) ∧
    (1 ≤ c.shedLevel ∧ c.shedLevel ≤ 5 ∧ c.returnLevel = min (max 1 (byteAt b 30)) (c.shedLevel - 1)) ∧
    (1 ≤ c.lendLimit ∧ c.lendLimit ≤ c.withdrawLevel ∧ c.withdrawLevel ≤ 5) ∧
    (c.homes.length = 8 ∧ ∀ h ∈ c.homes, h ≤ 1) ∧ (1 ≤ c.holdTime ∧ c.holdTime ≤ 65535) ∧
    (c.marks.length = 5 ∧ c.marks.Pairwise (fun x y => x < y) ∧ (∀ x ∈ c.marks, 1 ≤ x) ∧
      ∀ k < 5, c.marks.getD k 0 ≤ 24576 + k) ∧
    (∀ x ∈ c.marks.head?, c.hysteresis ≤ x) ∧ (c.releaseMark ≤ c.holdMark ∧ 1 ≤ c.holdMark ∧ c.holdMark ≤ 24576) ∧
    c.excessReserve ≤ 24576 ∧ (c.queueLimits.length = 12 ∧ ∀ x ∈ c.queueLimits, 1 ≤ x ∧ x ≤ 24576) ∧
    (c.tenantMap.length ≤ 1024 ∧ (c.tenantMap.map (fun e => (e.scope, e.tag))).Nodup ∧
      ∀ e ∈ c.tenantMap, 1 ≤ e.tenant ∧ e.tenant ≤ 255 ∧ e.tag ≤ 4094 ∧ ∀ p, e.scope = .access p → p < 16) ∧
    (∀ e ∈ c.tenantTable, 1 ≤ e.1 ∧ e.1 ≤ 255 ∧ e.2.share ≤ 24576 ∧ e.2.methodCode ≤ 15 ∧
      e.2.method = (if 1 ≤ e.2.methodCode ∧ e.2.methodCode ≤ 8 then e.2.methodCode else c.groupMethod) ∧
      ∀ rate ∈ [e.2.rc, e.2.re, e.2.rd], rate ≤ 999999999999)

/-- A tariff field of a zero pad, the twelve digits of a number and a plus code decodes to that number, and one of twelve zeros to 0
under a minus code too; a nonzero pad, a digit nibble above 9, a sign nibble of 0 to 9, or a minus code on a digit that is not
0 makes it invalid (R140). -/
def Obligations.TariffDecodes : Prop :=
  (∀ v < 1000000000000, ∀ sign ∈ [0xA, 0xC, 0xE, 0xF],
    decodeTariff (0 :: (List.range 12).map (fun i => v / 10 ^ (11 - i) % 10) ++ [sign]) = some v) ∧
  (∀ sign ∈ [0xB, 0xD], decodeTariff (0 :: List.replicate 12 0 ++ [sign]) = some 0) ∧
  (∀ (pad sign : Nat) (ds : List Nat), ds.length = 12 →
    pad ≠ 0 ∨ (∃ d ∈ ds, 9 < d) ∨ sign ≤ 9 ∨ ((sign = 0xB ∨ sign = 0xD) ∧ ∃ d ∈ ds, d ≠ 0) →
    decodeTariff (pad :: ds ++ [sign]) = none)

/-! ## The Time Base (section 12.2) -/

/-- FINE_TICK counts a running prescaler and a running window counter down and up by one, and every timer above 1 down by one;
an expiry is left due, to be taken as its own command (R164, R165, R50, R43, R94, notes/assumptions/3.md). -/
def Obligations.FineTickCounts : Prop :=
  ∀ s : State, ∃ t : State, exec .fineTick s = .next t ∧
    t = { s with tb := t.tb, ls := t.ls, es := t.es, rc := t.rc, tab := t.tab } ∧
    (∀ n, s.tb.prescaler = some (n + 2) → t.tb = { s.tb with prescaler := some (n + 1) }) ∧
    (s.tb.prescaler = some 1 → t.tb = { s.tb with prescaler := some 0, prescalerDue := s.tb.prescalerDue + 1 }) ∧
    (s.tb.prescaler = none → t.tb = s.tb) ∧
    (∀ n, s.ls.window = some n → n < 4095 → t.ls = { s.ls with window := some (n + 1) }) ∧
    (s.ls.window = some 4095 → t.ls = { s.ls with window := some 0, windowDue := s.ls.windowDue + 1 }) ∧
    (s.ls.window = none → t.ls = s.ls) ∧
    (∀ p ∈ allPorts, ∀ n, (s.tx p).rxHold = some (n + 2) → t.tx p = { s.tx p with rxHold := some (n + 1) }) ∧
    (∀ p ∈ allPorts, (s.tx p).rxHold = some 1 → t.tx p = { s.tx p with holdDue := true }) ∧
    (∀ p ∈ allPorts, (s.tx p).rxHold = none → t.tx p = s.tx p) ∧ t.es.queues = s.es.queues ∧
    (∀ p ∈ accessPorts, ∀ n, (s.hold p).renew = some (n + 2) → t.hold p = { s.hold p with renew := some (n + 1) }) ∧
    (∀ p ∈ accessPorts, (s.hold p).renew = some 1 → t.hold p = { s.hold p with renewDue := true }) ∧
    (∀ p ∈ accessPorts, (s.hold p).renew = none → t.hold p = s.hold p) ∧ t.rc = { s.rc with ports := t.rc.ports } ∧
    t.tab = { s.tab with scanDue := s.tab.scanDue + (if s.tab.scan.isSome then 1 else 0) }

/-- The prescaler divides: from a count of n, the first n - 1 fine ticks make no output due, and the n-th makes one, with the
prescaler at 0 (R164, R165). PRESCALER_OUTPUT, when an output is due, reloads the prescaler and counts T1 down; a T1 that comes to
0 makes a report tick due (R165). A report tick that is due is taken up when no user owes the last one: T1 reloads, T2 counts down,
an age tick is due when T2 comes to 0, and every user owes the tick its taking. So is an age tick: T2 reloads, T3 counts down, and
an epoch close is due when T3 comes to 0 (R165). A user that owes none while another does finds none. That a tick waits for every
user's taking of the last is the model's choice (notes/assumptions/10.md). -/
def Obligations.TimeBaseDivides : Prop :=
  (∀ (s : State) (n : Nat), s.tb.prescaler = some n → 0 < n →
    let tick := fun z => match exec .fineTick z with
      | .next t => t
      | .fault _ => z
      | .refused _ => z
    (∀ m < n, (tick^[m] s).tb.prescalerDue = s.tb.prescalerDue) ∧
    (tick^[n] s).tb.prescaler = some 0 ∧ (tick^[n] s).tb.prescalerDue = s.tb.prescalerDue + 1) ∧
  (∀ (s : State) (n : Nat), 0 < s.tb.prescalerDue → s.tb.prescaler = some 0 → s.tb.t1 = some (n + 1) →
    exec .prescalerOutput s = .next { s with tb := { s.tb with
      prescalerDue := s.tb.prescalerDue - 1, prescaler := some s.cfg.prescale, t1 := some n
      reportDue := s.tb.reportDue + (if n = 0 then 1 else 0) } }) ∧
  (∀ (s : State) (u : ReportUser) (n : Nat), s.tb.reportOwed = [] → 0 < s.tb.reportDue → s.tb.t1 = some 0 →
    s.tb.t2 = some (n + 1) →
    exec (.reportTick u) s = exec (.reportTick u) { s with tb := { s.tb with
      reportDue := s.tb.reportDue - 1, t1 := some s.cfg.t1, t2 := some n
      ageDue := s.tb.ageDue + (if n = 0 then 1 else 0)
      reportOwed := [.egressScheduler, .reliefController, .pathUnit, .peerView, .levelBuilder, .billingQueue] } }) ∧
  (∀ (s : State) (u : ReportUser), u ∉ s.tb.reportOwed → s.tb.reportOwed ≠ [] →
    exec (.reportTick u) s = .next s.takeFrame) ∧
  (∀ (s : State) (u : AgeUser) (n : Nat), s.tb.ageOwed = [] → 0 < s.tb.ageDue → s.tb.t2 = some 0 → s.tb.t3 = some (n + 1) →
    exec (.ageTick u) s = exec (.ageTick u) { s with tb := { s.tb with
      ageDue := s.tb.ageDue - 1, t2 := some s.cfg.t2, t3 := some n
      epochDue := s.tb.epochDue + (if n = 0 then 1 else 0)
      ageOwed := [.addressTable, .linkSupervisor, .peerView] } }) ∧
  (∀ (s : State) (u : AgeUser), u ∉ s.tb.ageOwed → s.tb.ageOwed ≠ [] → exec (.ageTick u) s = .next s.takeFrame)

/-- The report tick at three of its users. At the Egress Scheduler every port under hold raises its held-duration count by one, up to
256; the queues of every port whose count has reached the held limit are emptied, and every other port is left alone (R44, R45). At
the Peer View every LIVE record of missed count below 2 raises it, every one at 2 becomes STALE with its stored LEVEL kept, and no
other record changes (R121). At the Path Unit: of the REPLACE paths whose home uplink is UP the lowest-numbered becomes HOME and no
other path moves; with a path UNBOUND and no FAULT record, a FAULT request is made to the candidate, whose timer falls at once
(notes/assumptions/13.md); at or above the withdraw level one lend is withdrawn, the relief lend of the highest borrower, else the
fault lend of the highest borrower that does not report sole-path, and below it none (R72, R78, R82). -/
def Obligations.ReportTickCountsAndReturns : Prop :=
  (∀ s : State, ReportUser.egressScheduler ∈ s.tb.reportOwed →
     ∃ t : State, exec (.reportTick .egressScheduler) s = .next t.takeFrame ∧ t = { s with tb := t.tb, es := t.es, bm := t.bm } ∧
       t.tb = { s.tb with reportOwed := s.tb.reportOwed.filter (fun v => v ≠ .egressScheduler) } ∧
       ∀ p ∈ allPorts,
         let count := min 256 ((s.tx p).heldCount + 1)
         ((s.tx p).rxHold = none → t.tx p = s.tx p) ∧
         ((s.tx p).rxHold ≠ none → t.tx p = { s.tx p with heldCount := count }) ∧
         ((s.tx p).rxHold ≠ none → s.cfg.heldLimit ≤ count → ∀ c < 4, t.queue (queueKey p c) = []) ∧
         ((s.tx p).rxHold = none ∨ count < s.cfg.heldLimit → ∀ c < 4, t.queue (queueKey p c) = s.queue (queueKey p c))) ∧
  (∀ s : State, ReportUser.peerView ∈ s.tb.reportOwed →
     ∃ t : State, exec (.reportTick .peerView) s = .next t.takeFrame ∧
       t = { s with tb := t.tb, pv := t.pv, pu := t.pu, rc := t.rc, xc := t.xc } ∧
       (∀ k ∈ s.peers,
         ((s.peer k).state = .live → (s.peer k).missed < 2 → t.peer k = { s.peer k with missed := (s.peer k).missed + 1 }) ∧
         ((s.peer k).state = .live → 2 ≤ (s.peer k).missed → t.peer k = { s.peer k with state := .stale, missed := 3 }) ∧
         ((s.peer k).state ≠ .live → t.peer k = s.peer k)) ∧
       ∀ k, k ∉ s.peers → t.peer k = s.peer k) ∧
  (∀ s : State, ReportUser.pathUnit ∈ s.tb.reportOwed →
     let back := fun i => (s.binding i = .replaceUplink ∨ ∃ k, s.binding i = .replacePeer k) ∧
       (s.link (s.homePort i)).state = .up
     let lent := fun (f : LendRecord → Prop) k => k ∈ s.peers ∧ ∃ d, s.lend k = some d ∧ f d
     let relief := lent (fun d => d.reason = .relief)
     let spare := lent (fun d => d.solePath = false)
     ∃ t : State, exec (.reportTick .pathUnit) s = .next t.takeFrame ∧
       t = { s with tb := t.tb, pu := t.pu, rc := t.rc, xc := t.xc } ∧
       (∀ i ∈ paths, back i → (∀ j < i, ¬back j) → t.binding i = .home ∧ ∀ j, j ≠ i → t.binding j = s.binding j) ∧
       ((∀ i ∈ paths, ¬back i) → ∀ j, t.binding j = s.binding j) ∧
       (∀ k, s.hasUnbound = true → s.lender .fault = none → s.candidate .fault = some k →
         t.borrow k = { s.borrow k with state := .requested .fault, timer := 1, upgrade := false } ∧
         .borrow k .fault s.pu.solePath ∈ t.xc.urgent ∧ .ret k ∉ t.xc.normal) ∧
       (s.hasUnbound = false ∨ s.lender .fault ≠ none ∨ s.candidate .fault = none →
         ∀ k ∈ s.peers, (s.borrow k).state = .none → (t.borrow k).state = .none) ∧
       (let goes := fun k => t.lend k = none ∧ .withdraw k .level ∈ t.xc.urgent ∧ ∀ j, j ≠ k → t.lend j = s.lend j
        let keep := ∀ k, t.lend k = s.lend k
        (s.rc.level < s.cfg.withdrawLevel → keep) ∧
        (s.cfg.withdrawLevel ≤ s.rc.level →
          (∀ k, relief k → (∀ j, k < j → ¬relief j) → goes k) ∧
          (∀ k, (∀ j, ¬relief j) → spare k → (∀ j, k < j → ¬spare j) → goes k) ∧
          ((∀ j, ¬relief j) → (∀ j, ¬spare j) → keep))))

/-- The report tick at three of its users. The Relief Controller sends a shed request at or above the shed level while fewer paths
than max-shed are SPLIT, a return request at or below the return level, and else nothing (R98). The LEVEL builder queues a LEVEL at
the tail, or leaves the one that waits in its place, and none while the image is not CONFIGURED (R115). The Billing Record Queue
raises the timer of a SHOWN head, and one that reaches the show limit is FRESH (R157). SHOW_LIMIT_LAPSE is that tick of the Billing
Record Queue where it brings the timer to the show limit, and changes nothing elsewhere (notes/assumptions/31.md). -/
def Obligations.ReportTickRequestsLevelShow : Prop :=
  (∀ s : State, ReportUser.reliefController ∈ s.tb.reportOwed →
    ∃ t : State, exec (.reportTick .reliefController) s = .next t.takeFrame ∧ t = { s with tb := t.tb, pu := t.pu } ∧
      t.tb = { s.tb with reportOwed := s.tb.reportOwed.filter (fun v => v ≠ .reliefController) } ∧
      (s.cfg.shedLevel ≤ s.rc.level → s.splitCount < s.cfg.maxShed → t.pu = { s.pu with shedDue := s.pu.shedDue + 1 }) ∧
      (s.cfg.shedLevel ≤ s.rc.level → s.cfg.maxShed ≤ s.splitCount → t.pu = s.pu) ∧
      (s.rc.level < s.cfg.shedLevel → s.rc.level ≤ s.cfg.returnLevel →
        t.pu = { s.pu with returnDue := s.pu.returnDue + 1 }) ∧
      (s.rc.level < s.cfg.shedLevel → s.cfg.returnLevel < s.rc.level → t.pu = s.pu)) ∧
  (∀ s : State, ReportUser.levelBuilder ∈ s.tb.reportOwed →
    ∃ t : State, exec (.reportTick .levelBuilder) s = .next t.takeFrame ∧ t = { s with tb := t.tb, xc := t.xc } ∧
      t.xc = { s.xc with normal := if s.il.state = .configured ∧ .level ∉ s.xc.normal then s.xc.normal ++ [.level]
                                   else s.xc.normal }) ∧
  (∀ s : State, ReportUser.billingQueue ∈ s.tb.reportOwed →
    let tick := fun head => Host.Outcome.next (State.takeFrame { s with
      tb := { s.tb with reportOwed := s.tb.reportOwed.filter (fun v => v ≠ .billingQueue) }
      bq := { s.bq with head := head } })
    (∀ c n, s.bq.head = .shown c n → n + 1 < s.cfg.showLimit →
      exec (.reportTick .billingQueue) s = tick (.shown c (n + 1)) ∧ exec .showLimitLapse s = .next s.takeFrame) ∧
    (∀ c n, s.bq.head = .shown c n → s.cfg.showLimit ≤ n + 1 →
      exec (.reportTick .billingQueue) s = tick .fresh ∧ exec .showLimitLapse s = tick .fresh) ∧
    (s.bq.head = .fresh ∨ s.bq.head = .absent →
      exec (.reportTick .billingQueue) s = tick s.bq.head ∧ exec .showLimitLapse s = .next s.takeFrame))

/-- The age tick at each of its users: every LOCAL entry grows older by one, and one that reaches the age limit becomes RETIRED and
PENDING in the same event, with its key and move count kept (R22, R23); every flap count becomes 0 and every HELD-DOWN port DOWN
(R57); every STALE record becomes ABSENT, its announced entries are freed, and no other record changes (R122, R25). ENTRY_AGED_OUT
is the Address Table's whole age tick where it brings the entry of the named way to the age limit, and changes nothing elsewhere
(notes/assumptions/31.md). -/
def Obligations.AgeTickAges : Prop :=
  (∀ s : State, AgeUser.addressTable ∈ s.tb.ageOwed →
    ∃ t : State, exec (.ageTick .addressTable) s = .next t.takeFrame ∧ t = { s with tb := t.tb, tab := t.tab } ∧
      t.tab = { s.tab with ways := t.tab.ways } ∧
      (∀ i, Tab.find? t.tab.ways i = (Tab.find? s.tab.ways i).map (fun e =>
        match e.place with
        | .atPort q a m =>
          { e with place := if a + 1 < s.cfg.ageLimit then .atPort q (a + 1) m else .retired .pending }
        | .atPeer _ => e
        | .retired _ => e)) ∧
      ∀ w : Fin 8192,
        let ends := ∃ e q a m, Tab.find? s.tab.ways w = some e ∧ e.place = .atPort q a m ∧ s.cfg.ageLimit ≤ a + 1
        (ends → exec (.entryAgedOut w) s = .next t.takeFrame) ∧ (¬ends → exec (.entryAgedOut w) s = .next s.takeFrame)) ∧
  (∀ s : State, AgeUser.linkSupervisor ∈ s.tb.ageOwed →
    ∃ t : State, exec (.ageTick .linkSupervisor) s = .next t.takeFrame ∧ t = { s with tb := t.tb, ls := t.ls, xc := t.xc } ∧
      ∀ p ∈ allPorts,
        ((s.link p).state = .heldDown →
          t.link p = { s.link p with flaps := 0, state := .down, good := 0, stages := 0 }) ∧
        ((s.link p).state ≠ .heldDown → t.link p = { s.link p with flaps := 0 })) ∧
  (∀ s : State, AgeUser.peerView ∈ s.tb.ageOwed →
    ∃ t : State, exec (.ageTick .peerView) s = .next t.takeFrame ∧ t = { s with tb := t.tb, pv := t.pv, tab := t.tab } ∧
      (∀ k ∈ s.peers, (s.peer k).state = .stale → t.peer k = PeerRecord.reset ∧
        ∀ e ∈ t.tab.ways, e.2.place ≠ .atPeer k) ∧
      (∀ k, (s.peer k).state ≠ .stale → t.peer k = s.peer k))

/-! ## Link supervision (Chapter 4) -/

/-- SIGNAL_PRESENT sets the port's signal, and LINE_CODE_ERROR raises its window error count, up to 255. SIGNAL_LOST in DOWN or
HELD-DOWN clears the signal, sets the window loss mark and does nothing more; in QUALIFYING the port also enters DOWN with its
qualification cleared (R49, R52). While the image is not CONFIGURED only the signal is recorded (R49, R62). -/
def Obligations.ReceiverReportsRecorded : Prop :=
  ∀ (s : State) (p : Fin 21), let l := s.link p
    exec (.signalPresent p) s = .next (s.setLink p { l with signal := true }) ∧
    (s.il.state = .configured → l.errors ≤ 255 →
      exec (.lineCodeError p) s = .next (s.setLink p { l with errors := min 255 (l.errors + 1) })) ∧
    (s.il.state = .configured → l.state = .down ∨ l.state = .heldDown →
      exec (.signalLost p) s = .next (s.setLink p { l with signal := false, lossMark := true }).takeFrame) ∧
    (s.il.state = .configured → l.state = .qualifying →
      ∃ t : State, exec (.signalLost p) s = .next t.takeFrame ∧ t = { s with ls := t.ls, xc := t.xc } ∧
        t.link p = { l with signal := false, lossMark := true, state := .down, good := 0, stages := 0 } ∧
        ∀ q, q ≠ p.val → t.link q = s.link q) ∧
    (s.il.state ≠ .configured →
      exec (.lineCodeError p) s = .next s ∧
      exec (.signalLost p) s = .next (s.setLink p { l with signal := false }).takeFrame)

/-- WINDOW_END at a port that owes it judges the window by its loss mark and error count, starts the next with both clear, and does
by the link state what R51, R52 and R54 say; the fault has a statement of its own. A due window end is taken up by the first port
when none owes the last one. A QUALIFYING port whose good window reaches the required stage of its kind enters UP with its count and
stages as they stand. An uplink that enters UP clears the sole-path flag, an UNBOUND path takes it as its home or its other uplink,
a REPLACE path toward a peer moves to it where the path's home is the other uplink and down, a record left without a path is freed
with a RETURN, and the lend offer is evaluated; a cross port calls for the fault request; an access port is compared with the
tenants that are HELD. No other port's link changes (R50 to R54, R60, R68, R69, R72, R93, R97). That a window end is taken up for all
ports at once, and the next one when no port owes the last, is the model's choice (notes/assumptions/10.md); so is that a port that
owes none, or a window end that is not due, changes nothing (notes/assumptions/4.md), and that all that follows an entry to UP at the
other blocks stands in the step of WINDOW_END (R60, notes/assumptions/7.md). -/
def Obligations.WindowEndJudges : Prop :=
  (∀ (s : State) (p : Fin 21), s.ls.windowOwed.contains p.val = true →
     let l := s.link p
     let bad := l.lossMark = true ∨ s.cfg.errorLimit ≤ l.errors
     let l0 := { l with lossMark := false, errors := 0 }
     let goes := fun l1 : PortLink => ∃ t : State, exec (.windowEnd p) s = .next t.takeFrame ∧
       t = { s with ls := t.ls, xc := t.xc } ∧ t.link p = l1 ∧ (∀ q, q ≠ p.val → t.link q = s.link q) ∧
       t.ls.windowOwed = s.ls.windowOwed.filter (fun q => q ≠ p.val)
     (l.state = .down → l.signal = true → ¬bad → goes { l0 with state := .qualifying, good := 0, stages := 0 }) ∧
     (l.state = .down → l.signal = false ∨ bad → goes l0) ∧
     (l.state = .qualifying → bad → goes { l0 with good := 0, stages := 0 }) ∧
     (l.state = .qualifying → ¬bad → l.good < 256 → max l.stages (stagesReached (l.good + 1)) < s.requiredStage p →
       goes { l0 with good := l.good + 1, stages := max l.stages (stagesReached (l.good + 1)) }) ∧
     (l.state = .up → bad → goes { l0 with state := .suspect }) ∧
     (l.state = .up → ¬bad → goes l0) ∧
     (l.state = .suspect → ¬bad → goes { l0 with state := .up }) ∧
     (l.state = .heldDown → goes l0)) ∧
  (∀ (s : State) (p : Fin 21),
     (s.ls.windowOwed = [] → 0 < s.ls.windowDue → exec (.windowEnd p) s = exec (.windowEnd p) { s with
       ls := { s.ls with windowDue := s.ls.windowDue - 1, windowOwed := List.range 21 } }) ∧
     (s.ls.windowOwed = [] → s.ls.windowDue = 0 → exec (.windowEnd p) s = .next s.takeFrame) ∧
     (s.ls.windowOwed ≠ [] → p.val ∉ s.ls.windowOwed → exec (.windowEnd p) s = .next s.takeFrame)) ∧
  (∀ (s : State) (p : Fin 21), s.ls.windowOwed.contains p.val = true → (s.link p).state = .qualifying →
     (s.link p).lossMark = false → (s.link p).errors < s.cfg.errorLimit → (s.link p).good < 256 →
     s.requiredStage p ≤ max (s.link p).stages (stagesReached ((s.link p).good + 1)) →
     ∃ t : State, exec (.windowEnd p) s = .next t.takeFrame ∧ t.live p = true ∧
       t = { s with ls := t.ls, es := t.es, rc := t.rc, pu := t.pu, xc := t.xc } ∧
       t.link p = { s.link p with state := .up, errors := 0, good := (s.link p).good + 1
                                  stages := max (s.link p).stages (stagesReached ((s.link p).good + 1)) } ∧
       (∀ q, q ≠ p.val → t.link q = s.link q) ∧
       (portKind p = .access →
         t.pu = s.pu ∧ t.xc = s.xc ∧ (t.hold p).holding = s.rc.held.any (fun n => s.serves p n)) ∧
       (portKind p = .uplink → t.pu.solePath = false ∧
         (∀ i ∈ paths, t.binding i = match s.binding i with
           | .unbound => if s.homePort i = p then .home else if s.live (s.homePort i) then .unbound else .replaceUplink
           | .replacePeer k => if s.homePort i = p ∨ s.live (s.homePort i) = true then .replacePeer k else .replaceUplink
           | .home => .home
           | .replaceUplink => .replaceUplink
           | .split k => .split k) ∧
         (∀ k ∈ s.peers, (s.borrow k).state.isActive = true → t.hasUnbound = false → t.hasPathToward k = false →
           (t.borrow k).state = .none ∧ (s.peerLive k = true → s.crossLive k = true → .ret k ∈ t.xc.normal)) ∧
         t.rc.lendOffer = (decide (s.rc.level < s.cfg.lendLimit) && (t.lender .fault).isNone) ∧
         (s.il.state = .configured → .level ∈ t.xc.normal)) ∧
       (portKind p = .cross → (∀ i, t.binding i = s.binding i) ∧ (∀ k, t.lend k = s.lend k) ∧
         let z := s.setLink p (t.link p)
         (s.hasUnbound = false ∨ s.lender .fault ≠ none ∨ z.candidate .fault = none → t.pu = s.pu) ∧
         (∀ k, s.hasUnbound = true → s.lender .fault = none → z.candidate .fault = some k →
           t.borrow k = { s.borrow k with state := .requested .fault, timer := 2, upgrade := false } ∧
           .borrow k .fault s.pu.solePath ∈ t.xc.urgent)))

/-- A fault, by SIGNAL_LOST on a live port or by a second bad window: the flap count rises, the latch is set, the port is DOWN, or
HELD-DOWN at the flap limit, with its qualification cleared, and no other port's link changes; its transmitter is as after reset, its
queues are empty, and a frame with no other copy than these is deleted, with a loss report when it was metered and no copy of it sent;
the reception in progress is cut; every LOCAL entry at a failed access port is RETIRED and PENDING. With the other uplink live, the
HOME and SPLIT paths of a failed uplink go to it and the REPLACE paths on the failed one go HOME; with none live, every path goes to
the fault lender, or, with a fault borrow not ready, is UNBOUND, or, with none, the SPLIT paths go whole to the relief lender, which
is upgraded, and the others are UNBOUND with a fault request; and every lend ends with a WITHDRAW. A failed cross port ends every
arrangement with its peer without a message. That all of it stands in the step of the fault is the model's choice
(notes/assumptions/7.md), and so is a timer held at 0 (notes/assumptions/14.md). (R1, R16, R24, R46, R55, R56, R59, R66, R67, R69,
R72, R75, R77, R83, R97) -/
def Obligations.FaultEffects : Prop :=
  ∀ (s : State) (p : Fin 21) (c : Instr),
    (c = .signalLost p ∧ s.il.state = .configured ∧ ((s.link p).state = .up ∨ (s.link p).state = .suspect)) ∨
    (c = .windowEnd p ∧ s.ls.windowOwed.contains p.val = true ∧ (s.link p).state = .suspect ∧
      ((s.link p).lossMark = true ∨ s.cfg.errorLimit ≤ (s.link p).errors)) →
    ∃ t : State, exec c s = .next t.takeFrame ∧
      (t.link p).flaps = (s.link p).flaps + 1 ∧ (t.link p).latch = true ∧ (t.link p).good = 0 ∧ (t.link p).stages = 0 ∧
      (t.link p).state = (if s.cfg.flapLimit ≤ (s.link p).flaps + 1 then .heldDown else .down) ∧
      (∀ q, q ≠ p.val → t.link q = s.link q) ∧
      t.tx p = PortTx.reset ∧ (∀ n < 4, t.queue (queueKey p n) = []) ∧
      t.intake p = { s.intake p with
        reception := if (s.intake p).reception = .taken then .cut else (s.intake p).reception } ∧
      (let there := (s.tx p).inFlight ++ (List.range 4).flatMap (fun n => s.queue (queueKey p n))
       let copies := fun i => (there.filter (fun d => d.frame == i)).length
       (∀ i f, Tab.find? s.bm.frames i = some f →
         (copies i = 0 → Tab.find? t.bm.frames i = some f) ∧
         (1 ≤ copies i → copies i < f.outstanding →
           Tab.find? t.bm.frames i = some { f with outstanding := f.outstanding - copies i }) ∧
         (1 ≤ f.outstanding → f.outstanding ≤ copies i → Tab.find? t.bm.frames i = none ∧
           (f.metered = true → f.transmitted = false → { tenant := f.tenant, length := f.length } ∈ t.bm.losses))) ∧
       (∀ r ∈ t.bm.losses, r ∈ s.bm.losses ∨ ∃ i f, Tab.find? s.bm.frames i = some f ∧ f.outstanding ≤ copies i ∧
         f.metered = true ∧ f.transmitted = false ∧ r = { tenant := f.tenant, length := f.length })) ∧
      (p.val < 16 → t.pu = s.pu ∧ t.hold p = PortHold.reset ∧ ∀ i, Tab.find? t.tab.ways i = (Tab.find? s.tab.ways i).map (fun e =>
        match e.place with
        | .atPort q _ _ => if q = p.val then { e with place := .retired .pending } else e
        | .atPeer _ => e
        | .retired _ => e)) ∧
      (16 ≤ p.val → t.tab = s.tab) ∧
      (s.PathsSound →
        let other := otherUplink p
        let free := fun k => t.borrow k = { s.borrow k with state := .none, timer := 0, upgrade := false } ∧ .ret k ∈ t.xc.normal
        let asks := fun k => t.borrow k = { s.borrow k with state := .requested .fault, timer := 2, upgrade := false } ∧
          .borrow k .fault t.pu.solePath ∈ t.xc.urgent
        let z := s.setLink p (t.link p)
        (portKind p = .uplink →
          t.pu.solePath = !s.live other ∧
          t.rc.lendOffer = (decide (s.rc.level < s.cfg.lendLimit) && s.live other && (t.lender .fault).isNone) ∧
          (s.il.state = .configured → .level ∈ t.xc.normal) ∧
          (∀ k ∈ s.peers, (s.borrow k).state.isActive = true → t.hasPathToward k = false → free k) ∧
          (s.live other = true → (∀ k, t.lend k = s.lend k) ∧ ∀ i ∈ paths, t.binding i = match s.binding i with
            | .home => if s.homePort i = p then .replaceUplink else .home
            | .split k => if s.homePort i = p then .replaceUplink else .split k
            | .replaceUplink => if s.homePort i = p then .replaceUplink else .home
            | .replacePeer k => .replacePeer k
            | .unbound => .unbound) ∧
          (s.live other = false →
            (∀ k ∈ s.peers, t.lend k = none ∧ (s.lend k ≠ none → .withdraw k .noUplink ∈ t.xc.urgent)) ∧
            (∀ f ∈ s.peers, (s.borrow f).state = .active .fault → (s.borrow f).upgrade = false →
              ∀ i ∈ paths, t.binding i = .replacePeer f) ∧
            (∀ f, s.lender .fault = some f → (s.borrow f).state ≠ .active .fault ∨ (s.borrow f).upgrade = true →
              ∀ i ∈ paths, t.binding i = if s.binding i = .replacePeer f then .replacePeer f else .unbound) ∧
            (∀ k, s.lender .fault = none → (∃ i ∈ paths, s.binding i = .split k) →
              t.borrow k = { s.borrow k with state := .active .fault, upgrade := true, timer := 2 } ∧
              .borrow k .fault true ∈ t.xc.urgent ∧
              ∀ i ∈ paths, t.binding i = if s.binding i = .split k then .replacePeer k else .unbound) ∧
            (s.lender .fault = none → (∀ i ∈ paths, ∀ k, s.binding i ≠ .split k) →
              (∀ i ∈ paths, t.binding i = .unbound) ∧ ∀ k, z.candidate .fault = some k → asks k))) ∧
        (portKind p = .cross →
          let k := s.peerOfPort p
          (t.borrow k).state = .none ∧ t.lend k = none ∧ (∀ j, j ≠ k → t.lend j = s.lend j) ∧
          (∀ m ∈ t.xc.urgent ++ t.xc.normal, m ∈ s.xc.urgent ++ s.xc.normal ∨ m.dest ≠ k) ∧
          (∀ i ∈ paths, t.binding i = if (s.binding i).toward ≠ some k then s.binding i
            else if s.live (s.homePort i) = true then .home
            else if s.live (otherUplink (s.homePort i)) = true then .replaceUplink else .unbound) ∧
          (t.hasUnbound = true → (∀ f, s.lender .fault = some f → f = k) → ∀ j, z.candidate .fault = some j → asks j)))

/-- Every step keeps the Link Supervisor's ranges, and no flap count ever exceeds the flap limit (R48, R56). Every step keeps every
port that is not live quiet: nothing queued on it, nothing in flight, no hold pending or running; so a frame is transmitted on a port
only while that port is UP or SUSPECT (R36, R38, R40, R42, R46). That this holds after the very step of a fault rests on the model's
choice that the Egress Scheduler takes the report of a fault in the step of the fault (R59, notes/assumptions/7.md). -/
def Obligations.LinksKeptAndDeadPortsQuiet : Prop :=
  (∀ s t : State, s.LinksSound → step s = .next t → t.LinksSound) ∧
  (∀ s t : State, s.DeadQuiet → step s = .next t → t.DeadQuiet)

/-! ## Intake and the destination set (Chapters 1 and 2) -/

/-- RECEPTION_BEGINS fixes whether a frame is taken: it is when the port is live at that moment. A FRAME_RECEPTION whose frame was not
to be taken, or was cut short by a fault of its port, discards it uncounted and unlearned, whatever its bytes are (R1). A taken frame,
or one whose last byte came before the fault, that is too short or too long, whose frame check is wrong, whose source is a group
address, whose group header on a cross port fails, or that is a control frame with another control code than the hold code, adds one
to its port's bad-frame count, up to 4,294,967,295, and changes nothing else (R2, R3, R8). On a cross port a control frame is one to
the control address with type 8808, and no group header reads as one (R3). The model's own readings in this: a port keeps what its
reception is, and the command says whether the last byte came before a fault (DESIGN CHOICE, notes/assumptions/5.md); with no
reception begun it changes nothing (DESIGN CHOICE, notes/assumptions/4.md); and a tagged frame of own type 8808 is a control frame too
(DEDUCED, notes/assumptions/9.md). -/
def Obligations.ReceptionTakenOrCounted : Prop :=
  (∀ (s : State) (p : Fin 21),
     exec (.receptionBegins p) s =
       .next (s.setIntake p { s.intake p with reception := if s.live p then .taken else .discarded }) ∧
     ∀ frame : ReceivedFrame,
       ((s.intake p).reception = .discarded ∨ (s.intake p).reception = .cut ∧ frame.beforeFault = false →
         exec (.frameReception p frame) s = .next (s.setIntake p { s.intake p with reception := .idle }).takeFrame) ∧
       ((s.intake p).reception = .idle → exec (.frameReception p frame) s = .next s.takeFrame)) ∧
  (∀ (s : State) (p : Fin 21) (bytes : List Byte) (early : Bool),
     (s.intake p).reception = .taken ∨ ((s.intake p).reception = .cut ∧ early = true) →
     let control := bytes.take 6 = [0x01, 0x80, 0xC2, 0x00, 0x00, 0x01] ∧ be16 bytes 12 = 0x8808
     let grouped := 18 ≤ p.val ∧ ¬control
     let frame := if grouped then bytes.drop 4 else bytes
     let h := readHeader bytes
     frame.length < 64 ∨ 9216 < frame.length ∨ frameCheckOk bytes = false ∨ isGroup (addrAt frame 6) = true ∨
       (grouped ∧ (h.origin ≠ s.peerOfPort p ∨ h.tenant = 0 ∨ (h.borrowed = true ∧ h.flood = true))) ∨
       (¬grouped ∧ be16 frame (typeOffset frame) = 0x8808 ∧ be16 frame (typeOffset frame + 2) ≠ 1) →
     ∃ t : State, exec (.frameReception p { bytes := bytes, beforeFault := early }) s = .next t.takeFrame ∧
       t = { s with iu := t.iu } ∧ t.iu.arrivals = s.iu.arrivals ∧
       t.intake p = { s.intake p with reception := .idle, bad := min 4294967295 ((s.intake p).bad + 1) } ∧
       ∀ q, q ≠ p.val → t.intake q = s.intake q) ∧
  (∀ (h : GroupHeader) (rest : List Byte), h.cls ≤ 3 →
     (headerBytes h ++ rest).take 6 ≠ [0x01, 0x80, 0xC2, 0x00, 0x00, 0x01])

/-- A good frame on an access port or an uplink whose tenant map key is absent adds one to the unclassified count; one whose key
gives a tenant completes an arrival record: its class by its priority code, its cells the bytes over 256 rounded up, its
destination set by its lookup; and on an access port its source is learned first (R2, R6, R7, R9, R20, R22, R32, R33). Its bytes up
to the frame check are kept with it (notes/assumptions/18.md). So it is with
a frame that was complete before a fault of its port and is taken after it (R24, notes/assumptions/5.md). -/
def Obligations.PlainArrivalRecorded : Prop :=
  ∀ (s : State) (p : Fin 21) (bytes : List Byte) (early : Bool),
    (s.intake p).reception = .taken ∨ ((s.intake p).reception = .cut ∧ early = true) → p.val < 18 →
    64 ≤ bytes.length → bytes.length ≤ 9216 → frameCheckOk bytes = true → isGroup (addrAt bytes 6) = false →
    be16 bytes (typeOffset bytes) ≠ 0x8808 →
    let src := addrAt bytes 6
    let dst := addrAt bytes 0
    let access := p.val < 16
    let key := s.tenantOf (if access then .access p else .spine) (tagOf bytes)
    (key = none → ∃ t : State, exec (.frameReception p { bytes := bytes, beforeFault := early }) s = .next t.takeFrame ∧
      t = { s with iu := t.iu } ∧ t.iu.arrivals = s.iu.arrivals ∧ (∀ q, q ≠ p.val → t.intake q = s.intake q) ∧
      t.intake p =
        { s.intake p with reception := .idle, unclassified := min 4294967295 ((s.intake p).unclassified + 1) }) ∧
    (∀ n, key = some n → ∃ (t : State) (a : Arrival),
      exec (.frameReception p { bytes := bytes, beforeFault := early }) s = .next t.takeFrame ∧
      t = { s with iu := t.iu, tab := t.tab } ∧ t.iu.arrivals = s.iu.arrivals ++ [a] ∧
      t.intake p = { s.intake p with reception := .idle } ∧ (∀ q, q ≠ p.val → t.intake q = s.intake q) ∧
      t.tab = (if access then s.tab.learn n src p else s.tab) ∧
      a.port = p.val ∧ a.kind = (if access then .access else .uplink) ∧ a.tenant = n ∧
      a.cls = s.cfg.classMap.getD (priorityOf bytes) 0 ∧ a.length = bytes.length ∧
      bytes.length ≤ 256 * a.cells ∧ 256 * a.cells < bytes.length + 256 ∧ a.src = src ∧ a.dst = dst ∧
      a.borrowed = false ∧ a.flood = false ∧ a.body = bytes.take (bytes.length - 4) ∧
      a.dests = (if access then s.accessDests p n src dst (t.tab.lookup n dst) else s.uplinkDests n (t.tab.lookup n dst)))

/-- A good frame behind a group header on a cross port takes the header's tenant, class and marks, is not learned from, and completes
an arrival record; the header and the frame check are not kept, its other bytes are (R2, R8, R9, R20, R33, notes/assumptions/18.md).
So it is with one that was complete before a fault of its port and is taken after it (R1, notes/assumptions/5.md). -/
def Obligations.CrossArrivalRecorded : Prop :=
  ∀ (s : State) (p : Fin 21) (h : GroupHeader) (inner : List Byte) (early : Bool),
    (s.intake p).reception = .taken ∨ ((s.intake p).reception = .cut ∧ early = true) → 18 ≤ p.val →
    h.origin = s.peerOfPort p → 1 ≤ h.tenant → h.tenant ≤ 255 → h.cls ≤ 3 → ¬(h.borrowed = true ∧ h.flood = true) →
    60 ≤ inner.length → inner.length ≤ 9212 → isGroup (addrAt inner 6) = false →
    let src := addrAt inner 6
    let dst := addrAt inner 0
    let frame := { bytes := withFrameCheck (headerBytes h ++ inner), beforeFault := early }
    ∃ (t : State) (a : Arrival), exec (.frameReception p frame) s = .next t.takeFrame ∧
      t = { s with iu := t.iu } ∧ t.iu.arrivals = s.iu.arrivals ++ [a] ∧
      t.intake p = { s.intake p with reception := .idle } ∧ (∀ q, q ≠ p.val → t.intake q = s.intake q) ∧
      a.port = p.val ∧ a.kind = .cross ∧ a.tenant = h.tenant ∧ a.cls = h.cls ∧ a.length = inner.length + 4 ∧
      a.length ≤ 256 * a.cells ∧ 256 * a.cells < a.length + 256 ∧ a.src = src ∧ a.dst = dst ∧
      a.borrowed = h.borrowed ∧ a.flood = h.flood ∧ a.body = inner ∧
      a.dests = s.crossDests h.tenant src dst h.borrowed h.flood (s.tab.lookup h.tenant dst)

/-- A hold frame as one port sends it, received whole. With a hold time that is not 0, on a live port it starts the received-hold
timer at its time, an IDLE transmitter becomes HELD and a frame in flight goes on. With time 0, on a live port that is under hold it
ends the hold: the timer stops, the held-duration count clears, and a HELD transmitter becomes IDLE and selects; on one that is not,
it changes nothing. On a port that is not live it changes nothing. It is neither counted, classified nor learned (R3, R42, R43,
R168). So it is with one that was complete before a fault of its port and is taken after it (R1, notes/assumptions/5.md). -/
def Obligations.HoldFramePauses : Prop :=
  ∀ (s : State) (p : Fin 21) (base : Addr) (q time : Nat) (early : Bool),
    (s.intake p).reception = .taken ∨ ((s.intake p).reception = .cut ∧ early = true) → isGroup base = false → time ≤ 65535 →
    let received := exec (.frameReception p { bytes := holdFrameBytes base q time, beforeFault := early }) s
    let z := s.setIntake p { s.intake p with reception := .idle }
    (1 ≤ time → ∃ t : State, received = .next t.takeFrame ∧
      t = { s with iu := t.iu, es := t.es } ∧ t.iu.arrivals = s.iu.arrivals ∧ t.es.queues = s.es.queues ∧
      t.intake p = { s.intake p with reception := .idle } ∧ (∀ r, r ≠ p.val → t.intake r = s.intake r ∧ t.tx r = s.tx r) ∧
      (s.live p = false → t.tx p = s.tx p) ∧
      (s.live p = true → t.tx p = { s.tx p with
        rxHold := some time
        state := if (s.tx p).state = .idle then .held else (s.tx p).state })) ∧
    (time = 0 →
      let ended := { s.tx p with rxHold := none, heldCount := 0, holdDue := false }
      (s.live p = false ∨ (s.tx p).rxHold = none → received = .next z.takeFrame) ∧
      (s.live p = true → (s.tx p).rxHold ≠ none →
        ((s.tx p).state = .held → received = .next ((z.setTx p { ended with state := .idle }).select p).takeFrame) ∧
        ((s.tx p).state ≠ .held → received = .next (z.setTx p ended).takeFrame)))

/-- The destination set, row by row: a known local address, a known address at a peer with its cross port live, the spine copy by the
binding of its path, a flood, a borrowed frame, a flood copy. Every destination set is sound: at most one copy per port, every copy
on a live port, no copy with both marks, none back to the arrival port of an ACCESS arrival, no uplink for an UPLINK arrival, no
cross port for a CROSS arrival. A flood reaches every live port of the tenant's flood set but the arrival port, and every live cross
port (R8, R31 to R34). -/
def Obligations.DestinationsSound : Prop :=
  (∀ (s : State) (p n : Nat) (src dst : Addr),
    let only := fun (q : Nat) (borrowed : Bool) =>
      if s.live q then [({ port := q, borrowed := borrowed, flood := false } : Dest)] else []
    let crossOf := fun k => 18 + (k + 7 - s.il.station) % 4
    let home := s.homePort (pathOf n src dst)
    let other := if home = 16 then 17 else 16
    let shares := fun (flooded : Bool) k => flooded && s.live (crossOf k)
    let spine := fun flooded : Bool => match s.binding (pathOf n src dst) with
      | .home => only home false
      | .replaceUplink => only other false
      | .replacePeer k => if shares flooded k then [] else only (crossOf k) true
      | .split k => if splitSelector n src dst && !shares flooded k then only (crossOf k) true else only home false
      | .unbound => []
    let servers := fun arrival : Option Nat =>
      ((List.range 16).filter (fun q => s.serves q n && arrival != some q)).flatMap (fun q => only q false)
    let peers := ([18, 19, 20].filter (fun q => s.live q)).map (fun q => ({ port := q, borrowed := false, flood := true } : Dest))
    (∀ q, s.accessDests p n src dst (.localAt q) = (if q = p then [] else only q false) ∧
      s.uplinkDests n (.localAt q) = only q false ∧ s.crossDests n src dst false false (.localAt q) = only q false ∧
      verdictOf .access p (.localAt q) (s.accessDests p n src dst (.localAt q)) =
        if q = p then .samePort else if s.live q then .forward else .noDestination) ∧
    (∀ k, s.uplinkDests n (.announcedAt k) = only (crossOf k) false ∧
      s.crossDests n src dst false false (.announcedAt k) = servers none ∧
      s.accessDests p n src dst (.announcedAt k) =
        if s.live (crossOf k) then only (crossOf k) false else spine false) ∧
    (∀ l ∈ [Lookup.miss, .group], s.accessDests p n src dst l = servers (some p) ++ spine true ++ peers ∧
      s.uplinkDests n l = servers none ++ peers ∧ s.crossDests n src dst false false l = servers none) ∧
    ∀ l, s.crossDests n src dst false true l = servers none ∧
      s.crossDests n src dst true false l = if s.live home then only home false else only other false) ∧
  (∀ (s : State) (p n : Nat) (src dst : Addr) (l : Lookup) (borrowed flood : Bool), s.PathsSound →
    (∀ q, l = .localAt q → q < 16) → (∀ k, l = .announcedAt k → k ∈ s.peers) →
    let sound := fun ds : List Dest => (ds.map Dest.port).Nodup ∧
      ∀ d ∈ ds, d.port < 21 ∧ s.live d.port = true ∧ ¬(d.borrowed = true ∧ d.flood = true)
    let flooded := fun (ds : List Dest) (arrival : Option Nat) => l = .miss ∨ l = .group →
      (∀ q < 16, s.live q = true → s.serves q n = true → arrival ≠ some q → plain q ∈ ds) ∧
      (∀ q ∈ crossPorts, s.live q = true → { port := q, borrowed := false, flood := true } ∈ ds)
    (p < 16 → sound (s.accessDests p n src dst l) ∧ (∀ d ∈ s.accessDests p n src dst l, d.port ≠ p) ∧
      flooded (s.accessDests p n src dst l) (some p)) ∧
    (sound (s.uplinkDests n l) ∧ (∀ d ∈ s.uplinkDests n l, d.port ≠ u0 ∧ d.port ≠ u1) ∧ flooded (s.uplinkDests n l) none) ∧
    (sound (s.crossDests n src dst borrowed flood l) ∧ ∀ d ∈ s.crossDests n src dst borrowed flood l, d.port < 18))

/-! ## Admission, release and transmission (Chapters 1 and 3) -/

/-- ADMISSION refuses the oldest record of a port when no copy is left within its queue limit, when the descriptors or the free
cells do not suffice, or when an ACCESS or UPLINK arrival beyond its committed share meets the excess cut or the excess reserve. A
refusal takes nothing, and is reported for an ACCESS or UPLINK arrival only (R12, R14). -/
def Obligations.AdmissionRefuses : Prop :=
  ∀ (s : State) (p : Fin 21) (a : Arrival) (rest : List Arrival), takeArrival p s.iu.arrivals = some (a, rest) →
    let ds := a.dests.filter (fun d => decide (s.cellsOf (queueKey d.port a.cls) + a.cells ≤ s.queueLimit d.port a.cls))
    ds = [] ∨ s.bm.freeDescriptors < ds.length ∨ s.bm.freeCells < a.cells ∨
      (a.kind ≠ .cross ∧ (s.tenant a.tenant).share < s.inUse a.tenant + a.cells ∧
        (s.cfg.excessCut ≤ s.rc.level ∨ s.bm.freeCells - a.cells < s.cfg.excessReserve)) →
    exec (.admission p) s = .next { s with
      iu := { s.iu with arrivals := rest }
      bm := { s.bm with refusals := if a.kind = .cross then s.bm.refusals else s.bm.refusals ++ [a.tenant] } }

/-- ADMISSION of a record that no step of R12 refuses: the cells, the in-use cells, the queue cells and the descriptors are taken,
the stored-frame record is made, a usage report is sent for an ACCESS or UPLINK arrival and none for a CROSS one, and a change event
carries the new values of the measure, where a copy is for an uplink, the buffer in-use and the tenant in-use (R12, R13, R17, R36).
Each copy on a live port is at the tail of its queue or in flight; one on a port that is not live is released FLUSHED at once, and
gives back what it took; with no live port left the frame is deleted, with a loss report when it was metered, and the last change
event carries the in-use as it was before (R15, R16, R36, R38). -/
def Obligations.AdmissionAccounts : Prop :=
  ∀ (s : State) (p : Fin 21) (a : Arrival) (rest : List Arrival), takeArrival p s.iu.arrivals = some (a, rest) →
    let ds := a.dests.filter (fun d => decide (s.cellsOf (queueKey d.port a.cls) + a.cells ≤ s.queueLimit d.port a.cls))
    let lives := ds.filter (fun d => s.live d.port)
    let committed := s.inUse a.tenant + a.cells ≤ (s.tenant a.tenant).share
    let metered := a.kind ≠ .cross
    let kept := { tenant := a.tenant, length := a.length, cells := a.cells, cls := a.cls, outstanding := lives.length
                  metered := decide metered, transmitted := false, body := a.body : StoredFrame }
    let uplinkCells := ((List.range' 64 8).map s.cellsOf).sum + a.cells * (ds.filter (fun d => d.port == 16 || d.port == 17)).length
    ds ≠ [] → ds.length ≤ s.bm.freeDescriptors → a.cells ≤ s.bm.freeCells →
    (a.kind = .cross ∨ committed ∨ (s.rc.level < s.cfg.excessCut ∧ s.cfg.excessReserve ≤ s.bm.freeCells - a.cells)) →
    a.cls ≤ 3 → (ds.map Dest.port).Nodup →
    ∃ t : State, exec (.admission p) s = .next t ∧ t = { s with iu := { s.iu with arrivals := rest }, bm := t.bm, es := t.es } ∧
      t.bm.freeCells = (if lives = [] then s.bm.freeCells else s.bm.freeCells - a.cells) ∧
      t.bm.freeDescriptors = s.bm.freeDescriptors - lives.length ∧
      (∀ n, t.inUse n = s.inUse n + (if n = a.tenant ∧ lives ≠ [] then a.cells else 0)) ∧
      (∀ q, t.cellsOf q = s.cellsOf q + (if ∃ d ∈ lives, queueKey d.port a.cls = q then a.cells else 0)) ∧
      Tab.find? t.bm.frames s.bm.nextFrame = (if lives = [] then none else some kept) ∧
      (∀ i, i ≠ s.bm.nextFrame → Tab.find? t.bm.frames i = Tab.find? s.bm.frames i) ∧
      t.bm.usageReports = s.bm.usageReports ++
        (if metered then [{ tenant := a.tenant, length := a.length, excess := decide ¬committed }] else []) ∧
      t.bm.refusals = s.bm.refusals ∧
      t.bm.losses = s.bm.losses ++ (if metered ∧ lives = [] then [{ tenant := a.tenant, length := a.length }] else []) ∧
      (∃ more : List Change, t.bm.changes = s.bm.changes ++
        { measure := if ∃ d ∈ ds, d.port = 16 ∨ d.port = 17 then some uplinkCells else none
          buffer := some (24576 - (s.bm.freeCells - a.cells)), tenant := some (a.tenant, s.inUse a.tenant + a.cells) } :: more ∧
        (lives = ds → more = []) ∧
        (lives = [] → ∃ l, more.getLast? = some l ∧ l.buffer = some (24576 - s.bm.freeCells) ∧
          l.tenant = some (a.tenant, s.inUse a.tenant))) ∧
      (∀ d ∈ lives, let copy := descOf s.bm.nextFrame a.cls d
        (copy ∈ t.queue (queueKey d.port a.cls) ∨ (t.tx d.port).state = .sending (.copy copy)) ∧
        ((∃ f, (s.tx d.port).state = .sending f) → t.tx d.port = s.tx d.port ∧
          t.queue (queueKey d.port a.cls) = s.queue (queueKey d.port a.cls) ++ [copy])) ∧
      (∀ q, (∀ d ∈ lives, d.port ≠ q) → t.tx q = s.tx q ∧ ∀ c < 4, t.queue (queueKey q c) = s.queue (queueKey q c))

/-- COPY_TRANSMITTED releases the copy in flight TRANSMITTED: its queue cells and its descriptor come back, and with the frame's last
copy its cells too, with no loss credit; a change event carries the new measure for a copy of an uplink queue and the new in-use
values for a last copy, and else none is sent; the transmitter falls to HELD under a hold, else to IDLE, and a selection follows
(R15, R16, R17, R39). What the selection z.select takes is said in SelectionByPriority. -/
def Obligations.CopyEndReleases : Prop :=
  ∀ (s : State) (p : Fin 21) (d : Desc) (f : StoredFrame), (s.tx p).state = .sending (.copy d) →
    Tab.find? s.bm.frames d.frame = some f →
    let key := queueKey d.port d.cls
    let uplink := 64 ≤ key ∧ key < 72
    let last := f.outstanding ≤ 1
    ∃ z : State, exec (.copyTransmitted p) s = .next (z.select p) ∧ z = { s with bm := z.bm, es := z.es } ∧
      z.es.queues = s.es.queues ∧ (∀ q, q ≠ p.val → z.tx q = s.tx q) ∧
      z.tx p = { s.tx p with state := if (s.tx p).rxHold = none then .idle else .held } ∧
      z.bm.freeDescriptors = s.bm.freeDescriptors + 1 ∧
      (∀ q, z.cellsOf q = if q = key then s.cellsOf q - f.cells else s.cellsOf q) ∧
      (∀ i, i ≠ d.frame → Tab.find? z.bm.frames i = Tab.find? s.bm.frames i) ∧
      z.bm.usageReports = s.bm.usageReports ∧ z.bm.refusals = s.bm.refusals ∧ z.bm.losses = s.bm.losses ∧
      (¬last → z.bm.freeCells = s.bm.freeCells ∧ (∀ n, z.inUse n = s.inUse n) ∧
        Tab.find? z.bm.frames d.frame = some { f with outstanding := f.outstanding - 1, transmitted := true }) ∧
      (last → z.bm.freeCells = s.bm.freeCells + f.cells ∧ Tab.find? z.bm.frames d.frame = none ∧
        ∀ n, z.inUse n = if n = f.tenant then s.inUse n - f.cells else s.inUse n) ∧
      z.bm.changes = s.bm.changes ++ (if uplink ∨ last then
        [{ measure := if uplink then some ((List.range' 64 8).map z.cellsOf).sum else none
           buffer := if last then some (24576 - z.bm.freeCells) else none
           tenant := if last then some (f.tenant, z.inUse f.tenant) else none }] else [])

/-- HOLD_FRAME_END lets the transmitter fall to HELD under a hold, else to IDLE, and a selection follows (R41). A selection on a live
port that is not SENDING takes the pending hold frame first, whether or not the port is under hold; else, when IDLE, the head of the
highest class whose queue is not empty; else nothing (R38). -/
def Obligations.SelectionByPriority : Prop :=
  (∀ (s : State) (p : Fin 21) (n : Nat), (s.tx p).state = .sending (.hold n) →
    exec (.holdFrameEnd p) s =
      .next ((s.setTx p { s.tx p with state := if (s.tx p).rxHold = none then .idle else .held }).select p)) ∧
  (∀ (z : State) (p : Nat), z.live p = true → (z.tx p).state = .idle ∨ (z.tx p).state = .held →
    (∀ n, (z.tx p).pendingHold = some n →
      z.select p = z.setTx p { z.tx p with state := .sending (.hold n), pendingHold := none }) ∧
    ((z.tx p).pendingHold = none → (z.tx p).state = .held → z.select p = z) ∧
    ((z.tx p).pendingHold = none → (z.tx p).state = .idle →
      ∀ c < 4, (∀ e < 4, c < e → z.queue (queueKey p e) = []) →
        (∀ d rest, z.queue (queueKey p c) = d :: rest →
          z.select p = (z.setQueue (queueKey p c) rest).setTx p { z.tx p with state := .sending (.copy d) }) ∧
        (c = 0 → z.queue (queueKey p c) = [] → z.select p = z))) ∧
  (∀ (z : State) (p : Nat), z.live p = false ∨ (∃ f, (z.tx p).state = .sending f) → z.select p = z)

/-- RECEIVED_HOLD_TIMER_EXPIRY, where the fine tick has reached the timer at 1: the timer stops, the held-duration count clears, a
HELD port becomes IDLE and selects, a SENDING port goes on; a timer restarted meanwhile only counts (R43, notes/assumptions/3.md).
HELD_LIMIT_FLUSH is the Egress Scheduler's whole report tick where it brings the named port's held-duration count to the held limit,
and changes nothing elsewhere (notes/assumptions/31.md): the queues of every port that it brings there are emptied, no transmitter is
disturbed, and a frame with no other copy than these is deleted, with a loss report when it was metered and no copy of it sent (R16,
R45). -/
def Obligations.HoldsEnd : Prop :=
  (∀ (s : State) (p : Fin 21), (s.tx p).holdDue = true →
    let ended := { s.tx p with rxHold := none, heldCount := 0, holdDue := false }
    ((s.tx p).rxHold = some 1 → (s.tx p).state = .held →
      exec (.receivedHoldTimerExpiry p) s = .next ((s.setTx p { ended with state := .idle }).select p)) ∧
    (∀ f, (s.tx p).rxHold = some 1 → (s.tx p).state = .sending f →
      exec (.receivedHoldTimerExpiry p) s = .next (s.setTx p ended)) ∧
    (∀ n, (s.tx p).rxHold = some (n + 2) →
      exec (.receivedHoldTimerExpiry p) s = .next (s.setTx p { s.tx p with rxHold := some (n + 1), holdDue := false }))) ∧
  (∀ s : State, ReportUser.egressScheduler ∈ s.tb.reportOwed →
    let limited := fun p => (s.tx p).rxHold.isSome && decide (s.cfg.heldLimit ≤ min 256 ((s.tx p).heldCount + 1))
    let flushed := (allPorts.filter limited).flatMap (fun p => (List.range 4).flatMap (fun c => s.queue (queueKey p c)))
    let copies := fun i => (flushed.filter (fun d => d.frame == i)).length
    ∃ t : State, (∀ p : Fin 21, limited p = true → exec (.heldLimitFlush p) s = .next t.takeFrame) ∧
      (∀ p : Fin 21, limited p = false → exec (.heldLimitFlush p) s = .next s.takeFrame) ∧
      exec (.reportTick .egressScheduler) s = .next t.takeFrame ∧ t = { s with tb := t.tb, bm := t.bm, es := t.es } ∧
      (∀ p ∈ allPorts, (t.tx p).state = (s.tx p).state ∧
        ∀ c < 4, t.queue (queueKey p c) = if limited p then [] else s.queue (queueKey p c)) ∧
      (∀ i f, Tab.find? s.bm.frames i = some f →
        (copies i = 0 → Tab.find? t.bm.frames i = some f) ∧
        (1 ≤ copies i → copies i < f.outstanding →
          Tab.find? t.bm.frames i = some { f with outstanding := f.outstanding - copies i }) ∧
        (1 ≤ f.outstanding → f.outstanding ≤ copies i → Tab.find? t.bm.frames i = none ∧
          (f.metered = true → f.transmitted = false → { tenant := f.tenant, length := f.length } ∈ t.bm.losses))) ∧
      (∀ r ∈ t.bm.losses, r ∈ s.bm.losses ∨ ∃ i f, Tab.find? s.bm.frames i = some f ∧ f.outstanding ≤ copies i ∧
        f.metered = true ∧ f.transmitted = false ∧ r = { tenant := f.tenant, length := f.length }) ∧
      t.bm.usageReports = s.bm.usageReports ∧ t.bm.refusals = s.bm.refusals)

/-- Every step keeps R10's accounts: free cells with stored cells make 24,576, each tenant's in-use and each queue's cells are those
of its frames and copies, free descriptors with copies make 8,192, and each frame's copies outstanding are its copies. -/
def Obligations.BufferKept : Prop :=
  ∀ s t : State, s.BufferLinked ∧ s.BufferSound → step s = .next t → t.BufferLinked ∧ t.BufferSound

/-! ## The Address Table (Chapter 2) -/

/-- Learning an address at a port. A key already LOCAL keeps its way, its age is 0, and its move count and mark change only with the
port; any other entry of the key raises its count by one and is PENDING (R20). A key with no entry takes a way of its bucket: the
lowest FREE one, else the lowest ANNOUNCED one, else the LOCAL one of the highest age, from 2 up, the lowest of those, else the lowest
RETIRED one; it is new there with count 0 and PENDING; and with no such way learning is skipped and counted (R21). At most one way
changes, and the lookup that follows finds the address LOCAL at the port (R22). -/
def Obligations.LearnedIsFound : Prop :=
  ∀ (x : AddressTable) (n p : Nat) (a : Addr), isGroup a = false →
    let b := bucketOf n a
    let ways := [4 * b, 4 * b + 1, 4 * b + 2, 4 * b + 3]
    let free := fun i => Tab.find? x.ways i = none
    let announced := fun i => ∃ e, Tab.find? x.ways i = some e ∧ ∃ k, e.place = .atPeer k
    let aged := fun i g => ∃ e, Tab.find? x.ways i = some e ∧ ∃ q m, e.place = .atPort q g m
    let retired := fun i => ∃ e, Tab.find? x.ways i = some e ∧ ∃ m, e.place = .retired m
    let first := fun (f : Nat → Prop) i => f i ∧ ∀ j ∈ ways, f j → i ≤ j
    let noFree := ∀ j ∈ ways, ¬free j
    let noneAnnounced := ∀ j ∈ ways, ¬announced j
    let allYoung := ∀ j ∈ ways, ∀ g, aged j g → g < 2
    let takes := fun i => first free i ∨ (noFree ∧ first announced i) ∨
      (noFree ∧ noneAnnounced ∧ ∃ g, 2 ≤ g ∧ aged i g ∧ ∀ j ∈ ways, ∀ h, aged j h → h < g ∨ (h = g ∧ i ≤ j)) ∨
      (noFree ∧ noneAnnounced ∧ allYoung ∧ first retired i)
    (∃ i, ∀ j, j ≠ i → Tab.find? (x.learn n a p).ways j = Tab.find? x.ways j) ∧
    (∀ i e, x.findKey n a = some (i, e) → (x.learn n a p).lookup n a = .localAt p ∧
      (∀ g m, e.place = .atPort p g m →
        Tab.find? (x.learn n a p).ways i = some { e with place := .atPort p 0 m }) ∧
      ((∀ g m, e.place ≠ .atPort p g m) →
        Tab.find? (x.learn n a p).ways i = some { e with moves := (e.moves + 1) % 16, place := .atPort p 0 .pending })) ∧
    (∀ i ∈ ways, x.findKey n a = none → takes i → (x.learn n a p).lookup n a = .localAt p ∧
      Tab.find? (x.learn n a p).ways i = some { tenant := n, addr := a, moves := 0, place := .atPort p 0 .pending }) ∧
    (x.findKey n a = none → noFree → noneAnnounced → allYoung → (∀ j ∈ ways, ¬retired j) →
      x.learn n a p = { x with skipped := min 4294967295 (x.skipped + 1) })

/-- The announcement of a key this station holds LOCAL wins exactly when its move count is ahead by 1 to 7 modulo 16, or equal and
its station lower; else the claim is PENDING again. One of two stations that claim a key wins at both, except at a difference of 8,
where neither yields. A FORGET frees only an entry announced at its own station. A key with no entry takes the lowest FREE way of its
bucket, else the lowest ANNOUNCED one, else it is skipped and counted; a FORGET of it does nothing; and an entry with tenant 0 or a
group address is disregarded (R27, R28). -/
def Obligations.AnnouncementDecided : Prop :=
  (∀ (x : AddressTable) (self k i : Nat) (m : AddressEntry) (e : Entry), m.tenant ≠ 0 → isGroup m.addr = false →
    m.moves ≤ 15 → e.moves ≤ 15 → x.findKey m.tenant m.addr = some (i, e) →
    let after := Tab.find? (AddressTable.apply self k x m).ways
    let d := (m.moves + 16 - e.moves) % 16
    let wins := (1 ≤ d ∧ d ≤ 7) ∨ (d = 0 ∧ k < self)
    (∀ j, j ≠ i → after j = Tab.find? x.ways j) ∧
    (∀ q g mk, e.place = .atPort q g mk →
      (m.forget = false → wins → after i = some { e with moves := m.moves, place := .atPeer k }) ∧
      (m.forget = false → ¬wins → after i = some { e with place := .atPort q g .pending }) ∧
      (m.forget = true → after i = some e)) ∧
    (∀ j, e.place = .atPeer j →
      (m.forget = false → after i = some { e with moves := m.moves, place := .atPeer k }) ∧
      (m.forget = true → j = k → after i = none) ∧
      (m.forget = true → j ≠ k → after i = some e)) ∧
    (∀ mk, e.place = .retired mk →
      (m.forget = false → after i = some { e with moves := m.moves, place := .atPeer k }) ∧
      (m.forget = true → after i = some e))) ∧
  (∀ (x : AddressTable) (self k : Nat) (m : AddressEntry),
    let after := AddressTable.apply self k x m
    let b := bucketOf m.tenant m.addr
    let ways := [4 * b, 4 * b + 1, 4 * b + 2, 4 * b + 3]
    let free := fun i => Tab.find? x.ways i = none
    let announced := fun i => ∃ e, Tab.find? x.ways i = some e ∧ ∃ j, e.place = .atPeer j
    let new : Entry := { tenant := m.tenant, addr := m.addr, moves := m.moves, place := .atPeer k }
    let noFree := ∀ j ∈ ways, ¬free j
    (m.tenant = 0 ∨ isGroup m.addr = true → after = x) ∧
    (m.tenant ≠ 0 → isGroup m.addr = false → x.findKey m.tenant m.addr = none →
      (m.forget = true → after = x) ∧
      (m.forget = false → ∀ i ∈ ways,
        (free i ∧ ∀ j ∈ ways, free j → i ≤ j) ∨ (noFree ∧ announced i ∧ ∀ j ∈ ways, announced j → i ≤ j) →
        Tab.find? after.ways i = some new ∧ after.skipped = x.skipped ∧
          ∀ j, j ≠ i → Tab.find? after.ways j = Tab.find? x.ways j) ∧
      (m.forget = false → noFree → (∀ j ∈ ways, ¬announced j) →
        after = { x with skipped := min 4294967295 (x.skipped + 1) }))) ∧
  (∀ j k m n : Nat, j ≠ k → m ≤ 15 → n ≤ 15 →
    (announceWins j k m n = true → announceWins k j n m = false) ∧
    ((m + 16 - n) % 16 ≠ 8 → announceWins j k m n = true ∨ announceWins k j n m = true))

/-- ADDRESS: the entries of the oldest notice, as they were put into words by their sender, are applied in the order carried; the
notice is gone and no other block is touched; a message from the station's own number is disregarded whole (R27, R111, R170).
SCAN_STEP, where a fine tick has paced one (notes/assumptions/3.md): every LOCAL and CLEAR way of the bucket at the scan position
becomes PENDING, every other way is left as it is, and the position advances by one bucket, to IDLE after bucket 2,047 (R30). -/
def Obligations.MessageAppliedAndScanned : Prop :=
  (∀ (s : State) (n : Notice) (rest : List Notice), s.il.state = .configured → s.xc.notices = n :: rest → n.kind = .address →
     let taken := { s with xc := { s.xc with notices := rest } }
     (n.sender = s.il.station → exec .addressNotice s = .next taken.takeFrame) ∧
     ∀ ms : List AddressEntry, n.sender ≠ s.il.station → n.payload = ms.flatMap addressEntryWords →
       (∀ m ∈ ms, m.tenant ≤ 255 ∧ m.moves ≤ 15) →
       exec .addressNotice s =
         .next { taken with tab := ms.foldl (AddressTable.apply s.il.station n.sender) s.tab }.takeFrame) ∧
  (∀ (s : State) (b : Nat), 0 < s.tab.scanDue → s.tab.scan = some b →
     ∃ t : State, exec .scanStep s = .next t.takeFrame ∧ t = { s with tab := t.tab } ∧
       t.tab = { s.tab with ways := t.tab.ways, scanDue := s.tab.scanDue - 1
                            scan := if b = 2047 then none else some (b + 1) } ∧
       ∀ i, Tab.find? t.tab.ways i = (Tab.find? s.tab.ways i).map (fun e =>
         match e.place with
         | .atPort q g .clear => if i / 4 = b then { e with place := .atPort q g .pending } else e
         | .atPort _ _ .pending => e
         | .atPort _ _ .inFrame => e
         | .atPeer _ => e
         | .retired _ => e))

/-- Every step keeps the Address Table sound: an entry in its key's bucket, at most one way for a key, no group address, locations
and move counts in range, IN-FRAME only while a frame is outstanding (R18, R22, R29). -/
def Obligations.AddressesSoundKept : Prop :=
  ∀ s t : State, s.AddressesSound → step s = .next t → t.AddressesSound

/-! ## Congestion relief (Chapter 6) -/

/-- One evaluation of the stages, from the a lowest set: with b marks at or below the measure and c marks at or below the measure
plus the hysteresis, the lowest max b (min a c) are set afterwards (R88). -/
def Obligations.StageRule : Prop :=
  ∀ (m h a : Nat) (marks : List Nat), marks.length = 5 → marks.Pairwise (fun x y => x < y) → a ≤ 5 →
    let run := fun n => List.replicate n true ++ List.replicate (5 - n) false
    let b := (marks.filter (fun k => decide (k ≤ m))).length
    let c := (marks.filter (fun k => decide (k ≤ m + h))).length
    evalStages m h marks (run a) = run (max b (min a c)) ∧ levelOf (evalStages m h marks (run a)) = max b (min a c)

/-- CHANGE_EVENT takes the oldest change event: it stores the values carried, evaluates the stages if the uplink measure is among
them, and the tenants if an in-use is; a new level queues a LEVEL and evaluates the lend offer, which is yes below the lend limit,
with an uplink live and no fault borrow; a tenant is HELD as R91 says; and when a tenant's state has changed each live access port is
HOLDING exactly when a tenant of its set is HELD, with its first hold frame, or one of time 0, pending or in flight (R87 to R93, R97).
RENEW_TIMER_EXPIRY, where the fine tick has reached a HOLDING port's timer at 1 (notes/assumptions/3.md), requests the hold again and
starts the timer afresh (R94). -/
def Obligations.ChangeEventEvaluates : Prop :=
  (∀ (s : State) (c : Change) (rest : List Change), s.bm.changes = c :: rest →
    let measure := c.measure.getD s.rc.measure
    let buffer := c.buffer.getD s.rc.bufferInUse
    let stages := if c.measure = none then s.rc.stages else evalStages measure s.cfg.hysteresis s.cfg.marks s.rc.stages
    ∃ t : State, exec .changeEvent s = .next t.takeFrame ∧
      t = { s with bm := { s.bm with changes := rest }, rc := t.rc, es := t.es, xc := t.xc } ∧
      t.rc.measure = measure ∧ t.rc.bufferInUse = buffer ∧ t.rc.stages = stages ∧
      (∀ n, Tab.read 0 t.rc.tenantInUse n = match c.tenant with
        | some (x, u) => if n = x then u else Tab.read 0 s.rc.tenantInUse n
        | none => Tab.read 0 s.rc.tenantInUse n) ∧
      t.rc.level = (if c.measure = none then s.rc.level else levelOf stages) ∧
      t.rc.lendOffer = (if t.rc.level = s.rc.level then s.rc.lendOffer
        else decide (t.rc.level < s.cfg.lendLimit) && (s.live 16 || s.live 17) && (s.lender .fault).isNone) ∧
      (t.rc.level ≠ s.rc.level → s.il.state = .configured → .level ∈ t.xc.normal) ∧
      (t.rc.level = s.rc.level → t.xc = s.xc) ∧
      (c.buffer = none → c.tenant = none → t.rc.held = s.rc.held) ∧
      (c.buffer ≠ none ∨ c.tenant ≠ none → ∀ n ∈ tenants,
        let used := Tab.read 0 t.rc.tenantInUse n
        let share := (s.tenant n).share
        n ∈ t.rc.held ↔
          if n ∈ s.rc.held then ¬(buffer < s.cfg.releaseMark ∨ used ≤ share) else s.cfg.holdMark ≤ buffer ∧ share < used) ∧
      (t.rc.held = s.rc.held → ∀ p, t.hold p = s.hold p ∧ t.tx p = s.tx p) ∧
      (t.rc.held ≠ s.rc.held → ∀ p ∈ accessPorts, s.live p = true →
        let asked := fun time => (t.tx p).pendingHold = some time ∨ (t.tx p).state = .sending (.hold time)
        let wanted := t.rc.held.any (fun n => s.serves p n)
        (t.hold p).holding = wanted ∧ (wanted = (s.hold p).holding → t.hold p = s.hold p ∧ t.tx p = s.tx p) ∧
        (wanted = true → (s.hold p).holding = false → asked s.cfg.holdTime ∧ (t.hold p).renew = some s.renewTime) ∧
        (wanted = false → (s.hold p).holding = true → asked 0 ∧ (t.hold p).renew = none)) ∧
      ∀ p ∈ allPorts, s.live p = false → t.hold p = s.hold p ∧ t.tx p = s.tx p) ∧
  (∀ (s : State) (p : Fin 16), (s.hold p).renewDue = true → (s.hold p).renew = some 1 → (s.hold p).holding = true →
    exec (.renewTimerExpiry p) s = .next
      ((s.setHold p { s.hold p with renew := some (max 1 (s.cfg.holdTime / 2)), renewDue := false }).holdRequest p s.cfg.holdTime))

/-! ## Spine paths, borrowing and lending (Chapter 5) -/

/-- The candidate lender is a LIVE peer behind a live cross port whose last LEVEL shows an uplink UP or SUSPECT and that is not
excluded; for a RELIEF request its last LEVEL also offers to lend, it is not the fault lender, and no relief is lent to it. Of the
peers that meet this it has the lowest level, and of those the lowest number; there is no candidate only when no peer meets it
(R71, R124). -/
def Obligations.LenderChosen : Prop :=
  ∀ (s : State) (r : Reason),
    let level := fun k => match (s.peer k).stored with
      | some l => l.level
      | none => 0
    let meets := fun k => k ∈ s.peers ∧ (s.peer k).state = .live ∧ s.live (s.crossPort k) = true ∧
      (s.borrow k).exclusion = 0 ∧ ∃ l, (s.peer k).stored = some l ∧
        (l.u0 = .up ∨ l.u0 = .suspect ∨ l.u1 = .up ∨ l.u1 = .suspect) ∧
        (r = .relief → l.lendOffer = true ∧ s.lender .fault ≠ some k ∧ (s.lend k).map LendRecord.reason ≠ some .relief)
    (∀ k, s.candidate r = some k → meets k ∧ ∀ j, meets j → level k < level j ∨ (level k = level j ∧ k ≤ j)) ∧
    (s.candidate r = none → ∀ k, ¬meets k)

/-- BORROW, answered by the first case of R80 that applies, with the lend record and the GRANT it leads to. No answer is given to a
peer that is not LIVE or whose cross port is not live; no binding changes, and no borrow record but one of a crossing RELIEF request
that gives way; a change of the lend count queues a LEVEL (R79, R80, R82). That no fault
request follows, and so no other borrow record changes, is the model's reading of R72 (DEDUCED, notes/assumptions/12.md). -/
def Obligations.BorrowAnswered : Prop :=
  ∀ (s : State) (n : Notice) (rest : List Notice), s.il.state = .configured → s.xc.notices = n :: rest → n.kind = .borrow →
    let k := n.sender
    let sole := n.word.getLsbD 1
    let relief := n.word.getLsbD 0 = true
    let reached := s.peerLive k = true ∧ s.crossLive k = true
    let held := (s.lend k).map LendRecord.reason
    let borrowed := (s.borrow k).state
    ∃ t : State, exec .borrowNotice s = .next t.takeFrame ∧ t = { s with xc := t.xc, pu := t.pu, rc := t.rc } ∧
      (¬reached → t = { s with xc := { s.xc with notices := rest } }) ∧
      (let grant := fun g => .grant k g ∈ t.xc.urgent
       let asks := reached ∧ relief ∧ held ≠ some .relief
       (reached → ¬relief → held ≠ none ∨ s.anyUplink = true →
         t.lend k = some { reason := .fault, solePath := sole } ∧ grant .granted) ∧
       (reached → ¬relief → held = none → s.anyUplink = false → t.lend k = none ∧ grant .noUplink) ∧
       (reached → relief → held = some .relief → t.lend k = s.lend k ∧ grant .granted) ∧
       (asks → s.anyUplink = false → t.lend k = none ∧ grant .noUplink) ∧
       (asks → s.anyUplink = true → s.cfg.lendLimit ≤ s.rc.level → t.lend k = none ∧ grant .levelHigh) ∧
       (asks → s.anyUplink = true → s.rc.level < s.cfg.lendLimit →
         (borrowed = .active .relief → t.lend k = none ∧ grant .mutualRelief) ∧
         (borrowed = .requested .relief → s.il.station < k → t.lend k = none ∧ grant .mutualRelief) ∧
         (borrowed = .requested .relief → k ≤ s.il.station →
           t.lend k = some { reason := .relief, solePath := false } ∧ grant .granted ∧ (t.borrow k).state = .none) ∧
         (borrowed ≠ .active .relief → borrowed ≠ .requested .relief →
           t.lend k = some { reason := .relief, solePath := false } ∧ grant .granted))) ∧
      (∀ i, t.binding i = s.binding i) ∧ (∀ j, j ≠ k → t.lend j = s.lend j ∧ t.borrow j = s.borrow j) ∧
      ((t.borrow k).state = borrowed ∨ (borrowed = .requested .relief ∧ k ≤ s.il.station)) ∧
      (t.lendCount ≠ s.lendCount → .level ∈ t.xc.normal)

/-- GRANT, by the state of the sender's borrow record. GRANTED makes a REQUESTED record ACTIVE and binds every UNBOUND path toward the
lender, or for relief splits the lowest HOME path; it answers an upgrade in the same way; with no record a RETURN goes back. A refusal
ends a REQUESTED record with four ticks of exclusion, and an upgrade with its paths moved off. A fault borrow that begins or ends has
the lend offer evaluated. Any other GRANT is disregarded, and one whose result is above 3 is a line error (R74, R75, R97, R170). That
a GRANTED which finds no record makes no fault request is the model's reading of R72 (DEDUCED, notes/assumptions/12.md). -/
def Obligations.GrantTaken : Prop :=
  ∀ (s : State) (n : Notice) (rest : List Notice), s.il.state = .configured → s.xc.notices = n :: rest → n.kind = .grant →
    n.sender ∈ s.peers →
    let k := n.sender
    let z := { s with xc := { s.xc with notices := rest } }
    let g := n.word.toNat
    let b := s.borrow k
    ∃ t : State, exec .grantNotice s = .next t.takeFrame ∧ t = { s with xc := t.xc, pu := t.pu, rc := t.rc } ∧
      (3 < g → t = { z with xc := { z.xc with lineErrors := min 4294967295 (s.xc.lineErrors + 1) } }) ∧
      (g = 0 → b.state = .requested .fault ∨ (b.upgrade = true ∧ b.state = .active .fault) → s.hasUnbound = true →
        (t.borrow k).state = .active .fault ∧ (t.borrow k).upgrade = false ∧
        ∀ i ∈ paths, t.binding i = if s.binding i = .unbound then .replacePeer k else s.binding i) ∧
      (∀ i, g = 0 → b.state = .requested .relief → s.hasUnbound = false → s.lowestHome = some i →
        (t.borrow k).state = .active .relief ∧ t.binding i = .split k ∧ ∀ j, j ≠ i → t.binding j = s.binding j) ∧
      (g = 0 → b.state = .requested .relief → s.hasUnbound = false → s.lowestHome = none → s.hasPathToward k = false →
        s.peerLive k = true → s.crossLive k = true → .ret k ∈ t.xc.normal ∧ ∀ j, t.binding j = s.binding j) ∧
      (g = 0 → b.state = .none → .ret k ∈ t.xc.normal ∧ t.pu = s.pu) ∧
      (1 ≤ g → g ≤ 3 → (∃ r, b.state = .requested r) ∨ (b.upgrade = true ∧ ∃ r, b.state = .active r) →
        (t.borrow k).state = .none ∧ (t.borrow k).exclusion = 4 ∧ (t.borrow k).noUplink = false ∧
        ((∃ r, b.state = .active r) → ∀ i ∈ paths, (t.binding i).toward ≠ some k)) ∧
      (g ≤ 3 → (s.lender .fault).isSome ≠ (t.lender .fault).isSome → t.rc.lendOffer =
        (decide (s.rc.level < s.cfg.lendLimit) && (s.live 16 || s.live 17) && (t.lender .fault).isNone)) ∧
      (1 ≤ g → g ≤ 3 → b.state = .none → t = z) ∧
      (g ≤ 3 → b.upgrade = false → (∃ r, b.state = .active r) → t = z)

/-- WITHDRAW ends the borrow from its sender: an ACTIVE record's paths are re-placed, to the home uplink if live, else to the other;
the record is NONE, the sender is excluded for four ticks, with the no-uplink mark for that reason; with no record it is
disregarded. RETURN removes the lend record for its sender and no other (R66, R76, R81); that it is followed by no fault request is
the model's reading of R72 (DEDUCED, notes/assumptions/12.md). -/
def Obligations.WithdrawAndReturnTaken : Prop :=
  (∀ (s : State) (n : Notice) (rest : List Notice), s.il.state = .configured → s.xc.notices = n :: rest →
    n.kind = .withdraw →
    let k := n.sender
    ∃ t : State, exec .withdrawNotice s = .next t.takeFrame ∧ t = { s with xc := t.xc, pu := t.pu, rc := t.rc } ∧
      ((s.borrow k).state = .none → t = { s with xc := { s.xc with notices := rest } }) ∧
      ((s.borrow k).state ≠ .none →
        (t.borrow k).state = .none ∧ (t.borrow k).exclusion = 4 ∧ (t.borrow k).noUplink = decide (n.word = 1)) ∧
      ((s.borrow k).state.isActive = true → ∀ i ∈ paths,
        ((s.binding i).toward = some k → (t.binding i).toward ≠ some k ∧
          (s.live (s.homePort i) = true → t.binding i = .home) ∧
          (s.live (s.homePort i) = false → s.live (otherUplink (s.homePort i)) = true → t.binding i = .replaceUplink)) ∧
        ((s.binding i).toward ≠ some k → t.binding i = s.binding i))) ∧
  (∀ (s : State) (n : Notice) (rest : List Notice), s.il.state = .configured → s.xc.notices = n :: rest → n.kind = .ret →
    ∃ t : State, exec .returnNotice s = .next t.takeFrame ∧ t = { s with xc := t.xc, pu := { s.pu with lends := t.pu.lends } } ∧
      t.lend n.sender = none ∧ (∀ j, j ≠ n.sender → t.lend j = s.lend j) ∧
      (t.lendCount ≠ s.lendCount → .level ∈ t.xc.normal))

/-- SHED_REQUEST: with an ACTIVE relief borrow the lowest HOME path becomes SPLIT toward the relief lender, if there is one; with a
REQUESTED one nothing changes; with none a RELIEF request is made to the candidate, if there is one. RETURN_REQUEST: the highest SPLIT
path becomes HOME; with no SPLIT path a REQUESTED relief borrow is abandoned (R72, R73). The requests wait for their taking in a count
(notes/assumptions/3.md). -/
def Obligations.ShedAndReturnRequests : Prop :=
  (∀ s : State, 0 < s.pu.shedDue →
    ∃ t : State, exec .shedRequest s = .next t.takeFrame ∧ t = { s with xc := t.xc, pu := t.pu, rc := t.rc } ∧
      t.pu.shedDue = s.pu.shedDue - 1 ∧
      (∀ k, s.activeRelief = some k →
        (∀ i, s.lowestHome = some i → t.binding i = .split k ∧ ∀ j, j ≠ i → t.binding j = s.binding j) ∧
        (s.lowestHome = none → ∀ j, t.binding j = s.binding j)) ∧
      (s.activeRelief = none → (∀ j, t.binding j = s.binding j) ∧
        (s.requestedRelief ≠ none → t = { s with pu := { s.pu with shedDue := s.pu.shedDue - 1 } }) ∧
        (∀ k, s.requestedRelief = none → s.candidate .relief = some k → s.hasUnbound = false →
          (t.borrow k).state = .requested .relief ∧ (t.borrow k).timer = 2 ∧
          .borrow k .relief s.pu.solePath ∈ t.xc.urgent))) ∧
  (∀ s : State, 0 < s.pu.returnDue →
    ∃ t : State, exec .returnRequest s = .next t.takeFrame ∧ t = { s with xc := t.xc, pu := t.pu, rc := t.rc } ∧
      t.pu.returnDue = s.pu.returnDue - 1 ∧
      (∀ i, s.highestSplit = some i → t.binding i = .home ∧ ∀ j, j ≠ i → t.binding j = s.binding j) ∧
      (s.highestSplit = none → (∀ j, t.binding j = s.binding j) ∧
        ∀ k, s.requestedRelief = some k → s.hasUnbound = false → (t.borrow k).state = .none))

/-- The timers at the Path Unit's report tick. The timer of a REQUESTED record falls, and at 0 the record is NONE; a FAULT one is
given up when no path is UNBOUND. The timer of an upgrade falls, and at 0 the BORROW(FAULT) is queued again with the timer restarted
while a path is UNBOUND, and else the upgrade mark clears; a record left with no path is freed. Every exclusion timer above 0 falls by
one, and at 0 the no-uplink mark clears (R69, R70, R72, R75, R78). REQUEST_TIMEOUT, UPGRADE_TIMEOUT and EXCLUSION_EXPIRY are that
whole tick where it brings the timer they name to 0, and change nothing elsewhere (notes/assumptions/31.md). That a timer with no
request and no upgrade to count for is held at 0 is the model's choice (notes/assumptions/14.md). So is the reading that a request is
not made again at its own timeout (DEDUCED, notes/assumptions/12.md). -/
def Obligations.TimersLapse : Prop :=
  (∀ s : State, ReportUser.pathUnit ∈ s.tb.reportOwed →
    ∃ t : State, exec (.reportTick .pathUnit) s = .next t.takeFrame ∧ t = { s with tb := t.tb, xc := t.xc, pu := t.pu, rc := t.rc } ∧
      ∀ k : Fin 4, k.val ∈ s.peers →
        let b := s.borrow k
        let c := t.borrow k
        let requested := ∃ r, b.state = .requested r
        let overtaken := s.hasUnbound = true ∧ s.lender .fault = none ∧ s.candidate .fault = some k.val
        let upgrading := b.state = .active .fault ∧ b.upgrade = true
        (requested → ¬overtaken →
          (b.timer ≤ 1 → c.state = .none ∧ exec (.requestTimeout k) s = .next t.takeFrame) ∧
          (∀ n, b.timer = n + 2 → exec (.requestTimeout k) s = .next s.takeFrame ∧
            (b.state = .requested .relief ∨ s.hasUnbound = true → c.state = b.state ∧ c.timer = n + 1) ∧
            (b.state = .requested .fault → s.hasUnbound = false → c.state = .none))) ∧
        (¬requested → exec (.requestTimeout k) s = .next s.takeFrame) ∧
        (upgrading →
          (b.timer ≤ 1 → exec (.upgradeTimeout k) s = .next t.takeFrame ∧ (t.hasPathToward k = true →
            (s.hasUnbound = true → c = { c with state := b.state, upgrade := true, timer := 2 } ∧
              .borrow k .fault s.pu.solePath ∈ t.xc.urgent) ∧
            (s.hasUnbound = false → c = { c with state := b.state, upgrade := false, timer := 0 }))) ∧
          (∀ n, b.timer = n + 2 → exec (.upgradeTimeout k) s = .next s.takeFrame ∧
            (t.hasPathToward k = true → c = { c with state := b.state, upgrade := true, timer := n + 1 })) ∧
          (t.hasPathToward k = false → c.state = .none)) ∧
        (b.upgrade = false → exec (.upgradeTimeout k) s = .next s.takeFrame) ∧
        (c.exclusion = b.exclusion - 1 ∧ (b.exclusion = 1 → c.noUplink = false) ∧ (b.exclusion ≠ 1 → c.noUplink = b.noUplink)) ∧
        (b.exclusion = 1 → exec (.exclusionExpiry k) s = .next t.takeFrame)) ∧
  (∀ (s : State) (k : Fin 4),
    (k.val ∉ s.peers ∨ (s.borrow k).exclusion ≠ 1 → exec (.exclusionExpiry k) s = .next s.takeFrame) ∧
    (k.val ∉ s.peers → exec (.requestTimeout k) s = .next s.takeFrame ∧ exec (.upgradeTimeout k) s = .next s.takeFrame))

/-- PEER_STALE is the Peer View's whole report tick where it brings the named LIVE peer's missed count to 3, and changes nothing
elsewhere (notes/assumptions/31.md). At that tick every LIVE peer of missed count 2 becomes STALE at once, with its stored LEVEL kept,
and the Path Unit takes their reports in the same step (notes/assumptions/26.md): no path stays bound toward a STALE peer whose borrow
was ACTIVE, its borrow record is NONE, its lend record is gone, and no new message is queued for it (R77, R121, R123). -/
def Obligations.PeerStaleEnds : Prop :=
  (∀ (s : State) (k : Fin 4), ReportUser.peerView ∈ s.tb.reportOwed → k.val ∈ s.peers →
    (s.peer k).state = .live → 2 ≤ (s.peer k).missed →
    ∃ t : State, exec (.peerStale k) s = .next t.takeFrame ∧ exec (.reportTick .peerView) s = .next t.takeFrame ∧
      t = { s with tb := t.tb, xc := t.xc, pu := t.pu, rc := t.rc, pv := t.pv } ∧
      ∀ j ∈ s.peers, (s.peer j).state = .live → 2 ≤ (s.peer j).missed →
        t.peer j = { s.peer j with state := .stale, missed := 3 } ∧ (t.borrow j).state = .none ∧ t.lend j = none ∧
        ((s.borrow j).state.isActive = true → ∀ i ∈ paths, (t.binding i).toward ≠ some j) ∧
        (∀ m ∈ t.xc.urgent ++ t.xc.normal, m ∈ s.xc.urgent ++ s.xc.normal ∨ m.dest ≠ j)) ∧
  (∀ (s : State) (k : Fin 4), k.val ∉ s.peers ∨ (s.peer k).state ≠ .live ∨ (s.peer k).missed < 2 →
    exec (.peerStale k) s = .next s.takeFrame)

/-- Every step keeps the spine path table, the borrow table and the lend table in agreement with the links and the peers: no path is
bound toward a peer that is not LIVE, behind a cross port that is not live, or without an ACTIVE borrow; every ACTIVE borrow has a
path; at most one borrow of each reason; never a relief lend to a peer that relief is borrowed from; and the sole-path flag set
exactly while no uplink is live (R65, R66, R69, R70, R77, R80). That this holds after the very step of a fault rests on the model's
choice that the Path Unit takes the report of a fault in the step of the fault (R59, notes/assumptions/7.md). -/
def Obligations.PathsSoundKept : Prop :=
  ∀ s t : State, s.PathsSound → step s = .next t → t.PathsSound

/-! ## The Crossline (Chapter 7) -/

/-- FRAME_START, after m fill words with the receiver SEARCHING: short of the deferral (8 words after a frame of its own, else 4) the
station only counts the fill. From there it drives its syncs and its claim. A claim read back equal is won, and the rest of the
frame stands to be driven; a lower one is lost to the frame on the line, with the frame still in hand, no attempt counted and the
own-last mark clear; a higher one fails the attempt (R103, R105 to R107). What the line shows is carried by the command, word by word
(notes/assumptions/17.md). -/
def Obligations.ClaimResolved : Prop :=
  ∀ (s : State) (h : Hand) (m : Nat) (c : Word), s.il.state ≠ .loading → s.xc.toDrive = none → s.xc.hand = some h →
    s.xc.duplicate = false ∨ h.msg.kind = .status → s.xc.rx = .searching →
    let start := exec (.frameStart (List.replicate m .fill) .sync .sync (.data c)) s
    let deferral := if s.xc.ownLast then 8 else 4
    let own := claimOf s.il.station h.msg
    let inHand := { h with built := if h.msg.kind = .level then some s.levelFields else h.built }
    (s.xc.fillRun + m < deferral → start = .next { s with xc := { s.xc with fillRun := s.xc.fillRun + m } }) ∧
    (deferral ≤ s.xc.fillRun + m → c = own →
      ∃ t : State, start = .next t ∧ t = { s with xc := t.xc } ∧ t.xc.hand = some inHand ∧ t.xc.attempts = s.xc.attempts ∧
        t.xc.toDrive = some ((inHand.afterClaim s.il.station).map .data) ∧ t.xc.rx = .inFrame [c] ∧ t.xc.rxOwn = true) ∧
    (deferral ≤ s.xc.fillRun + m → c.toNat < own.toNat →
      ∃ t : State, start = .next t ∧ t = { s with xc := t.xc } ∧ t.xc.hand = some inHand ∧ t.xc.attempts = s.xc.attempts ∧
        t.xc.toDrive = none ∧ t.xc.rx = .inFrame [c] ∧ t.xc.rxOwn = false ∧ t.xc.ownLast = false) ∧
    (deferral ≤ s.xc.fillRun + m → own.toNat < c.toNat → s.xc.attempts < 3 →
      ∃ t : State, start = .next t ∧ t = { s with xc := t.xc } ∧ t.xc.hand = some inHand ∧
        t.xc.attempts = s.xc.attempts + 1 ∧ t.xc.toDrive = none ∧ t.xc.ownLast = true)

/-- ATTEMPT_FAILED, while the station drives a frame whose claim it has won: a word that reads back other than driven ends the
attempt. The station stops driving and sets its own-last mark; short of four failures the frame stays in hand, and at the fourth it
is discarded, the line-fault latch is set, the count returns to 0, and an ADDRESS goes back to the Address Table; the frame is
delivered nowhere, and a fill word in its place is a line error (R104, R107, R114). That the mark is set also where the word read back
is a sync, which clears it at the receiver, is the model's choice (R105, notes/assumptions/29.md). -/
def Obligations.AttemptFails : Prop :=
  ∀ (s : State) (h : Hand) (good : Nat) (read : LineWord), s.il.state ≠ .loading → s.xc.hand = some h →
    let driven := h.afterClaim s.il.station
    s.xc.toDrive = some (driven.map .data) → s.xc.rx = .inFrame [claimOf s.il.station h.msg] → h.payload.length ≤ 48 →
    good < driven.length → (driven.map LineWord.data)[good]? ≠ some read →
    ∃ t : State, exec (.attemptFailed good read) s = .next t.takeFrame ∧ t = { s with xc := t.xc, tab := t.tab } ∧
      t.xc.toDrive = none ∧ t.xc.ownLast = true ∧ t.xc.rxOwn = false ∧ t.xc.notices = s.xc.notices ∧
      t.xc.urgent = s.xc.urgent ∧ t.xc.normal = s.xc.normal ∧
      (s.xc.attempts < 3 → t.xc.hand = some h ∧ t.xc.attempts = s.xc.attempts + 1 ∧ t.xc.lineFault = s.xc.lineFault ∧
        t.tab = s.tab) ∧
      (3 ≤ s.xc.attempts → t.xc.hand = none ∧ t.xc.attempts = 0 ∧ t.xc.lineFault = true ∧
        t.tab = if h.msg.kind = .address then s.tab.discarded else s.tab) ∧
      (read = .fill → t.xc.rx = .searching ∧ t.xc.lineErrors = min 4294967295 (s.xc.lineErrors + 1))

/-- FRAME_SENT, at the end of a frame whose claim was won: the hand empties, the own-last mark is set, the station's own frame is not
delivered to it and is no line error. A sent ADDRESS clears the IN-FRAME marks and frees the RETIRED ways among them; a sent LEVEL
that carried the lost-notices flag clears it, unless it was set again since the attempt began (R26, R29, R104, R109, R114); that this
clearing queues no LEVEL is the model's reading (DEDUCED, notes/assumptions/27.md). -/
def Obligations.FrameSentEnds : Prop :=
  ∀ (s : State) (h : Hand), s.il.state ≠ .loading → s.xc.hand = some h →
    s.xc.toDrive = some ((h.afterClaim s.il.station).map .data) → s.xc.rx = .inFrame [claimOf s.il.station h.msg] →
    s.xc.rxOwn = true → h.payload.length ≤ 48 →
    let lost := if h.msg.kind = .level ∧ (h.built.map LevelFields.lostNotices) = some true then s.xc.lostAgain
                else s.xc.lostNotices
    ∃ t : State, exec .frameSent s = .next t.takeFrame ∧
      t = { s with
        xc := { s.xc with hand := none, attempts := 0, ownLast := true, toDrive := none, rx := .searching, fillRun := 0
                          rxOwn := false, lostNotices := lost }
        tab := t.tab } ∧
      (h.msg.kind ≠ .address → t.tab = s.tab) ∧
      (h.msg.kind = .address → t.tab = { s.tab with ways := t.tab.ways, outstanding := false } ∧
        (Tab.wf s.tab.ways = true → ∀ i, Tab.find? t.tab.ways i = (Tab.find? s.tab.ways i).bind (fun e =>
          if e.mark = .inFrame then (if e.isRetired then none else some (e.setMark .clear)) else some e)))

/-- A frame on the line. What a station drives for a message is its claim, the header words, the payload and the check over them, with
the station's number in the claim and the kind and destination in the first header word (R103, R169). FRAME_ACQUIRED takes the two
syncs; CROSSLINE_FRAME_RECEIVED takes the words from the claim to the check, or any run of them (notes/assumptions/24.md). A frame
whose check does not match, whose kind is none of the ten or whose length its kind does not allow is a line error, and so is one that
a fill word or a sync word breaks off or whose length word is above 48 (R104, R109). A good frame of an accepted kind, destination and
sender becomes a notice; with 16 notices waiting it replaces the newest, which is counted lost; any other leaves the notices as they
are (R109, R110). A good frame with the station's own number, other than a STATUS, sets the duplicate-number flag, and a frame in hand
other than a STATUS is discarded (R108). -/
def Obligations.FrameCarriesMessage : Prop :=
  (∀ (h : Hand) (j : Nat), j < 8 → h.msg.dest < 256 → h.payload.length ≤ 48 →
    ∃ claim h1 : Word, let words := [claim, h1, BitVec.ofNat 16 h.payload.length] ++ h.payload
      claimOf j h.msg :: h.afterClaim j = words ++ [checkWord words] ∧ claim.toNat % 8 = j ∧
      kindOfCode (h1.toNat / 256) = some h.msg.kind ∧ h1.toNat % 256 = h.msg.dest) ∧
  (∀ (s : State) (m : Nat), s.il.state ≠ .loading → s.xc.toDrive = none → s.xc.rx = .searching →
    exec (.frameAcquired (List.replicate m .fill)) s = .next
      { s with xc := { s.xc with rx := .inFrame [], fillRun := 0, rxOwn := false, ownLast := false } }.takeFrame) ∧
  (∀ (s : State) (got : List Word) (d : Word), s.il.state ≠ .loading → s.xc.toDrive = none → s.xc.rx = .inFrame got →
    let broken := { s.xc with rxOwn := false, lineErrors := min 4294967295 (s.xc.lineErrors + 1) }
    let hears := fun w => exec (.crosslineFrameReceived [w]) s
    hears .fill = .next { s with xc := { broken with rx := .searching, fillRun := s.xc.fillRun + 1 } }.takeFrame ∧
    hears .sync = .next { s with xc := { broken with rx := .oneSync, fillRun := 0, ownLast := false } }.takeFrame ∧
    (got.length = 2 → 48 < d.toNat →
      hears (.data d) = .next { s with xc := { broken with rx := .searching, fillRun := 0 } }.takeFrame)) ∧
  (∀ (s : State) (claim h1 check : Word) (payload : List Word), s.il.state ≠ .loading → s.xc.toDrive = none →
    s.xc.rx = .inFrame [] → s.xc.rxOwn = false → payload.length ≤ 48 →
    let words := [claim, h1, BitVec.ofNat 16 payload.length] ++ payload
    let good := check = checkWord words
    let sender := claim.toNat % 8
    let dest := h1.toNat % 256
    let self := s.il.station
    let known := fun k => kindOfCode (h1.toNat / 256) = some k ∧ lengthAllowed k payload.length = true
    let toAll := fun k : Kind => (k = .level ∨ k = .address) ∧ dest = 255 ∧ sender ≤ 3 ∧ sender ≠ self
    let fromPeer := fun k : Kind => (k = .borrow ∨ k = .grant ∨ k = .withdraw ∨ k = .ret) ∧ dest = self ∧ sender ≤ 3 ∧ sender ≠ self
    let fetch := fun k : Kind => (k = .billFetch ∨ k = .statusFetch) ∧ dest = self ∧ 4 ≤ sender
    let taken := fun k => good ∧ known k ∧ (toAll k ∨ fromPeer k ∨ fetch k)
    let twin := good ∧ sender = self ∧ kindOfCode (h1.toNat / 256) ≠ some .status ∧ s.xc.duplicate = false
    ∃ t : State, exec (.crosslineFrameReceived ((words ++ [check]).map .data)) s = .next t.takeFrame ∧
      t = { s with xc := t.xc, tab := t.tab } ∧ t.xc.rx = .searching ∧ t.xc.urgent = s.xc.urgent ∧
      (good ∧ (∃ k, known k) → t.xc.lineErrors = s.xc.lineErrors) ∧
      (¬(good ∧ ∃ k, known k) → t.xc.lineErrors = min 4294967295 (s.xc.lineErrors + 1)) ∧
      (t.xc.duplicate = true ↔ s.xc.duplicate = true ∨ twin) ∧
      (¬twin → t.xc.hand = s.xc.hand ∧ t.xc.attempts = s.xc.attempts ∧ t.tab = s.tab) ∧
      (∀ h, twin → s.xc.hand = some h →
        (h.msg.kind = .status → t.xc.hand = some h ∧ t.tab = s.tab) ∧
        (h.msg.kind ≠ .status → t.xc.hand = none ∧ t.xc.attempts = 0 ∧
          t.tab = if h.msg.kind = .address then s.tab.discarded else s.tab)) ∧
      (∀ k, taken k → let n : Notice := { kind := k, sender := sender, dest := dest, payload := payload }
        (s.xc.notices.length < 16 → t.xc.notices = s.xc.notices ++ [n] ∧ t.xc.overruns = s.xc.overruns) ∧
        (s.xc.notices.length = 16 → t.xc.notices = s.xc.notices.dropLast ++ [n] ∧
          t.xc.overruns = min 4294967295 (s.xc.overruns + 1) ∧ t.xc.overrunLatch = true ∧ t.xc.lostNotices = true ∧
          (s.xc.lostNotices = false → s.il.state = .configured → .level ∈ t.xc.normal))) ∧
      ((∀ k, ¬taken k) → t.xc.notices = s.xc.notices ∧ t.xc.overruns = s.xc.overruns ∧ t.xc.normal = s.xc.normal))

/-- The taking of a frame with an empty hand: the front of the urgent queue, else of the normal queue, with no failed attempt. With
both empty and the image CONFIGURED, an ADDRESS of the PENDING ways, searched from the build position through all 8,192 and taken up
to 12, in the order taken, each of them IN-FRAME from then on, and the build position after the last of them; none while one is
outstanding. A silenced station takes its oldest STATUS only. Nothing is taken with a frame in hand or while LOADING (R29, R108,
R113). -/
def Obligations.TransmitterTakesInOrder : Prop :=
  ∀ s : State,
    let takes := fun (x : CrosslineController) (m : Msg) =>
      s.takeFrame = { s with xc := { x with hand := some { msg := m, built := none }, attempts := 0 } }
    (s.xc.hand ≠ none ∨ s.il.state = .loading → s.takeFrame = s) ∧
    (s.xc.hand = none → s.il.state ≠ .loading → s.xc.duplicate = true →
      ((∀ m ∈ s.xc.normal, m.kind ≠ .status) → s.takeFrame = s) ∧
      (∀ before m after, s.xc.normal = before ++ m :: after → m.kind = .status → (∀ x ∈ before, x.kind ≠ .status) →
        takes { s.xc with normal := before ++ after } m)) ∧
    (s.xc.hand = none → s.il.state ≠ .loading → s.xc.duplicate = false →
      (∀ m rest, s.xc.urgent = m :: rest → takes { s.xc with urgent := rest } m) ∧
      (∀ m rest, s.xc.urgent = [] → s.xc.normal = m :: rest → takes { s.xc with normal := rest } m) ∧
      (s.xc.urgent = [] → s.xc.normal = [] → s.tab.outstanding = true ∨ s.il.state = .unconfigured → s.takeFrame = s) ∧
      (s.xc.urgent = [] → s.xc.normal = [] → s.il.state = .configured → s.tab.outstanding = false →
        Tab.wf s.tab.ways = true → (∀ e ∈ s.tab.ways, e.1 < 8192) → s.tab.build < 8192 →
        let pending := fun i => (Tab.find? s.tab.ways i).map Entry.mark == some .pending
        let taken := (((List.range 8192).map (fun i => (s.tab.build + i) % 8192)).filter pending).take 12
        (taken = [] → s.takeFrame = s) ∧
        (∀ last, taken.getLast? = some last → s.takeFrame = { s with
            xc := { s.xc with
              hand := some { msg := .address (taken.filterMap (fun i => (Tab.find? s.tab.ways i).map (fun e =>
                  { tenant := e.tenant, addr := e.addr, moves := e.moves, forget := e.isRetired }))), built := none }
              attempts := 0 }
            tab := { s.tab with ways := s.takeFrame.tab.ways, outstanding := true, build := (last + 1) % 8192 } } ∧
          (∀ i ∈ taken, Tab.find? s.takeFrame.tab.ways i = (Tab.find? s.tab.ways i).map (fun e => e.setMark .inFrame)) ∧
          ∀ i, i ∉ taken → Tab.find? s.takeFrame.tab.ways i = Tab.find? s.tab.ways i)))

/-- Every step keeps the Crossline Controller's queues: at most one message of a key in each, only messages of its urgency in each,
at most 16 notices, and fewer than four failed attempts, none with an empty hand (R102, R107, R110, R112). -/
def Obligations.LineSoundKept : Prop :=
  ∀ s t : State, s.LineSound → step s = .next t → t.LineSound

/-- What is put into a format is read out of it again: a LEVEL's fields, the entries of an ADDRESS, a group header, the kind of a
message, the reason and sole-path bit of a BORROW, the result of a GRANT, the reason of a WITHDRAW, the repeat mark of a BILL-FETCH;
and a frame check put behind bytes is found right (R167 to R170). A billing record is 24 words with each field in its place, the
charge as 19 digits and a sign, behind the outcome word of a BILL-RECORD; a STATUS is 25 words with each field in its place, one byte
per port (R170, R171). -/
def Obligations.FormatsRoundTrip : Prop :=
  (∀ (k : Nat) (l : LevelFields), l.level ≤ 5 → l.lendCount ≤ 3 → (∀ j, l.faultLender = some j → j ≤ 3 ∧ j ≠ k) →
    (∀ j, l.reliefLender = some j → j ≤ 3 ∧ j ≠ k) → readLevel k (levelWords l) = some l) ∧
  (∀ ms : List AddressEntry, (∀ m ∈ ms, m.tenant ≤ 255 ∧ m.moves ≤ 15) →
    readAddressEntries (ms.flatMap addressEntryWords) = ms) ∧
  (∀ (h : GroupHeader) (rest : List Byte), h.origin ≤ 3 → h.tenant ≤ 255 → h.cls ≤ 3 → readHeader (headerBytes h ++ rest) = h) ∧
  (∀ bs : List Byte, frameCheckOk (withFrameCheck bs) = true) ∧
  (∀ k : Kind, kindOfCode (kindCode k) = some k) ∧
  (∀ (k : Nat) (b : Option LevelFields),
    (∀ (r : Reason) (sole : Bool), ∃ w, Hand.payload { msg := .borrow k r sole, built := b } = [w] ∧
      (w.getLsbD 0 = true ↔ r = .relief) ∧ w.getLsbD 1 = sole) ∧
    (∀ g : GrantResult, ∃ w, Hand.payload { msg := .grant k g, built := b } = [w] ∧ grantOfCode w.toNat = some g) ∧
    (∀ g : WithdrawReason, ∃ w, Hand.payload { msg := .withdraw k g, built := b } = [w] ∧ withdrawOfCode w.toNat = g) ∧
    (∀ r, Hand.payload { msg := .billRecord k (.record r), built := b } = 0 :: recordWords r) ∧
    Hand.payload { msg := .billRecord k .none, built := b } = [1] ∧ Hand.payload { msg := .billRecord k .busy, built := b } = [2]) ∧
  (∀ (n : Notice) (w : Word), n.payload = [w] → (n.repeats = true ↔ w.toNat % 2 = 1)) ∧
  (∀ r : BillRecord, r.station ≤ 3 → r.tenant ≤ 255 → r.first ≤ 65535 → r.last ≤ 65535 → r.number ≤ 4294967295 →
    r.committed ≤ 281474976710655 → r.excess ≤ 281474976710655 → r.lost ≤ 281474976710655 → r.admitted ≤ 4294967295 →
    r.refused ≤ 4294967295 → r.method ≤ 8 →
    let ws := recordWords r
    let word := fun i => (ws.getD i 0).toNat
    let number := fun i n => ((ws.drop i).take n).foldl (fun v w => v * 65536 + w.toNat) 0
    let charge := number 19 5
    ws.length = 24 ∧ word 0 / 256 = r.station ∧ word 0 % 256 = r.tenant ∧ word 1 = r.first ∧ word 2 = r.last ∧
    number 3 2 = r.number ∧ number 5 3 = r.committed ∧ number 8 3 = r.excess ∧ number 11 3 = r.lost ∧
    number 14 2 = r.admitted ∧ number 16 2 = r.refused ∧ word 18 % 16 = r.method ∧ (word 18).testBit 4 = r.inexact ∧
    (word 18).testBit 5 = r.saturated ∧ (word 18).testBit 6 = r.unpriced ∧ (word 18).testBit 7 = r.merged ∧
    (∀ i < 19, charge / 16 ^ (i + 1) % 16 = r.magnitude / 10 ^ i % 10) ∧ charge % 16 = (if r.minus then 0xD else 0xC)) ∧
  (∀ r : StatusReply, r.clamped ≤ 65535 → r.level ≤ 5 → r.condition ≤ 8 → r.ports.length = 21 → (∀ x ∈ r.ports, x.stage ≤ 6) →
    r.lineErrors ≤ 4294967295 → r.overruns ≤ 4294967295 → r.skipped ≤ 4294967295 → r.badSum ≤ 4294967295 →
    r.unclassSum ≤ 4294967295 → r.depth ≤ 64 → r.tenantsPending ≤ 255 →
    let ws := statusWords r
    let word := fun i => (ws.getD i 0).toNat
    let number := fun i => word i * 65536 + word (i + 1)
    let byte := fun p => if p % 2 = 0 then word (3 + p / 2) / 256 else word (3 + p / 2) % 256
    ws.length = 25 ∧ word 0 / 256 = imageCode r.image ∧ word 0 % 256 = reasonCode r.reason ∧ word 1 = r.clamped ∧
    word 2 / 8192 = r.level ∧ (word 2).testBit 12 = r.duplicate ∧ (word 2).testBit 11 = r.lineFault ∧
    (word 2).testBit 10 = r.overrunLatch ∧ word 2 % 16 = r.condition ∧
    (∀ p x, r.ports[p]? = some x → byte p % 8 = linkCode x.state ∧ byte p / 8 % 8 = x.stage ∧ (byte p).testBit 6 = x.latch) ∧
    byte 21 = 0 ∧ number 14 = r.lineErrors ∧ number 16 = r.overruns ∧ number 18 = r.skipped ∧ number 20 = r.badSum ∧
    number 22 = r.unclassSum ∧ word 24 / 256 = r.depth ∧ word 24 % 256 = r.tenantsPending)

/-- LEVEL: a malformed one is discarded as a line error. One that is not is stored whole: the sender's record is LIVE with no missed
tick; a re-join, or a lost-notices flag, restarts the re-announce scan at bucket 0; a lend to a sender that names this station
nowhere is removed, and a fault lend it does name takes its sole-path flag; an exclusion with the no-uplink mark ends when the sender
has an uplink again (R81, R120, R126). That no fault request follows a LEVEL, even one that ends an exclusion, and so no other borrow
record changes, is the model's reading of R72 (DEDUCED, notes/assumptions/12.md). -/
def Obligations.LevelStored : Prop :=
  ∀ (s : State) (n : Notice) (rest : List Notice), s.il.state = .configured → s.xc.notices = n :: rest → n.kind = .level →
    let k := n.sender
    (readLevel k n.payload = none → exec .levelNotice s = .next { s with
      xc := { s.xc with notices := rest, lineErrors := min 4294967295 (s.xc.lineErrors + 1) } }.takeFrame) ∧
    (∀ l, readLevel k n.payload = some l →
      let names := l.faultLender = some s.il.station ∨ l.reliefLender = some s.il.station
      let asks := (s.peer k).state ≠ .live ∨ l.lostNotices = true
      let cleared := (s.borrow k).noUplink = true ∧ (l.u0.isLive = true ∨ l.u1.isLive = true)
      ∃ t : State, exec .levelNotice s = .next t.takeFrame ∧ t = { s with xc := t.xc, pu := t.pu, pv := t.pv, tab := t.tab } ∧
        (t.peer k).state = .live ∧ (t.peer k).missed = 0 ∧ (t.peer k).stored = some l ∧ (∀ j, j ≠ k → t.peer j = s.peer j) ∧
        t.tab = (if asks then { s.tab with scan := some 0 } else s.tab) ∧
        (¬names → t.lend k = none) ∧
        (∀ d, names → s.lend k = some d → t.lend k =
          some { d with solePath := if d.reason = .fault then l.solePath else d.solePath }) ∧
        (s.lend k = none → t.lend k = none) ∧ (∀ j, j ≠ k → t.lend j = s.lend j ∧ t.borrow j = s.borrow j) ∧
        (cleared → t.borrow k = { s.borrow k with exclusion := 0, noUplink := false }) ∧
        (¬cleared → t.borrow k = s.borrow k) ∧ ∀ i, t.binding i = s.binding i)

/-- STATUS_FETCH: while a STATUS to the collector waits or is in hand it has no effect. Else a reply with the values as they stand,
the highest-ranked condition among them, is queued at the tail, and every latch it carries is cleared: those of the 21 ports, the
line-fault latch and the overrun latch (R61, R116, R117). That the stage of a port that is not QUALIFYING is sent as 0 is the model's
choice (R171, notes/assumptions/34.md). -/
def Obligations.StatusFetched : Prop :=
  ∀ (s : State) (n : Notice) (rest : List Notice), s.il.state ≠ .loading → s.xc.notices = n :: rest → n.kind = .statusFetch →
    let c := n.sender
    let waits := (∃ m ∈ s.xc.normal, m.kind = .status ∧ m.dest = c) ∨
      ∃ h, s.xc.hand = some h ∧ h.msg.kind = .status ∧ h.msg.dest = c
    (waits → exec .statusFetch s = .next { s with xc := { s.xc with notices := rest } }.takeFrame) ∧
    (¬waits → ∃ (t : State) (r : StatusReply), exec .statusFetch s = .next t.takeFrame ∧
      t = { s with xc := t.xc, ls := { s.ls with ports := t.ls.ports } } ∧
      t.xc = { s.xc with notices := rest, normal := s.xc.normal ++ [.status c r], lineFault := false, overrunLatch := false } ∧
      (∀ p ∈ allPorts, t.link p = { s.link p with latch := false }) ∧
      r.image = s.il.state ∧ r.reason = s.il.reason ∧ r.clamped = s.il.clamped ∧ r.duplicate = s.xc.duplicate ∧
      r.level = s.rc.level ∧ r.lineErrors = s.xc.lineErrors ∧ r.lineFault = s.xc.lineFault ∧ r.overruns = s.xc.overruns ∧
      r.overrunLatch = s.xc.overrunLatch ∧ r.skipped = s.tab.skipped ∧ r.depth = s.bq.records.length ∧
      r.tenantsPending = (s.um.pending.filter (fun e => !e.2.usage.allZero)).length ∧
      r.ports = allPorts.map (fun p => { state := (s.link p).state, latch := (s.link p).latch
                                         stage := if (s.link p).state = .qualifying then (s.link p).stages else 0 }) ∧
      r.badSum = min 4294967295 ((allPorts.map (fun p => (s.intake p).bad)).sum) ∧
      r.unclassSum = min 4294967295 ((allPorts.map (fun p => (s.intake p).unclassified)).sum) ∧
      (statusWords r).length = 25 ∧
      r.condition = (if s.il.state = .unconfigured then 1 else if s.xc.duplicate = true then 2
        else if (s.link 16).latch = true ∨ (s.link 17).latch = true then 3
        else if (s.link 18).latch = true ∨ (s.link 19).latch = true ∨ (s.link 20).latch = true then 4
        else if ∃ p ∈ accessPorts, (s.link p).latch = true then 5
        else if s.xc.lineFault = true then 6 else if s.xc.overrunLatch = true then 7 else 8))

/-! ## The billing chain (Chapters 9 to 11) -/

/-- USAGE_REPORT, REFUSAL_REPORT and LOSS_REPORT take the oldest report of their kind and add it to the active set of its tenant:
the length to the committed, excess or lost bytes, one to the admitted or refused frames, each held at its largest value, with the
saturation mark set when that happens. No other set and no other block changes (R128, R129). -/
def Obligations.ReportsMetered : Prop :=
  (∀ (s : State) (r : UsageReport) (rest : List UsageReport), s.bm.usageReports = r :: rest →
    let u := s.active r.tenant
    let before := if r.excess then u.excess else u.committed
    ∃ t : State, exec .usageReport s = .next t ∧
      t = { s with bm := { s.bm with usageReports := rest }, um := { s.um with active := t.um.active } } ∧
      (∀ n, n ≠ r.tenant → t.active n = s.active n) ∧
      t.active r.tenant = { u with
        committed := if r.excess then u.committed else min 281474976710655 (before + r.length)
        excess := if r.excess then min 281474976710655 (before + r.length) else u.excess
        admitted := min 4294967295 (u.admitted + 1)
        saturated := u.saturated || decide (281474976710655 < before + r.length) || decide (4294967295 < u.admitted + 1) }) ∧
  (∀ (s : State) (n : Nat) (rest : List Nat), s.bm.refusals = n :: rest →
    let u := s.active n
    ∃ t : State, exec .refusalReport s = .next t ∧
      t = { s with bm := { s.bm with refusals := rest }, um := { s.um with active := t.um.active } } ∧
      (∀ m, m ≠ n → t.active m = s.active m) ∧
      t.active n = { u with refused := min 4294967295 (u.refused + 1)
                            saturated := u.saturated || decide (4294967295 < u.refused + 1) }) ∧
  (∀ (s : State) (r : LossReport) (rest : List LossReport), s.bm.losses = r :: rest →
    let u := s.active r.tenant
    ∃ t : State, exec .lossReport s = .next t ∧
      t = { s with bm := { s.bm with losses := rest }, um := { s.um with active := t.um.active } } ∧
      (∀ m, m ≠ r.tenant → t.active m = s.active m) ∧
      t.active r.tenant = { u with lost := min 281474976710655 (u.lost + r.length)
                                   saturated := u.saturated || decide (281474976710655 < u.lost + r.length) })

/-- EPOCH_CLOSE, where an expiry of T3 is due. While a record is being computed it is held and counted. Else it closes the epoch: a
tenant's active set becomes its pending set for the closing epoch, or is merged into the one it has; every active set is all zero; the
epoch number rises, 65,535 to 1; and the walk restarts at tenant 1 (R130, R132, R136, R165). That the close waits in a count for its
command, and that T3 reloads with it, is the model's choice (notes/assumptions/3.md and 10.md). -/
def Obligations.EpochCloses : Prop :=
  ∀ s : State, 0 < s.tb.epochDue →
    let tb := { s.tb with epochDue := s.tb.epochDue - 1, t3 := if s.tb.t3 = some 0 then some s.cfg.t3 else s.tb.t3 }
    (∀ n, s.re.state = .computing n → exec .epochClose s = .next { s with
      tb := tb
      um := { s.um with heldCloses := s.um.heldCloses + 1 } }) ∧
    ((∀ n, s.re.state ≠ .computing n) → ∃ t : State, exec .epochClose s = .next t ∧
      t = { s with tb := tb, um := t.um, re := { state := .stepping 1 } } ∧ t.um.heldCloses = s.um.heldCloses ∧
      t.um.epoch = (if s.um.epoch = 65535 then 1 else s.um.epoch + 1) ∧
      ∀ n ∈ tenants, t.active n = Usage.zero ∧
        (s.pendingSet n = none →
          t.pendingSet n = some { usage := s.active n, first := s.um.epoch, last := s.um.epoch }) ∧
        ∀ p, s.pendingSet n = some p →
          t.pendingSet n = some { usage := p.usage.merge (s.active n), first := p.first, last := s.um.epoch })

/-- The merge at an epoch close: each accumulator of the active set is added to the pending set's and held at its largest value; the
saturation mark is set when that happens, when it was set, or when the active set's was; the first epoch is kept and the last is the
closing one; and the record built from the set carries the mark (R131). -/
def Obligations.MergeAdds : Prop :=
  ∀ (s : State) (n : Nat) (p : PendingSet), 0 < s.tb.epochDue → (∀ m, s.re.state ≠ .computing m) → n ∈ tenants →
    s.pendingSet n = some p →
    let a := s.active n
    let v := p.usage
    ∃ (t : State) (c : PendingSet), exec .epochClose s = .next t ∧ t.pendingSet n = some c ∧
      c.first = p.first ∧ c.last = s.um.epoch ∧
      c.usage.committed = min 281474976710655 (v.committed + a.committed) ∧
      c.usage.excess = min 281474976710655 (v.excess + a.excess) ∧
      c.usage.lost = min 281474976710655 (v.lost + a.lost) ∧
      c.usage.admitted = min 4294967295 (v.admitted + a.admitted) ∧
      c.usage.refused = min 4294967295 (v.refused + a.refused) ∧
      (c.usage.saturated = true ↔ v.saturated = true ∨ a.saturated = true ∨
        281474976710655 < v.committed + a.committed ∨ 281474976710655 < v.excess + a.excess ∨
        281474976710655 < v.lost + a.lost ∨ 4294967295 < v.admitted + a.admitted ∨ 4294967295 < v.refused + a.refused) ∧
      (t.buildRecord n c).saturated = c.usage.saturated

/-- RATING_STEP at tenant n: an absent pending set is passed; one that is all zero becomes absent and is passed; any other begins a
computation where a slot is free, and waits where none is. To pass is to step to the next tenant, or to IDLE after tenant 255.
SLOT_FREED takes a freed slot that was reported: an engine WAITING at a tenant is STEPPING there and takes the tenant's step again in
the same event, so with a slot free it is COMPUTING; any other engine is left as it is (R134, R137). -/
def Obligations.RatingWalks : Prop :=
  (∀ (s : State) (n : Nat), s.re.state = .stepping n →
    let next := if n < 255 then RateState.stepping (n + 1) else .idle
    let zero := fun u : Usage => u.committed = 0 ∧ u.excess = 0 ∧ u.lost = 0 ∧ u.admitted = 0 ∧ u.refused = 0
    (s.pendingSet n = none → exec .ratingStep s = .next { s with re := { state := next } }) ∧
    (∀ p, s.pendingSet n = some p →
      (zero p.usage → ∃ t : State, exec .ratingStep s = .next t ∧
        t = { s with um := { s.um with pending := t.um.pending }, re := { state := next } } ∧
        t.pendingSet n = none ∧ ∀ m, m ≠ n → t.pendingSet m = s.pendingSet m) ∧
      (¬zero p.usage → s.bq.records.length < 64 → exec .ratingStep s = .next { s with re := { state := .computing n } }) ∧
      (¬zero p.usage → 64 ≤ s.bq.records.length → exec .ratingStep s = .next { s with re := { state := .waiting n } }))) ∧
  (∀ s : State, 0 < s.bq.slotsFreed →
    let bq := { s.bq with slotsFreed := s.bq.slotsFreed - 1 }
    (∀ n, s.re.state = .waiting n →
      exec .slotFreed s = exec .ratingStep { s with bq := bq, re := { state := .stepping n } } ∧
      ∀ x, s.pendingSet n = some x → x.usage.allZero = false → s.bq.records.length < 64 →
        exec .slotFreed s = .next { s with bq := bq, re := { state := .computing n } }) ∧
    ((∀ n, s.re.state ≠ .waiting n) → exec .slotFreed s = .next { s with bq := bq }))

/-- COMPUTATION_END: a record built from the tenant's pending set and settings is placed at the tail with the next record number; the
pending set is absent; and the engine passes on, or, where closes were held, they are taken in turn and the walk restarts at tenant
1, the tenant's pending set beginning anew. The record's charge is the exact sum rounded by the tenant's method, with its sign and
magnitude, and its marks as R147 to R149 say; without valid tariffs it is +0 and UNPRICED (R132, R135, R143, R147 to R149, R152,
R153). -/
def Obligations.ComputationEnds : Prop :=
  ∀ (s : State) (n : Nat) (p : PendingSet), s.re.state = .computing n → s.pendingSet n = some p →
    let x := s.tenant n
    let u := p.usage
    let sum : Int := u.committed * x.rc + u.excess * x.re - u.lost * x.rd
    ∃ (t : State) (r : BillRecord), exec .computationEnd s = .next t ∧ t = { s with um := t.um, re := t.re, bq := t.bq } ∧
      t.bq = { s.bq with
        records := s.bq.records ++ [r]
        next := if s.bq.next = 4294967295 then 1 else s.bq.next + 1
        head := if s.bq.records = [] then .fresh else s.bq.head } ∧
      (r.station = s.il.station ∧ r.tenant = n ∧ r.first = p.first ∧ r.last = p.last ∧ r.number = s.bq.next ∧
        r.committed = u.committed ∧ r.excess = u.excess ∧ r.lost = u.lost ∧ r.admitted = u.admitted ∧ r.refused = u.refused ∧
        r.method = x.method ∧ r.saturated = u.saturated ∧ r.unpriced = !x.valid ∧
        (r.merged = true ↔ p.first ≠ p.last) ∧
        (if r.minus then -(r.magnitude : Int) else r.magnitude) = (if x.valid then roundCharge x.method sum else 0) ∧
        (r.magnitude = 0 → r.minus = false) ∧
        (r.inexact = true ↔ x.valid = true ∧ x.suppress = false ∧ ¬(100000000000 : Int) ∣ sum)) ∧
      t.um.heldCloses = 0 ∧ t.um.epoch = nextEpoch^[s.um.heldCloses] s.um.epoch ∧
      (s.um.heldCloses = 0 → t.um.active = s.um.active ∧
        t.re.state = (if n < 255 then .stepping (n + 1) else .idle) ∧
        t.pendingSet n = none ∧ ∀ m, m ≠ n → t.pendingSet m = s.pendingSet m) ∧
      (0 < s.um.heldCloses → t.re.state = .stepping 1 ∧ ∀ m ∈ tenants, t.active m = Usage.zero ∧
        ∃ q, t.pendingSet m = some q ∧ nextEpoch q.last = t.um.epoch ∧
          q.first = (if m = n then s.um.epoch else ((s.pendingSet m).map PendingSet.first).getD s.um.epoch) ∧
          (s.um.heldCloses = 1 → m = n → q.usage = s.active n))

/-- For a remainder that is not 0, each of the methods 1 to 7 chooses between the quotient and the quotient moved away from zero as
its row says, and method 8 moves it away exactly when its last digit is 0 or 5; so under method 8 a charge whose last digit is 0 or
5 is exact. With no remainder every method gives the quotient (R144 to R146). -/
def Obligations.RoundingMethods : Prop :=
  ∀ x : Int,
    let q := x.tdiv 100000000000
    let r := x - q * 100000000000
    let half := 50000000000
    let away := if x < 0 then q - 1 else q + 1
    let last := fun v : Int => v.natAbs % 10
    (r = 0 → ∀ m, roundCharge m x = q) ∧
    (r ≠ 0 →
      roundCharge 1 x = (if half ≤ r.natAbs then away else q) ∧
      roundCharge 2 x =
        (if half < r.natAbs then away else if r.natAbs < half then q else if q % 2 = 0 then q else away) ∧
      roundCharge 3 x = (if half < r.natAbs then away else q) ∧
      roundCharge 4 x = q ∧
      roundCharge 5 x = away ∧
      roundCharge 6 x = (if 0 < x then away else q) ∧
      roundCharge 7 x = (if x < 0 then away else q) ∧
      (last q = 0 ∨ last q = 5 → roundCharge 8 x = away) ∧
      (last q ≠ 0 → last q ≠ 5 → roundCharge 8 x = q)) ∧
    (last (roundCharge 8 x) = 0 ∨ last (roundCharge 8 x) = 5 → r = 0)

/-- The charge of every record that a computation makes, from accumulators and tariffs within their ranges, lies between
-2,814,749,767.106548 and +5,629,499,534.213095 BU; a zero charge carries the plus sign, and an UNPRICED record's charge is +0
(R150). -/
def Obligations.ChargeInBounds : Prop :=
  ∀ (s : State) (n : Nat) (p : PendingSet), s.re.state = .computing n → s.pendingSet n = some p →
    p.usage.committed ≤ 281474976710655 → p.usage.excess ≤ 281474976710655 → p.usage.lost ≤ 281474976710655 →
    (s.tenant n).rc ≤ 999999999999 → (s.tenant n).re ≤ 999999999999 → (s.tenant n).rd ≤ 999999999999 →
    ∃ (t : State) (r : BillRecord), exec .computationEnd s = .next t ∧ t.bq.records = s.bq.records ++ [r] ∧
      (r.minus = true → r.magnitude ≤ 2814749767106548) ∧ (r.minus = false → r.magnitude ≤ 5629499534213095) ∧
      (r.magnitude = 0 → r.minus = false) ∧ (r.unpriced = true → r.magnitude = 0 ∧ r.minus = false)

/-- A fetch is answered by the head state and its repeat mark, and has no effect while a reply to the collector waits or is in hand.
An empty queue answers NONE; a FRESH head is shown; one shown to another collector answers BUSY; a repeat fetch shows the head again;
a plain fetch removes it, reports its slot freed, and shows the next record or answers NONE (R154 to R156, R158). That a silenced
station removes it too, where it showed it before, is the model's choice (R139, R155, R158, notes/assumptions/32.md). -/
def Obligations.FetchesAnswered : Prop :=
  ∀ (s : State) (n : Notice) (rest : List Notice), s.il.state ≠ .loading → s.xc.notices = n :: rest → n.kind = .billFetch →
    let c := n.sender
    let repeated := n.word.getLsbD 0
    let fetch := exec (if repeated then .billFetchRepeat else .billFetchPlain) s
    let waits := (∃ m ∈ s.xc.normal, m.kind = .billRecord ∧ m.dest = c) ∨
      ∃ h, s.xc.hand = some h ∧ h.msg.kind = .billRecord ∧ h.msg.dest = c
    let answers := fun (b : BillingQueue) (r : BillReply) => fetch = .next { s with
      xc := { s.xc with notices := rest, normal := s.xc.normal ++ [Msg.billRecord c r] }
      bq := b }.takeFrame
    (waits → fetch = .next { s with xc := { s.xc with notices := rest } }.takeFrame) ∧
    (¬waits → s.bq.records = [] → answers s.bq .none) ∧
    (∀ r more, ¬waits → s.bq.records = r :: more →
      (s.bq.head = .fresh → answers { s.bq with head := .shown c 0 } (.record r)) ∧
      (∀ d m, s.bq.head = .shown d m → d ≠ c → answers s.bq .busy) ∧
      (∀ m, s.bq.head = .shown c m → repeated = true → answers { s.bq with head := .shown c 0 } (.record r)) ∧
      (∀ m x later, s.bq.head = .shown c m → repeated = false → more = x :: later →
        answers { s.bq with records := more, head := .shown c 0, slotsFreed := s.bq.slotsFreed + 1 } (.record x)) ∧
      (∀ m, s.bq.head = .shown c m → repeated = false → more = [] →
        answers { s.bq with records := [], head := .absent, slotsFreed := s.bq.slotsFreed + 1 } .none))

/-- Every step keeps the billing chain: at most 64 records with consecutive numbers, a head state absent exactly while the queue is
empty, a show timer below the show limit, a free slot and a set to rate while a record is computed (R132, R134, R151, R153); every
set and the epoch number within their ranges (R128); and a level that is the number of stages set, which are a run from C1 (R88). -/
def Obligations.BillingKept : Prop :=
  (∀ s t : State, s.BillingSound → step s = .next t → t.BillingSound) ∧
  (∀ s t : State, s.MeterSound → step s = .next t → t.MeterSound) ∧
  (∀ s t : State, s.StagesSound → step s = .next t → t.StagesSound)

/-! ## The whole part -/

/-- Every step keeps every table of the state in its one canonical form, so that states that read the same are the same data. The
tables and their form are the model's own (notes/assumptions/19.md). -/
def Obligations.CanonicalKept : Prop :=
  ∀ s t : State, s.Canonical → step s = .next t → t.Canonical

/-- The state that RESET answers, from any state and with any straps and signals, meets every invariant that a step keeps, and so does
the model's state right after reset, with station number 0 and no receiver reporting a signal (DESIGN CHOICE,
notes/assumptions/1.md). -/
def Obligations.InvariantsHoldAtReset : Prop :=
  let all := fun t : State => t.LinksSound ∧ t.DeadQuiet ∧ t.BufferLinked ∧ t.BufferSound ∧ t.AddressesSound ∧ t.PathsSound ∧
    t.LineSound ∧ t.BillingSound ∧ t.MeterSound ∧ t.StagesSound ∧ t.Canonical
  (∀ (straps : Fin 4) (signals : BitVec 21) (s : State), ∃ t : State, exec (.reset straps signals) s = .next t ∧ all t) ∧
  all State.reset
end

