-- ==== Sys2Proof/Laws/Tab.lean ====
section
/-! SUPPORT. What the operations of a sparse table do: a read after a write, the canonical form kept by every operation, and the
sums that the accounts of R10 are made of. -/

namespace Sys2Proof

variable {α β : Type}

/-! ## Reads after writes -/

@[simp] theorem Tab.find?_nil (k : Nat) : Tab.find? ([] : Tab α) k = none := rfl

theorem Tab.find?_put (t : Tab α) (k j : Nat) (v : α) :
    Tab.find? (Tab.put t k v) j = if j = k then some v else Tab.find? t j := by
  induction t with
  | nil => by_cases h : k = j <;> simp [Tab.put, Tab.find?, h, eq_comm]
  | cons e t ih =>
    obtain ⟨i, w⟩ := e
    simp only [Tab.put]
    split
    · by_cases h : k = j <;> simp [Tab.find?, h, eq_comm]
    · split
      · next h => subst h; by_cases h : k = j <;> simp [Tab.find?, h, eq_comm]
      · next h1 h2 =>
        simp only [Tab.find?, ih]
        by_cases h : i = j
        · subst h; simp [Ne.symm h2]
        · simp [h]

@[simp] theorem Tab.find?_put_same (t : Tab α) (k : Nat) (v : α) : Tab.find? (Tab.put t k v) k = some v := by
  simp [Tab.find?_put]

theorem Tab.find?_put_ne (t : Tab α) {k j : Nat} (v : α) (h : j ≠ k) :
    Tab.find? (Tab.put t k v) j = Tab.find? t j := by
  simp [Tab.find?_put, h]

theorem Tab.find?_drop (t : Tab α) (k j : Nat) :
    Tab.find? (Tab.drop t k) j = if j = k then none else Tab.find? t j := by
  induction t with
  | nil => simp [Tab.drop, Tab.find?]
  | cons e t ih =>
    obtain ⟨i, w⟩ := e
    have hc : Tab.drop ((i, w) :: t) k = if i = k then Tab.drop t k else (i, w) :: Tab.drop t k := by
      by_cases h : i = k <;> simp [Tab.drop, h]
    rw [hc]
    by_cases h : i = k
    · subst h
      by_cases hj : j = i
      · subst hj; simp [ih]
      · simp [ih, hj, Tab.find?, Ne.symm hj]
    · by_cases hj : i = j
      · subst hj; simp [h, Tab.find?]
      · simp [h, hj, Tab.find?, ih]

@[simp] theorem Tab.find?_drop_same (t : Tab α) (k : Nat) : Tab.find? (Tab.drop t k) k = none := by
  simp [Tab.find?_drop]

theorem Tab.find?_drop_ne (t : Tab α) {k j : Nat} (h : j ≠ k) : Tab.find? (Tab.drop t k) j = Tab.find? t j := by
  simp [Tab.find?_drop, h]

/-- A read after a write gives the value written at its key, and elsewhere what a read gave before. -/
theorem Tab.read_write [DecidableEq α] (d : α) (t : Tab α) (k j : Nat) (v : α) :
    Tab.read d (Tab.write d t k v) j = if j = k then v else Tab.read d t j := by
  unfold Tab.read Tab.write
  by_cases hv : v = d
  · subst hv; by_cases h : j = k <;> simp [Tab.find?_drop, h]
  · by_cases h : j = k <;> simp [hv, Tab.find?_put, h]

@[simp] theorem Tab.read_write_same [DecidableEq α] (d : α) (t : Tab α) (k : Nat) (v : α) :
    Tab.read d (Tab.write d t k v) k = v := by
  simp [Tab.read_write]

theorem Tab.read_write_ne [DecidableEq α] (d : α) (t : Tab α) {k j : Nat} (v : α) (h : j ≠ k) :
    Tab.read d (Tab.write d t k v) j = Tab.read d t j := by
  simp [Tab.read_write, h]

@[simp] theorem Tab.read_nil (d : α) (k : Nat) : Tab.read d ([] : Tab α) k = d := rfl

theorem Tab.read_drop (d : α) (t : Tab α) (k j : Nat) :
    Tab.read d (Tab.drop t k) j = if j = k then d else Tab.read d t j := by
  unfold Tab.read
  by_cases h : j = k <;> simp [Tab.find?_drop, h]

/-! ## The canonical form -/

/-- The canonical form as an order between neighbours. -/
theorem Tab.wf_iff (t : Tab α) : Tab.wf t = true ↔ t.Pairwise (fun a b => a.1 < b.1) := by
  induction t with
  | nil => simp [Tab.wf]
  | cons e t ih =>
    obtain ⟨i, w⟩ := e
    cases t with
    | nil => simp [Tab.wf]
    | cons e' t =>
      obtain ⟨j, x⟩ := e'
      simp only [Tab.wf, Bool.and_eq_true, decide_eq_true_eq]
      rw [ih, List.pairwise_cons (a := (i, w)), List.pairwise_cons]
      constructor
      · rintro ⟨h, h1, h2⟩
        refine ⟨?_, h1, h2⟩
        intro b hb
        rcases List.mem_cons.1 hb with rfl | hb
        · exact h
        · exact Nat.lt_trans h (h1 b hb)
      · rintro ⟨h, h1, h2⟩
        exact ⟨h _ (List.mem_cons_self ..), h1, h2⟩

@[simp] theorem Tab.wf_nil : Tab.wf ([] : Tab α) = true := rfl

theorem Tab.mem_put {t : Tab α} {k : Nat} {v : α} {e : Nat × α} (h : e ∈ Tab.put t k v) : e = (k, v) ∨ e ∈ t := by
  induction t with
  | nil => simpa [Tab.put] using h
  | cons x t ih =>
    obtain ⟨i, w⟩ := x
    simp only [Tab.put] at h
    split at h
    · simpa using h
    · split at h
      · rcases List.mem_cons.1 h with h | h
        · exact .inl h
        · exact .inr (List.mem_cons_of_mem _ h)
      · rcases List.mem_cons.1 h with h | h
        · exact .inr (h ▸ List.mem_cons_self ..)
        · rcases ih h with h | h
          · exact .inl h
          · exact .inr (List.mem_cons_of_mem _ h)

theorem Tab.wf_put {t : Tab α} (k : Nat) (v : α) (h : Tab.wf t = true) : Tab.wf (Tab.put t k v) = true := by
  rw [Tab.wf_iff] at h ⊢
  induction t with
  | nil => simp [Tab.put]
  | cons x t ih =>
    obtain ⟨i, w⟩ := x
    rw [List.pairwise_cons] at h
    simp only [Tab.put]
    split
    · next hk =>
      refine List.pairwise_cons.2 ⟨?_, List.pairwise_cons.2 h⟩
      intro b hb
      rcases List.mem_cons.1 hb with rfl | hb
      · exact hk
      · exact Nat.lt_trans hk (h.1 b hb)
    · split
      · next hk => subst hk; exact List.pairwise_cons.2 h
      · next h1 h2 =>
        refine List.pairwise_cons.2 ⟨?_, ih h.2⟩
        intro b hb
        rcases Tab.mem_put hb with rfl | hb
        · show i < k; omega
        · exact h.1 b hb

theorem Tab.wf_drop {t : Tab α} (k : Nat) (h : Tab.wf t = true) : Tab.wf (Tab.drop t k) = true := by
  rw [Tab.wf_iff] at h ⊢
  exact h.filter _

theorem Tab.wf_write [DecidableEq α] (d : α) {t : Tab α} (k : Nat) (v : α) (h : Tab.wf t = true) :
    Tab.wf (Tab.write d t k v) = true := by
  unfold Tab.write
  split
  · exact Tab.wf_drop k h
  · exact Tab.wf_put k v h

theorem Tab.mem_filterMap {f : Nat → α → Option α} {t : Tab α} {e : Nat × α} (h : e ∈ Tab.filterMap f t) :
    ∃ v, (e.1, v) ∈ t ∧ f e.1 v = some e.2 := by
  induction t with
  | nil => simp [Tab.filterMap] at h
  | cons x t ih =>
    obtain ⟨i, w⟩ := x
    simp only [Tab.filterMap] at h
    split at h
    · next w' hw =>
      rcases List.mem_cons.1 h with rfl | h
      · exact ⟨w, List.mem_cons_self .., hw⟩
      · obtain ⟨v, hv, hf⟩ := ih h
        exact ⟨v, List.mem_cons_of_mem _ hv, hf⟩
    · obtain ⟨v, hv, hf⟩ := ih h
      exact ⟨v, List.mem_cons_of_mem _ hv, hf⟩

theorem Tab.wf_filterMap (f : Nat → α → Option α) {t : Tab α} (h : Tab.wf t = true) :
    Tab.wf (Tab.filterMap f t) = true := by
  rw [Tab.wf_iff] at h ⊢
  induction t with
  | nil => simp [Tab.filterMap]
  | cons x t ih =>
    obtain ⟨i, w⟩ := x
    rw [List.pairwise_cons] at h
    simp only [Tab.filterMap]
    split
    · refine List.pairwise_cons.2 ⟨?_, ih h.2⟩
      intro b hb
      obtain ⟨v, hv, -⟩ := Tab.mem_filterMap hb
      exact h.1 (b.1, v) hv
    · exact ih h.2

theorem Tab.find?_of_mem {t : Tab α} (hw : Tab.wf t = true) {k : Nat} {v : α} (h : (k, v) ∈ t) :
    Tab.find? t k = some v := by
  rw [Tab.wf_iff] at hw
  induction t with
  | nil => simp at h
  | cons x t ih =>
    obtain ⟨i, w⟩ := x
    rw [List.pairwise_cons] at hw
    rcases List.mem_cons.1 h with h | h
    · cases h; simp [Tab.find?]
    · have := hw.1 _ h
      have hne : i ≠ k := by simp at this; omega
      simp [Tab.find?, hne, ih hw.2 h]

theorem Tab.mem_of_find? {t : Tab α} {k : Nat} {v : α} (h : Tab.find? t k = some v) : (k, v) ∈ t := by
  induction t with
  | nil => simp at h
  | cons x t ih =>
    obtain ⟨i, w⟩ := x
    simp only [Tab.find?] at h
    split at h
    · next hi => cases h; subst hi; exact List.mem_cons_self ..
    · exact List.mem_cons_of_mem _ (ih h)

/-- In a canonical table, replacing by f replaces what a key reads. -/
theorem Tab.find?_filterMap (f : Nat → α → Option α) {t : Tab α} (h : Tab.wf t = true) (k : Nat) :
    Tab.find? (Tab.filterMap f t) k = (Tab.find? t k).bind (f k) := by
  rw [Tab.wf_iff] at h
  induction t with
  | nil => simp [Tab.filterMap]
  | cons x t ih =>
    obtain ⟨i, w⟩ := x
    rw [List.pairwise_cons] at h
    have hnone : i = k → Tab.find? (Tab.filterMap f t) k = none := by
      rintro rfl
      rw [ih h.2]
      cases hf : Tab.find? t i with
      | none => rfl
      | some v => exact absurd (h.1 _ (Tab.mem_of_find? hf)) (Nat.lt_irrefl _)
    simp only [Tab.filterMap]
    by_cases hi : i = k
    · subst hi
      cases hw : f i w with
      | none => simp [Tab.find?, hw, hnone]
      | some v => simp [Tab.find?, hw]
    · cases hw : f i w with
      | none => simp [Tab.find?, hi, ih h.2]
      | some v => simp [Tab.find?, hi, ih h.2]

/-- A table made by a function of a list of distinct keys reads as that function. -/
theorem Tab.find?_map (f : Nat → α) (ks : List Nat) (k : Nat) :
    Tab.find? (ks.map (fun j => (j, f j))) k = if k ∈ ks then some (f k) else none := by
  induction ks with
  | nil => rfl
  | cons j ks ih =>
    by_cases h : j = k
    · subst h; simp [Tab.find?]
    · simp [Tab.find?, h, ih, Ne.symm h]

/-! ## Sums -/

@[simp] theorem Tab.sum_nil (f : α → Nat) : Tab.sum f ([] : Tab α) = 0 := rfl

theorem Tab.sum_put (f : α → Nat) {t : Tab α} (hw : Tab.wf t = true) (k : Nat) (v : α) :
    Tab.sum f (Tab.put t k v) + ((Tab.find? t k).map f).getD 0 = Tab.sum f t + f v := by
  rw [Tab.wf_iff] at hw
  induction t with
  | nil => simp [Tab.put, Tab.sum]
  | cons x t ih =>
    obtain ⟨i, w⟩ := x
    rw [List.pairwise_cons] at hw
    have ih := ih hw.2
    simp only [Tab.put]
    split
    · next hk =>
      have hnone : Tab.find? t k = none := by
        cases hf : Tab.find? t k with
        | none => rfl
        | some v => have := hw.1 _ (Tab.mem_of_find? hf); simp at this; omega
      have hne : i ≠ k := by omega
      simp [Tab.sum, Tab.find?, hne, hnone]; omega
    · split
      · next hk => subst hk; simp [Tab.sum, Tab.find?]; omega
      · next h1 h2 =>
        have hne : i ≠ k := fun h => h2 h.symm
        simp only [Tab.sum, List.map_cons, List.sum_cons, Tab.find?, hne, if_false] at ih ⊢
        omega

theorem Tab.sum_drop (f : α → Nat) {t : Tab α} (hw : Tab.wf t = true) (k : Nat) :
    Tab.sum f (Tab.drop t k) + ((Tab.find? t k).map f).getD 0 = Tab.sum f t := by
  rw [Tab.wf_iff] at hw
  induction t with
  | nil => simp [Tab.drop, Tab.sum]
  | cons x t ih =>
    obtain ⟨i, w⟩ := x
    rw [List.pairwise_cons] at hw
    have ih := ih hw.2
    by_cases hi : i = k
    · subst hi
      have hd : Tab.drop t i = t := by
        refine List.filter_eq_self.2 (fun b hb => ?_)
        have := hw.1 b hb
        simp at this ⊢; omega
      have : Tab.drop ((i, w) :: t) i = t := by
        have : Tab.drop ((i, w) :: t) i = Tab.drop t i := by simp [Tab.drop]
        rw [this, hd]
      rw [this]; simp [Tab.find?, Tab.sum]; omega
    · have : Tab.drop ((i, w) :: t) k = (i, w) :: Tab.drop t k := by
        simp [Tab.drop, hi]
      rw [this]
      simp only [Tab.sum, List.map_cons, List.sum_cons, Tab.find?, hi, if_false] at ih ⊢
      omega

end Sys2Proof
end

