-- ==== Sys2Proof/Laws/State.lean ====
section
/-! SUPPORT. One lemma per field of the state for each named update, and what each named read gives after each named update, so
that no proof unfolds a record update. -/

namespace Sys2Proof.Machine

open Sys2Proof.Config

/-! ## Fields after an update -/

@[simp] theorem State.setLink_il (s : State) (p : Nat) (l : PortLink) : (s.setLink p l).il = s.il := rfl
@[simp] theorem State.setLink_cfg (s : State) (p : Nat) (l : PortLink) : (s.setLink p l).cfg = s.cfg := rfl
@[simp] theorem State.setLink_tb (s : State) (p : Nat) (l : PortLink) : (s.setLink p l).tb = s.tb := rfl
@[simp] theorem State.setLink_iu (s : State) (p : Nat) (l : PortLink) : (s.setLink p l).iu = s.iu := rfl
@[simp] theorem State.setLink_tab (s : State) (p : Nat) (l : PortLink) : (s.setLink p l).tab = s.tab := rfl
@[simp] theorem State.setLink_bm (s : State) (p : Nat) (l : PortLink) : (s.setLink p l).bm = s.bm := rfl
@[simp] theorem State.setLink_es (s : State) (p : Nat) (l : PortLink) : (s.setLink p l).es = s.es := rfl
@[simp] theorem State.setLink_rc (s : State) (p : Nat) (l : PortLink) : (s.setLink p l).rc = s.rc := rfl
@[simp] theorem State.setLink_pu (s : State) (p : Nat) (l : PortLink) : (s.setLink p l).pu = s.pu := rfl
@[simp] theorem State.setLink_xc (s : State) (p : Nat) (l : PortLink) : (s.setLink p l).xc = s.xc := rfl
@[simp] theorem State.setLink_pv (s : State) (p : Nat) (l : PortLink) : (s.setLink p l).pv = s.pv := rfl
@[simp] theorem State.setLink_um (s : State) (p : Nat) (l : PortLink) : (s.setLink p l).um = s.um := rfl
@[simp] theorem State.setLink_re (s : State) (p : Nat) (l : PortLink) : (s.setLink p l).re = s.re := rfl
@[simp] theorem State.setLink_bq (s : State) (p : Nat) (l : PortLink) : (s.setLink p l).bq = s.bq := rfl
@[simp] theorem State.setLink_pending (s : State) (p : Nat) (l : PortLink) : (s.setLink p l).pending = s.pending := rfl

@[simp] theorem State.setIntake_il (s : State) (p : Nat) (i : PortIntake) : (s.setIntake p i).il = s.il := rfl
@[simp] theorem State.setIntake_cfg (s : State) (p : Nat) (i : PortIntake) : (s.setIntake p i).cfg = s.cfg := rfl
@[simp] theorem State.setIntake_tb (s : State) (p : Nat) (i : PortIntake) : (s.setIntake p i).tb = s.tb := rfl
@[simp] theorem State.setIntake_ls (s : State) (p : Nat) (i : PortIntake) : (s.setIntake p i).ls = s.ls := rfl
@[simp] theorem State.setIntake_tab (s : State) (p : Nat) (i : PortIntake) : (s.setIntake p i).tab = s.tab := rfl
@[simp] theorem State.setIntake_bm (s : State) (p : Nat) (i : PortIntake) : (s.setIntake p i).bm = s.bm := rfl
@[simp] theorem State.setIntake_es (s : State) (p : Nat) (i : PortIntake) : (s.setIntake p i).es = s.es := rfl
@[simp] theorem State.setIntake_rc (s : State) (p : Nat) (i : PortIntake) : (s.setIntake p i).rc = s.rc := rfl
@[simp] theorem State.setIntake_pu (s : State) (p : Nat) (i : PortIntake) : (s.setIntake p i).pu = s.pu := rfl
@[simp] theorem State.setIntake_xc (s : State) (p : Nat) (i : PortIntake) : (s.setIntake p i).xc = s.xc := rfl
@[simp] theorem State.setIntake_pv (s : State) (p : Nat) (i : PortIntake) : (s.setIntake p i).pv = s.pv := rfl
@[simp] theorem State.setIntake_um (s : State) (p : Nat) (i : PortIntake) : (s.setIntake p i).um = s.um := rfl
@[simp] theorem State.setIntake_re (s : State) (p : Nat) (i : PortIntake) : (s.setIntake p i).re = s.re := rfl
@[simp] theorem State.setIntake_bq (s : State) (p : Nat) (i : PortIntake) : (s.setIntake p i).bq = s.bq := rfl
@[simp] theorem State.setIntake_pending (s : State) (p : Nat) (i : PortIntake) : (s.setIntake p i).pending = s.pending := rfl

@[simp] theorem State.setTx_il (s : State) (p : Nat) (x : PortTx) : (s.setTx p x).il = s.il := rfl
@[simp] theorem State.setTx_cfg (s : State) (p : Nat) (x : PortTx) : (s.setTx p x).cfg = s.cfg := rfl
@[simp] theorem State.setTx_tb (s : State) (p : Nat) (x : PortTx) : (s.setTx p x).tb = s.tb := rfl
@[simp] theorem State.setTx_ls (s : State) (p : Nat) (x : PortTx) : (s.setTx p x).ls = s.ls := rfl
@[simp] theorem State.setTx_iu (s : State) (p : Nat) (x : PortTx) : (s.setTx p x).iu = s.iu := rfl
@[simp] theorem State.setTx_tab (s : State) (p : Nat) (x : PortTx) : (s.setTx p x).tab = s.tab := rfl
@[simp] theorem State.setTx_bm (s : State) (p : Nat) (x : PortTx) : (s.setTx p x).bm = s.bm := rfl
@[simp] theorem State.setTx_rc (s : State) (p : Nat) (x : PortTx) : (s.setTx p x).rc = s.rc := rfl
@[simp] theorem State.setTx_pu (s : State) (p : Nat) (x : PortTx) : (s.setTx p x).pu = s.pu := rfl
@[simp] theorem State.setTx_xc (s : State) (p : Nat) (x : PortTx) : (s.setTx p x).xc = s.xc := rfl
@[simp] theorem State.setTx_pv (s : State) (p : Nat) (x : PortTx) : (s.setTx p x).pv = s.pv := rfl
@[simp] theorem State.setTx_um (s : State) (p : Nat) (x : PortTx) : (s.setTx p x).um = s.um := rfl
@[simp] theorem State.setTx_re (s : State) (p : Nat) (x : PortTx) : (s.setTx p x).re = s.re := rfl
@[simp] theorem State.setTx_bq (s : State) (p : Nat) (x : PortTx) : (s.setTx p x).bq = s.bq := rfl
@[simp] theorem State.setTx_pending (s : State) (p : Nat) (x : PortTx) : (s.setTx p x).pending = s.pending := rfl

@[simp] theorem State.setQueue_il (s : State) (q : Nat) (ds : List Desc) : (s.setQueue q ds).il = s.il := rfl
@[simp] theorem State.setQueue_cfg (s : State) (q : Nat) (ds : List Desc) : (s.setQueue q ds).cfg = s.cfg := rfl
@[simp] theorem State.setQueue_tb (s : State) (q : Nat) (ds : List Desc) : (s.setQueue q ds).tb = s.tb := rfl
@[simp] theorem State.setQueue_ls (s : State) (q : Nat) (ds : List Desc) : (s.setQueue q ds).ls = s.ls := rfl
@[simp] theorem State.setQueue_iu (s : State) (q : Nat) (ds : List Desc) : (s.setQueue q ds).iu = s.iu := rfl
@[simp] theorem State.setQueue_tab (s : State) (q : Nat) (ds : List Desc) : (s.setQueue q ds).tab = s.tab := rfl
@[simp] theorem State.setQueue_bm (s : State) (q : Nat) (ds : List Desc) : (s.setQueue q ds).bm = s.bm := rfl
@[simp] theorem State.setQueue_rc (s : State) (q : Nat) (ds : List Desc) : (s.setQueue q ds).rc = s.rc := rfl
@[simp] theorem State.setQueue_pu (s : State) (q : Nat) (ds : List Desc) : (s.setQueue q ds).pu = s.pu := rfl
@[simp] theorem State.setQueue_xc (s : State) (q : Nat) (ds : List Desc) : (s.setQueue q ds).xc = s.xc := rfl
@[simp] theorem State.setQueue_pv (s : State) (q : Nat) (ds : List Desc) : (s.setQueue q ds).pv = s.pv := rfl
@[simp] theorem State.setQueue_um (s : State) (q : Nat) (ds : List Desc) : (s.setQueue q ds).um = s.um := rfl
@[simp] theorem State.setQueue_re (s : State) (q : Nat) (ds : List Desc) : (s.setQueue q ds).re = s.re := rfl
@[simp] theorem State.setQueue_bq (s : State) (q : Nat) (ds : List Desc) : (s.setQueue q ds).bq = s.bq := rfl
@[simp] theorem State.setQueue_pending (s : State) (q : Nat) (ds : List Desc) : (s.setQueue q ds).pending = s.pending := rfl

@[simp] theorem State.setHold_il (s : State) (p : Nat) (h : PortHold) : (s.setHold p h).il = s.il := rfl
@[simp] theorem State.setHold_cfg (s : State) (p : Nat) (h : PortHold) : (s.setHold p h).cfg = s.cfg := rfl
@[simp] theorem State.setHold_tb (s : State) (p : Nat) (h : PortHold) : (s.setHold p h).tb = s.tb := rfl
@[simp] theorem State.setHold_ls (s : State) (p : Nat) (h : PortHold) : (s.setHold p h).ls = s.ls := rfl
@[simp] theorem State.setHold_iu (s : State) (p : Nat) (h : PortHold) : (s.setHold p h).iu = s.iu := rfl
@[simp] theorem State.setHold_tab (s : State) (p : Nat) (h : PortHold) : (s.setHold p h).tab = s.tab := rfl
@[simp] theorem State.setHold_bm (s : State) (p : Nat) (h : PortHold) : (s.setHold p h).bm = s.bm := rfl
@[simp] theorem State.setHold_es (s : State) (p : Nat) (h : PortHold) : (s.setHold p h).es = s.es := rfl
@[simp] theorem State.setHold_pu (s : State) (p : Nat) (h : PortHold) : (s.setHold p h).pu = s.pu := rfl
@[simp] theorem State.setHold_xc (s : State) (p : Nat) (h : PortHold) : (s.setHold p h).xc = s.xc := rfl
@[simp] theorem State.setHold_pv (s : State) (p : Nat) (h : PortHold) : (s.setHold p h).pv = s.pv := rfl
@[simp] theorem State.setHold_um (s : State) (p : Nat) (h : PortHold) : (s.setHold p h).um = s.um := rfl
@[simp] theorem State.setHold_re (s : State) (p : Nat) (h : PortHold) : (s.setHold p h).re = s.re := rfl
@[simp] theorem State.setHold_bq (s : State) (p : Nat) (h : PortHold) : (s.setHold p h).bq = s.bq := rfl
@[simp] theorem State.setHold_pending (s : State) (p : Nat) (h : PortHold) : (s.setHold p h).pending = s.pending := rfl

@[simp] theorem State.setBinding_il (s : State) (i : Nat) (b : Binding) : (s.setBinding i b).il = s.il := rfl
@[simp] theorem State.setBinding_cfg (s : State) (i : Nat) (b : Binding) : (s.setBinding i b).cfg = s.cfg := rfl
@[simp] theorem State.setBinding_tb (s : State) (i : Nat) (b : Binding) : (s.setBinding i b).tb = s.tb := rfl
@[simp] theorem State.setBinding_ls (s : State) (i : Nat) (b : Binding) : (s.setBinding i b).ls = s.ls := rfl
@[simp] theorem State.setBinding_iu (s : State) (i : Nat) (b : Binding) : (s.setBinding i b).iu = s.iu := rfl
@[simp] theorem State.setBinding_tab (s : State) (i : Nat) (b : Binding) : (s.setBinding i b).tab = s.tab := rfl
@[simp] theorem State.setBinding_bm (s : State) (i : Nat) (b : Binding) : (s.setBinding i b).bm = s.bm := rfl
@[simp] theorem State.setBinding_es (s : State) (i : Nat) (b : Binding) : (s.setBinding i b).es = s.es := rfl
@[simp] theorem State.setBinding_rc (s : State) (i : Nat) (b : Binding) : (s.setBinding i b).rc = s.rc := rfl
@[simp] theorem State.setBinding_xc (s : State) (i : Nat) (b : Binding) : (s.setBinding i b).xc = s.xc := rfl
@[simp] theorem State.setBinding_pv (s : State) (i : Nat) (b : Binding) : (s.setBinding i b).pv = s.pv := rfl
@[simp] theorem State.setBinding_um (s : State) (i : Nat) (b : Binding) : (s.setBinding i b).um = s.um := rfl
@[simp] theorem State.setBinding_re (s : State) (i : Nat) (b : Binding) : (s.setBinding i b).re = s.re := rfl
@[simp] theorem State.setBinding_bq (s : State) (i : Nat) (b : Binding) : (s.setBinding i b).bq = s.bq := rfl
@[simp] theorem State.setBinding_pending (s : State) (i : Nat) (b : Binding) : (s.setBinding i b).pending = s.pending := rfl

@[simp] theorem State.setBorrow_il (s : State) (k : Nat) (b : BorrowRecord) : (s.setBorrow k b).il = s.il := rfl
@[simp] theorem State.setBorrow_cfg (s : State) (k : Nat) (b : BorrowRecord) : (s.setBorrow k b).cfg = s.cfg := rfl
@[simp] theorem State.setBorrow_tb (s : State) (k : Nat) (b : BorrowRecord) : (s.setBorrow k b).tb = s.tb := rfl
@[simp] theorem State.setBorrow_ls (s : State) (k : Nat) (b : BorrowRecord) : (s.setBorrow k b).ls = s.ls := rfl
@[simp] theorem State.setBorrow_iu (s : State) (k : Nat) (b : BorrowRecord) : (s.setBorrow k b).iu = s.iu := rfl
@[simp] theorem State.setBorrow_tab (s : State) (k : Nat) (b : BorrowRecord) : (s.setBorrow k b).tab = s.tab := rfl
@[simp] theorem State.setBorrow_bm (s : State) (k : Nat) (b : BorrowRecord) : (s.setBorrow k b).bm = s.bm := rfl
@[simp] theorem State.setBorrow_es (s : State) (k : Nat) (b : BorrowRecord) : (s.setBorrow k b).es = s.es := rfl
@[simp] theorem State.setBorrow_rc (s : State) (k : Nat) (b : BorrowRecord) : (s.setBorrow k b).rc = s.rc := rfl
@[simp] theorem State.setBorrow_xc (s : State) (k : Nat) (b : BorrowRecord) : (s.setBorrow k b).xc = s.xc := rfl
@[simp] theorem State.setBorrow_pv (s : State) (k : Nat) (b : BorrowRecord) : (s.setBorrow k b).pv = s.pv := rfl
@[simp] theorem State.setBorrow_um (s : State) (k : Nat) (b : BorrowRecord) : (s.setBorrow k b).um = s.um := rfl
@[simp] theorem State.setBorrow_re (s : State) (k : Nat) (b : BorrowRecord) : (s.setBorrow k b).re = s.re := rfl
@[simp] theorem State.setBorrow_bq (s : State) (k : Nat) (b : BorrowRecord) : (s.setBorrow k b).bq = s.bq := rfl
@[simp] theorem State.setBorrow_pending (s : State) (k : Nat) (b : BorrowRecord) : (s.setBorrow k b).pending = s.pending := rfl

@[simp] theorem State.setLend_il (s : State) (k : Nat) (l : LendRecord) : (s.setLend k l).il = s.il := rfl
@[simp] theorem State.setLend_cfg (s : State) (k : Nat) (l : LendRecord) : (s.setLend k l).cfg = s.cfg := rfl
@[simp] theorem State.setLend_tb (s : State) (k : Nat) (l : LendRecord) : (s.setLend k l).tb = s.tb := rfl
@[simp] theorem State.setLend_ls (s : State) (k : Nat) (l : LendRecord) : (s.setLend k l).ls = s.ls := rfl
@[simp] theorem State.setLend_iu (s : State) (k : Nat) (l : LendRecord) : (s.setLend k l).iu = s.iu := rfl
@[simp] theorem State.setLend_tab (s : State) (k : Nat) (l : LendRecord) : (s.setLend k l).tab = s.tab := rfl
@[simp] theorem State.setLend_bm (s : State) (k : Nat) (l : LendRecord) : (s.setLend k l).bm = s.bm := rfl
@[simp] theorem State.setLend_es (s : State) (k : Nat) (l : LendRecord) : (s.setLend k l).es = s.es := rfl
@[simp] theorem State.setLend_rc (s : State) (k : Nat) (l : LendRecord) : (s.setLend k l).rc = s.rc := rfl
@[simp] theorem State.setLend_xc (s : State) (k : Nat) (l : LendRecord) : (s.setLend k l).xc = s.xc := rfl
@[simp] theorem State.setLend_pv (s : State) (k : Nat) (l : LendRecord) : (s.setLend k l).pv = s.pv := rfl
@[simp] theorem State.setLend_um (s : State) (k : Nat) (l : LendRecord) : (s.setLend k l).um = s.um := rfl
@[simp] theorem State.setLend_re (s : State) (k : Nat) (l : LendRecord) : (s.setLend k l).re = s.re := rfl
@[simp] theorem State.setLend_bq (s : State) (k : Nat) (l : LendRecord) : (s.setLend k l).bq = s.bq := rfl
@[simp] theorem State.setLend_pending (s : State) (k : Nat) (l : LendRecord) : (s.setLend k l).pending = s.pending := rfl

@[simp] theorem State.dropLend_il (s : State) (k : Nat) : (s.dropLend k).il = s.il := rfl
@[simp] theorem State.dropLend_cfg (s : State) (k : Nat) : (s.dropLend k).cfg = s.cfg := rfl
@[simp] theorem State.dropLend_tb (s : State) (k : Nat) : (s.dropLend k).tb = s.tb := rfl
@[simp] theorem State.dropLend_ls (s : State) (k : Nat) : (s.dropLend k).ls = s.ls := rfl
@[simp] theorem State.dropLend_iu (s : State) (k : Nat) : (s.dropLend k).iu = s.iu := rfl
@[simp] theorem State.dropLend_tab (s : State) (k : Nat) : (s.dropLend k).tab = s.tab := rfl
@[simp] theorem State.dropLend_bm (s : State) (k : Nat) : (s.dropLend k).bm = s.bm := rfl
@[simp] theorem State.dropLend_es (s : State) (k : Nat) : (s.dropLend k).es = s.es := rfl
@[simp] theorem State.dropLend_rc (s : State) (k : Nat) : (s.dropLend k).rc = s.rc := rfl
@[simp] theorem State.dropLend_xc (s : State) (k : Nat) : (s.dropLend k).xc = s.xc := rfl
@[simp] theorem State.dropLend_pv (s : State) (k : Nat) : (s.dropLend k).pv = s.pv := rfl
@[simp] theorem State.dropLend_um (s : State) (k : Nat) : (s.dropLend k).um = s.um := rfl
@[simp] theorem State.dropLend_re (s : State) (k : Nat) : (s.dropLend k).re = s.re := rfl
@[simp] theorem State.dropLend_bq (s : State) (k : Nat) : (s.dropLend k).bq = s.bq := rfl
@[simp] theorem State.dropLend_pending (s : State) (k : Nat) : (s.dropLend k).pending = s.pending := rfl

@[simp] theorem State.setPeer_il (s : State) (k : Nat) (r : PeerRecord) : (s.setPeer k r).il = s.il := rfl
@[simp] theorem State.setPeer_cfg (s : State) (k : Nat) (r : PeerRecord) : (s.setPeer k r).cfg = s.cfg := rfl
@[simp] theorem State.setPeer_tb (s : State) (k : Nat) (r : PeerRecord) : (s.setPeer k r).tb = s.tb := rfl
@[simp] theorem State.setPeer_ls (s : State) (k : Nat) (r : PeerRecord) : (s.setPeer k r).ls = s.ls := rfl
@[simp] theorem State.setPeer_iu (s : State) (k : Nat) (r : PeerRecord) : (s.setPeer k r).iu = s.iu := rfl
@[simp] theorem State.setPeer_tab (s : State) (k : Nat) (r : PeerRecord) : (s.setPeer k r).tab = s.tab := rfl
@[simp] theorem State.setPeer_bm (s : State) (k : Nat) (r : PeerRecord) : (s.setPeer k r).bm = s.bm := rfl
@[simp] theorem State.setPeer_es (s : State) (k : Nat) (r : PeerRecord) : (s.setPeer k r).es = s.es := rfl
@[simp] theorem State.setPeer_rc (s : State) (k : Nat) (r : PeerRecord) : (s.setPeer k r).rc = s.rc := rfl
@[simp] theorem State.setPeer_pu (s : State) (k : Nat) (r : PeerRecord) : (s.setPeer k r).pu = s.pu := rfl
@[simp] theorem State.setPeer_xc (s : State) (k : Nat) (r : PeerRecord) : (s.setPeer k r).xc = s.xc := rfl
@[simp] theorem State.setPeer_um (s : State) (k : Nat) (r : PeerRecord) : (s.setPeer k r).um = s.um := rfl
@[simp] theorem State.setPeer_re (s : State) (k : Nat) (r : PeerRecord) : (s.setPeer k r).re = s.re := rfl
@[simp] theorem State.setPeer_bq (s : State) (k : Nat) (r : PeerRecord) : (s.setPeer k r).bq = s.bq := rfl
@[simp] theorem State.setPeer_pending (s : State) (k : Nat) (r : PeerRecord) : (s.setPeer k r).pending = s.pending := rfl

@[simp] theorem State.setActive_il (s : State) (t : Nat) (u : Usage) : (s.setActive t u).il = s.il := rfl
@[simp] theorem State.setActive_cfg (s : State) (t : Nat) (u : Usage) : (s.setActive t u).cfg = s.cfg := rfl
@[simp] theorem State.setActive_tb (s : State) (t : Nat) (u : Usage) : (s.setActive t u).tb = s.tb := rfl
@[simp] theorem State.setActive_ls (s : State) (t : Nat) (u : Usage) : (s.setActive t u).ls = s.ls := rfl
@[simp] theorem State.setActive_iu (s : State) (t : Nat) (u : Usage) : (s.setActive t u).iu = s.iu := rfl
@[simp] theorem State.setActive_tab (s : State) (t : Nat) (u : Usage) : (s.setActive t u).tab = s.tab := rfl
@[simp] theorem State.setActive_bm (s : State) (t : Nat) (u : Usage) : (s.setActive t u).bm = s.bm := rfl
@[simp] theorem State.setActive_es (s : State) (t : Nat) (u : Usage) : (s.setActive t u).es = s.es := rfl
@[simp] theorem State.setActive_rc (s : State) (t : Nat) (u : Usage) : (s.setActive t u).rc = s.rc := rfl
@[simp] theorem State.setActive_pu (s : State) (t : Nat) (u : Usage) : (s.setActive t u).pu = s.pu := rfl
@[simp] theorem State.setActive_xc (s : State) (t : Nat) (u : Usage) : (s.setActive t u).xc = s.xc := rfl
@[simp] theorem State.setActive_pv (s : State) (t : Nat) (u : Usage) : (s.setActive t u).pv = s.pv := rfl
@[simp] theorem State.setActive_re (s : State) (t : Nat) (u : Usage) : (s.setActive t u).re = s.re := rfl
@[simp] theorem State.setActive_bq (s : State) (t : Nat) (u : Usage) : (s.setActive t u).bq = s.bq := rfl
@[simp] theorem State.setActive_pending (s : State) (t : Nat) (u : Usage) : (s.setActive t u).pending = s.pending := rfl

@[simp] theorem State.setRate_il (s : State) (r : RateState) : (s.setRate r).il = s.il := rfl
@[simp] theorem State.setRate_cfg (s : State) (r : RateState) : (s.setRate r).cfg = s.cfg := rfl
@[simp] theorem State.setRate_tb (s : State) (r : RateState) : (s.setRate r).tb = s.tb := rfl
@[simp] theorem State.setRate_ls (s : State) (r : RateState) : (s.setRate r).ls = s.ls := rfl
@[simp] theorem State.setRate_iu (s : State) (r : RateState) : (s.setRate r).iu = s.iu := rfl
@[simp] theorem State.setRate_tab (s : State) (r : RateState) : (s.setRate r).tab = s.tab := rfl
@[simp] theorem State.setRate_bm (s : State) (r : RateState) : (s.setRate r).bm = s.bm := rfl
@[simp] theorem State.setRate_es (s : State) (r : RateState) : (s.setRate r).es = s.es := rfl
@[simp] theorem State.setRate_rc (s : State) (r : RateState) : (s.setRate r).rc = s.rc := rfl
@[simp] theorem State.setRate_pu (s : State) (r : RateState) : (s.setRate r).pu = s.pu := rfl
@[simp] theorem State.setRate_xc (s : State) (r : RateState) : (s.setRate r).xc = s.xc := rfl
@[simp] theorem State.setRate_pv (s : State) (r : RateState) : (s.setRate r).pv = s.pv := rfl
@[simp] theorem State.setRate_um (s : State) (r : RateState) : (s.setRate r).um = s.um := rfl
@[simp] theorem State.setRate_bq (s : State) (r : RateState) : (s.setRate r).bq = s.bq := rfl
@[simp] theorem State.setRate_pending (s : State) (r : RateState) : (s.setRate r).pending = s.pending := rfl

@[simp] theorem State.dropPending_il (s : State) (t : Nat) : (s.dropPending t).il = s.il := rfl
@[simp] theorem State.dropPending_cfg (s : State) (t : Nat) : (s.dropPending t).cfg = s.cfg := rfl
@[simp] theorem State.dropPending_tb (s : State) (t : Nat) : (s.dropPending t).tb = s.tb := rfl
@[simp] theorem State.dropPending_ls (s : State) (t : Nat) : (s.dropPending t).ls = s.ls := rfl
@[simp] theorem State.dropPending_iu (s : State) (t : Nat) : (s.dropPending t).iu = s.iu := rfl
@[simp] theorem State.dropPending_tab (s : State) (t : Nat) : (s.dropPending t).tab = s.tab := rfl
@[simp] theorem State.dropPending_bm (s : State) (t : Nat) : (s.dropPending t).bm = s.bm := rfl
@[simp] theorem State.dropPending_es (s : State) (t : Nat) : (s.dropPending t).es = s.es := rfl
@[simp] theorem State.dropPending_rc (s : State) (t : Nat) : (s.dropPending t).rc = s.rc := rfl
@[simp] theorem State.dropPending_pu (s : State) (t : Nat) : (s.dropPending t).pu = s.pu := rfl
@[simp] theorem State.dropPending_xc (s : State) (t : Nat) : (s.dropPending t).xc = s.xc := rfl
@[simp] theorem State.dropPending_pv (s : State) (t : Nat) : (s.dropPending t).pv = s.pv := rfl
@[simp] theorem State.dropPending_re (s : State) (t : Nat) : (s.dropPending t).re = s.re := rfl
@[simp] theorem State.dropPending_bq (s : State) (t : Nat) : (s.dropPending t).bq = s.bq := rfl
@[simp] theorem State.dropPending_pending (s : State) (t : Nat) : (s.dropPending t).pending = s.pending := rfl

@[simp] theorem State.setRx_il (s : State) (r : RxState) (n : Nat) : (s.setRx r n).il = s.il := rfl
@[simp] theorem State.setRx_cfg (s : State) (r : RxState) (n : Nat) : (s.setRx r n).cfg = s.cfg := rfl
@[simp] theorem State.setRx_tb (s : State) (r : RxState) (n : Nat) : (s.setRx r n).tb = s.tb := rfl
@[simp] theorem State.setRx_ls (s : State) (r : RxState) (n : Nat) : (s.setRx r n).ls = s.ls := rfl
@[simp] theorem State.setRx_iu (s : State) (r : RxState) (n : Nat) : (s.setRx r n).iu = s.iu := rfl
@[simp] theorem State.setRx_tab (s : State) (r : RxState) (n : Nat) : (s.setRx r n).tab = s.tab := rfl
@[simp] theorem State.setRx_bm (s : State) (r : RxState) (n : Nat) : (s.setRx r n).bm = s.bm := rfl
@[simp] theorem State.setRx_es (s : State) (r : RxState) (n : Nat) : (s.setRx r n).es = s.es := rfl
@[simp] theorem State.setRx_rc (s : State) (r : RxState) (n : Nat) : (s.setRx r n).rc = s.rc := rfl
@[simp] theorem State.setRx_pu (s : State) (r : RxState) (n : Nat) : (s.setRx r n).pu = s.pu := rfl
@[simp] theorem State.setRx_pv (s : State) (r : RxState) (n : Nat) : (s.setRx r n).pv = s.pv := rfl
@[simp] theorem State.setRx_um (s : State) (r : RxState) (n : Nat) : (s.setRx r n).um = s.um := rfl
@[simp] theorem State.setRx_re (s : State) (r : RxState) (n : Nat) : (s.setRx r n).re = s.re := rfl
@[simp] theorem State.setRx_bq (s : State) (r : RxState) (n : Nat) : (s.setRx r n).bq = s.bq := rfl
@[simp] theorem State.setRx_pending (s : State) (r : RxState) (n : Nat) : (s.setRx r n).pending = s.pending := rfl

@[simp] theorem State.release_il (s : State) (d : Desc) (o : ReleaseOutcome) : (s.release d o).il = s.il := rfl
@[simp] theorem State.release_cfg (s : State) (d : Desc) (o : ReleaseOutcome) : (s.release d o).cfg = s.cfg := rfl
@[simp] theorem State.release_tb (s : State) (d : Desc) (o : ReleaseOutcome) : (s.release d o).tb = s.tb := rfl
@[simp] theorem State.release_ls (s : State) (d : Desc) (o : ReleaseOutcome) : (s.release d o).ls = s.ls := rfl
@[simp] theorem State.release_iu (s : State) (d : Desc) (o : ReleaseOutcome) : (s.release d o).iu = s.iu := rfl
@[simp] theorem State.release_tab (s : State) (d : Desc) (o : ReleaseOutcome) : (s.release d o).tab = s.tab := rfl
@[simp] theorem State.release_es (s : State) (d : Desc) (o : ReleaseOutcome) : (s.release d o).es = s.es := rfl
@[simp] theorem State.release_rc (s : State) (d : Desc) (o : ReleaseOutcome) : (s.release d o).rc = s.rc := rfl
@[simp] theorem State.release_pu (s : State) (d : Desc) (o : ReleaseOutcome) : (s.release d o).pu = s.pu := rfl
@[simp] theorem State.release_xc (s : State) (d : Desc) (o : ReleaseOutcome) : (s.release d o).xc = s.xc := rfl
@[simp] theorem State.release_pv (s : State) (d : Desc) (o : ReleaseOutcome) : (s.release d o).pv = s.pv := rfl
@[simp] theorem State.release_um (s : State) (d : Desc) (o : ReleaseOutcome) : (s.release d o).um = s.um := rfl
@[simp] theorem State.release_re (s : State) (d : Desc) (o : ReleaseOutcome) : (s.release d o).re = s.re := rfl
@[simp] theorem State.release_bq (s : State) (d : Desc) (o : ReleaseOutcome) : (s.release d o).bq = s.bq := rfl
@[simp] theorem State.release_pending (s : State) (d : Desc) (o : ReleaseOutcome) : (s.release d o).pending = s.pending := rfl

/-! ## Reads after an update -/

theorem State.link_setLink (s : State) (p q : Nat) (l : PortLink) :
    (s.setLink p l).link q = if q = p then l else s.link q := Tab.read_write ..

theorem State.intake_setIntake (s : State) (p q : Nat) (i : PortIntake) :
    (s.setIntake p i).intake q = if q = p then i else s.intake q := Tab.read_write ..

theorem State.tx_setTx (s : State) (p q : Nat) (x : PortTx) :
    (s.setTx p x).tx q = if q = p then x else s.tx q := Tab.read_write ..

theorem State.queue_setQueue (s : State) (q r : Nat) (ds : List Desc) :
    (s.setQueue q ds).queue r = if r = q then ds else s.queue r := Tab.read_write ..

theorem State.hold_setHold (s : State) (p q : Nat) (h : PortHold) :
    (s.setHold p h).hold q = if q = p then h else s.hold q := Tab.read_write ..

theorem State.binding_setBinding (s : State) (i j : Nat) (b : Binding) :
    (s.setBinding i b).binding j = if j = i then b else s.binding j := Tab.read_write ..

theorem State.borrow_setBorrow (s : State) (k j : Nat) (b : BorrowRecord) :
    (s.setBorrow k b).borrow j = if j = k then b else s.borrow j := Tab.read_write ..

theorem State.lend_setLend (s : State) (k j : Nat) (l : LendRecord) :
    (s.setLend k l).lend j = if j = k then some l else s.lend j := Tab.find?_put ..

theorem State.lend_dropLend (s : State) (k j : Nat) :
    (s.dropLend k).lend j = if j = k then none else s.lend j := Tab.find?_drop ..

theorem State.peer_setPeer (s : State) (k j : Nat) (r : PeerRecord) :
    (s.setPeer k r).peer j = if j = k then r else s.peer j := Tab.read_write ..

theorem State.active_setActive (s : State) (t u : Nat) (v : Usage) :
    (s.setActive t v).active u = if u = t then v else s.active u := Tab.read_write ..

theorem State.pendingSet_dropPending (s : State) (t u : Nat) :
    (s.dropPending t).pendingSet u = if u = t then none else s.pendingSet u := Tab.find?_drop ..

@[simp] theorem State.setRate_state (s : State) (r : RateState) : (s.setRate r).re.state = r := rfl

/-! ## Reads that an update leaves alone -/

@[simp] theorem State.setLink_reads (s : State) (p : Nat) (l : PortLink) (j : Nat) :
    (s.setLink p l).intake j = s.intake j ∧ (s.setLink p l).tx j = s.tx j ∧ (s.setLink p l).queue j = s.queue j ∧
    (s.setLink p l).hold j = s.hold j ∧ (s.setLink p l).binding j = s.binding j ∧ (s.setLink p l).borrow j =
    s.borrow j ∧ (s.setLink p l).lend j = s.lend j ∧ (s.setLink p l).peer j = s.peer j ∧ (s.setLink p l).active j
    = s.active j ∧ (s.setLink p l).pendingSet j = s.pendingSet j ∧ (s.setLink p l).cellsOf j = s.cellsOf j ∧
    (s.setLink p l).inUse j = s.inUse j :=
  ⟨rfl, rfl, rfl, rfl, rfl, rfl, rfl, rfl, rfl, rfl, rfl, rfl⟩

@[simp] theorem State.setIntake_reads (s : State) (p : Nat) (i : PortIntake) (j : Nat) :
    (s.setIntake p i).link j = s.link j ∧ (s.setIntake p i).live j = s.live j ∧ (s.setIntake p i).tx j = s.tx j ∧
    (s.setIntake p i).queue j = s.queue j ∧ (s.setIntake p i).hold j = s.hold j ∧ (s.setIntake p i).binding j =
    s.binding j ∧ (s.setIntake p i).borrow j = s.borrow j ∧ (s.setIntake p i).lend j = s.lend j ∧ (s.setIntake p
    i).peer j = s.peer j ∧ (s.setIntake p i).active j = s.active j ∧ (s.setIntake p i).pendingSet j = s.pendingSet
    j ∧ (s.setIntake p i).cellsOf j = s.cellsOf j ∧ (s.setIntake p i).inUse j = s.inUse j :=
  ⟨rfl, rfl, rfl, rfl, rfl, rfl, rfl, rfl, rfl, rfl, rfl, rfl, rfl⟩

@[simp] theorem State.setTx_reads (s : State) (p : Nat) (x : PortTx) (j : Nat) :
    (s.setTx p x).link j = s.link j ∧ (s.setTx p x).live j = s.live j ∧ (s.setTx p x).intake j = s.intake j ∧
    (s.setTx p x).hold j = s.hold j ∧ (s.setTx p x).binding j = s.binding j ∧ (s.setTx p x).borrow j = s.borrow j
    ∧ (s.setTx p x).lend j = s.lend j ∧ (s.setTx p x).peer j = s.peer j ∧ (s.setTx p x).active j = s.active j ∧
    (s.setTx p x).pendingSet j = s.pendingSet j ∧ (s.setTx p x).cellsOf j = s.cellsOf j ∧ (s.setTx p x).inUse j =
    s.inUse j ∧ (s.setTx p x).queue j = s.queue j :=
  ⟨rfl, rfl, rfl, rfl, rfl, rfl, rfl, rfl, rfl, rfl, rfl, rfl, rfl⟩

@[simp] theorem State.setQueue_reads (s : State) (q : Nat) (ds : List Desc) (j : Nat) :
    (s.setQueue q ds).link j = s.link j ∧ (s.setQueue q ds).live j = s.live j ∧ (s.setQueue q ds).intake j =
    s.intake j ∧ (s.setQueue q ds).hold j = s.hold j ∧ (s.setQueue q ds).binding j = s.binding j ∧ (s.setQueue q
    ds).borrow j = s.borrow j ∧ (s.setQueue q ds).lend j = s.lend j ∧ (s.setQueue q ds).peer j = s.peer j ∧
    (s.setQueue q ds).active j = s.active j ∧ (s.setQueue q ds).pendingSet j = s.pendingSet j ∧ (s.setQueue q
    ds).cellsOf j = s.cellsOf j ∧ (s.setQueue q ds).inUse j = s.inUse j ∧ (s.setQueue q ds).tx j = s.tx j :=
  ⟨rfl, rfl, rfl, rfl, rfl, rfl, rfl, rfl, rfl, rfl, rfl, rfl, rfl⟩

@[simp] theorem State.setHold_reads (s : State) (p : Nat) (h : PortHold) (j : Nat) :
    (s.setHold p h).link j = s.link j ∧ (s.setHold p h).live j = s.live j ∧ (s.setHold p h).intake j = s.intake j
    ∧ (s.setHold p h).tx j = s.tx j ∧ (s.setHold p h).queue j = s.queue j ∧ (s.setHold p h).binding j = s.binding
    j ∧ (s.setHold p h).borrow j = s.borrow j ∧ (s.setHold p h).lend j = s.lend j ∧ (s.setHold p h).peer j =
    s.peer j ∧ (s.setHold p h).active j = s.active j ∧ (s.setHold p h).pendingSet j = s.pendingSet j ∧ (s.setHold
    p h).cellsOf j = s.cellsOf j ∧ (s.setHold p h).inUse j = s.inUse j :=
  ⟨rfl, rfl, rfl, rfl, rfl, rfl, rfl, rfl, rfl, rfl, rfl, rfl, rfl⟩

@[simp] theorem State.setBinding_reads (s : State) (i : Nat) (b : Binding) (j : Nat) :
    (s.setBinding i b).link j = s.link j ∧ (s.setBinding i b).live j = s.live j ∧ (s.setBinding i b).intake j =
    s.intake j ∧ (s.setBinding i b).tx j = s.tx j ∧ (s.setBinding i b).queue j = s.queue j ∧ (s.setBinding i
    b).hold j = s.hold j ∧ (s.setBinding i b).peer j = s.peer j ∧ (s.setBinding i b).active j = s.active j ∧
    (s.setBinding i b).pendingSet j = s.pendingSet j ∧ (s.setBinding i b).cellsOf j = s.cellsOf j ∧ (s.setBinding
    i b).inUse j = s.inUse j ∧ (s.setBinding i b).borrow j = s.borrow j ∧ (s.setBinding i b).lend j = s.lend j :=
  ⟨rfl, rfl, rfl, rfl, rfl, rfl, rfl, rfl, rfl, rfl, rfl, rfl, rfl⟩

@[simp] theorem State.setBorrow_reads (s : State) (k : Nat) (b : BorrowRecord) (j : Nat) :
    (s.setBorrow k b).link j = s.link j ∧ (s.setBorrow k b).live j = s.live j ∧ (s.setBorrow k b).intake j =
    s.intake j ∧ (s.setBorrow k b).tx j = s.tx j ∧ (s.setBorrow k b).queue j = s.queue j ∧ (s.setBorrow k b).hold
    j = s.hold j ∧ (s.setBorrow k b).peer j = s.peer j ∧ (s.setBorrow k b).active j = s.active j ∧ (s.setBorrow k
    b).pendingSet j = s.pendingSet j ∧ (s.setBorrow k b).cellsOf j = s.cellsOf j ∧ (s.setBorrow k b).inUse j =
    s.inUse j ∧ (s.setBorrow k b).binding j = s.binding j ∧ (s.setBorrow k b).lend j = s.lend j :=
  ⟨rfl, rfl, rfl, rfl, rfl, rfl, rfl, rfl, rfl, rfl, rfl, rfl, rfl⟩

@[simp] theorem State.setLend_reads (s : State) (k : Nat) (l : LendRecord) (j : Nat) :
    (s.setLend k l).link j = s.link j ∧ (s.setLend k l).live j = s.live j ∧ (s.setLend k l).intake j = s.intake j
    ∧ (s.setLend k l).tx j = s.tx j ∧ (s.setLend k l).queue j = s.queue j ∧ (s.setLend k l).hold j = s.hold j ∧
    (s.setLend k l).peer j = s.peer j ∧ (s.setLend k l).active j = s.active j ∧ (s.setLend k l).pendingSet j =
    s.pendingSet j ∧ (s.setLend k l).cellsOf j = s.cellsOf j ∧ (s.setLend k l).inUse j = s.inUse j ∧ (s.setLend k
    l).binding j = s.binding j ∧ (s.setLend k l).borrow j = s.borrow j :=
  ⟨rfl, rfl, rfl, rfl, rfl, rfl, rfl, rfl, rfl, rfl, rfl, rfl, rfl⟩

@[simp] theorem State.dropLend_reads (s : State) (k : Nat) (j : Nat) :
    (s.dropLend k).link j = s.link j ∧ (s.dropLend k).live j = s.live j ∧ (s.dropLend k).intake j = s.intake j ∧
    (s.dropLend k).tx j = s.tx j ∧ (s.dropLend k).queue j = s.queue j ∧ (s.dropLend k).hold j = s.hold j ∧
    (s.dropLend k).peer j = s.peer j ∧ (s.dropLend k).active j = s.active j ∧ (s.dropLend k).pendingSet j =
    s.pendingSet j ∧ (s.dropLend k).cellsOf j = s.cellsOf j ∧ (s.dropLend k).inUse j = s.inUse j ∧ (s.dropLend
    k).binding j = s.binding j ∧ (s.dropLend k).borrow j = s.borrow j :=
  ⟨rfl, rfl, rfl, rfl, rfl, rfl, rfl, rfl, rfl, rfl, rfl, rfl, rfl⟩

@[simp] theorem State.setPeer_reads (s : State) (k : Nat) (r : PeerRecord) (j : Nat) :
    (s.setPeer k r).link j = s.link j ∧ (s.setPeer k r).live j = s.live j ∧ (s.setPeer k r).intake j = s.intake j
    ∧ (s.setPeer k r).tx j = s.tx j ∧ (s.setPeer k r).queue j = s.queue j ∧ (s.setPeer k r).hold j = s.hold j ∧
    (s.setPeer k r).binding j = s.binding j ∧ (s.setPeer k r).borrow j = s.borrow j ∧ (s.setPeer k r).lend j =
    s.lend j ∧ (s.setPeer k r).active j = s.active j ∧ (s.setPeer k r).pendingSet j = s.pendingSet j ∧ (s.setPeer
    k r).cellsOf j = s.cellsOf j ∧ (s.setPeer k r).inUse j = s.inUse j :=
  ⟨rfl, rfl, rfl, rfl, rfl, rfl, rfl, rfl, rfl, rfl, rfl, rfl, rfl⟩

@[simp] theorem State.setActive_reads (s : State) (t : Nat) (u : Usage) (j : Nat) :
    (s.setActive t u).link j = s.link j ∧ (s.setActive t u).live j = s.live j ∧ (s.setActive t u).intake j =
    s.intake j ∧ (s.setActive t u).tx j = s.tx j ∧ (s.setActive t u).queue j = s.queue j ∧ (s.setActive t u).hold
    j = s.hold j ∧ (s.setActive t u).binding j = s.binding j ∧ (s.setActive t u).borrow j = s.borrow j ∧
    (s.setActive t u).lend j = s.lend j ∧ (s.setActive t u).peer j = s.peer j ∧ (s.setActive t u).cellsOf j =
    s.cellsOf j ∧ (s.setActive t u).inUse j = s.inUse j ∧ (s.setActive t u).pendingSet j = s.pendingSet j :=
  ⟨rfl, rfl, rfl, rfl, rfl, rfl, rfl, rfl, rfl, rfl, rfl, rfl, rfl⟩

@[simp] theorem State.setRate_reads (s : State) (r : RateState) (j : Nat) :
    (s.setRate r).link j = s.link j ∧ (s.setRate r).live j = s.live j ∧ (s.setRate r).intake j = s.intake j ∧
    (s.setRate r).tx j = s.tx j ∧ (s.setRate r).queue j = s.queue j ∧ (s.setRate r).hold j = s.hold j ∧ (s.setRate
    r).binding j = s.binding j ∧ (s.setRate r).borrow j = s.borrow j ∧ (s.setRate r).lend j = s.lend j ∧
    (s.setRate r).peer j = s.peer j ∧ (s.setRate r).active j = s.active j ∧ (s.setRate r).pendingSet j =
    s.pendingSet j ∧ (s.setRate r).cellsOf j = s.cellsOf j ∧ (s.setRate r).inUse j = s.inUse j :=
  ⟨rfl, rfl, rfl, rfl, rfl, rfl, rfl, rfl, rfl, rfl, rfl, rfl, rfl, rfl⟩

@[simp] theorem State.dropPending_reads (s : State) (t : Nat) (j : Nat) :
    (s.dropPending t).link j = s.link j ∧ (s.dropPending t).live j = s.live j ∧ (s.dropPending t).intake j =
    s.intake j ∧ (s.dropPending t).tx j = s.tx j ∧ (s.dropPending t).queue j = s.queue j ∧ (s.dropPending t).hold
    j = s.hold j ∧ (s.dropPending t).binding j = s.binding j ∧ (s.dropPending t).borrow j = s.borrow j ∧
    (s.dropPending t).lend j = s.lend j ∧ (s.dropPending t).peer j = s.peer j ∧ (s.dropPending t).cellsOf j =
    s.cellsOf j ∧ (s.dropPending t).inUse j = s.inUse j ∧ (s.dropPending t).active j = s.active j :=
  ⟨rfl, rfl, rfl, rfl, rfl, rfl, rfl, rfl, rfl, rfl, rfl, rfl, rfl⟩

@[simp] theorem State.setRx_reads (s : State) (r : RxState) (n : Nat) (j : Nat) :
    (s.setRx r n).link j = s.link j ∧ (s.setRx r n).live j = s.live j ∧ (s.setRx r n).intake j = s.intake j ∧
    (s.setRx r n).tx j = s.tx j ∧ (s.setRx r n).queue j = s.queue j ∧ (s.setRx r n).hold j = s.hold j ∧ (s.setRx r
    n).binding j = s.binding j ∧ (s.setRx r n).borrow j = s.borrow j ∧ (s.setRx r n).lend j = s.lend j ∧ (s.setRx
    r n).peer j = s.peer j ∧ (s.setRx r n).active j = s.active j ∧ (s.setRx r n).pendingSet j = s.pendingSet j ∧
    (s.setRx r n).cellsOf j = s.cellsOf j ∧ (s.setRx r n).inUse j = s.inUse j :=
  ⟨rfl, rfl, rfl, rfl, rfl, rfl, rfl, rfl, rfl, rfl, rfl, rfl, rfl, rfl⟩

@[simp] theorem State.release_reads (s : State) (d : Desc) (o : ReleaseOutcome) (j : Nat) :
    (s.release d o).link j = s.link j ∧ (s.release d o).live j = s.live j ∧ (s.release d o).intake j = s.intake j
    ∧ (s.release d o).tx j = s.tx j ∧ (s.release d o).queue j = s.queue j ∧ (s.release d o).hold j = s.hold j ∧
    (s.release d o).binding j = s.binding j ∧ (s.release d o).borrow j = s.borrow j ∧ (s.release d o).lend j =
    s.lend j ∧ (s.release d o).peer j = s.peer j ∧ (s.release d o).active j = s.active j ∧ (s.release d
    o).pendingSet j = s.pendingSet j :=
  ⟨rfl, rfl, rfl, rfl, rfl, rfl, rfl, rfl, rfl, rfl, rfl, rfl⟩

/-! ## Doing one thing for each of a list -/

@[simp] theorem State.each_nil (s : State) (f : State → Nat → State) : s.each [] f = s := rfl

@[simp] theorem State.each_cons (s : State) (k : Nat) (ks : List Nat) (f : State → Nat → State) :
    s.each (k :: ks) f = (f s k).each ks f := rfl

/-- What every single step keeps, the whole run keeps. -/
theorem State.each_keeps {α : Type} (g : State → α) (f : State → Nat → State) (h : ∀ s k, g (f s k) = g s) (s : State)
    (ks : List Nat) : g (s.each ks f) = g s := by
  induction ks generalizing s with
  | nil => rfl
  | cons k ks ih => rw [State.each_cons, ih, h]

/-- What every single step preserves, the whole run preserves. -/
theorem State.each_induct (P : State → Prop) (f : State → Nat → State) (ks : List Nat)
    (h : ∀ s k, k ∈ ks → P s → P (f s k)) (s : State) (hs : P s) : P (s.each ks f) := by
  induction ks generalizing s with
  | nil => exact hs
  | cons k ks ih =>
    exact ih (fun s j hj => h s j (List.mem_cons_of_mem _ hj)) _ (h s k (List.mem_cons_self ..) hs)

/-- What folding any list keeps, when every single step keeps it. -/
theorem foldl_keeps {α β : Type} (g : State → α) (f : State → β → State) (h : ∀ s b, g (f s b) = g s) (s : State)
    (bs : List β) : g (bs.foldl f s) = g s := by
  induction bs generalizing s with
  | nil => rfl
  | cons b bs ih => rw [List.foldl_cons, ih, h]

end Sys2Proof.Machine
end

