-- ==== Sys2Proof/Laws/Frames.lean ====
section
/-! SUPPORT. What each shared operation leaves alone: one lemma for each, naming every field of the state that it keeps. -/

namespace Sys2Proof.Machine

open Sys2Proof.Config

/-! ## Folds -/

@[simp] theorem State.each_il (s : State) (ks : List Nat) (f : State → Nat → State) (h : ∀ s k, (f s k).il = s.il) :
    (s.each ks f).il = s.il := State.each_keeps State.il f h s ks

@[simp] theorem foldl_il {β : Type} (s : State) (bs : List β) (f : State → β → State) (h : ∀ s b, (f s b).il = s.il) :
    (bs.foldl f s).il = s.il := foldl_keeps State.il f h s bs

@[simp] theorem State.each_cfg (s : State) (ks : List Nat) (f : State → Nat → State) (h : ∀ s k, (f s k).cfg = s.cfg) :
    (s.each ks f).cfg = s.cfg := State.each_keeps State.cfg f h s ks

@[simp] theorem foldl_cfg {β : Type} (s : State) (bs : List β) (f : State → β → State) (h : ∀ s b, (f s b).cfg = s.cfg) :
    (bs.foldl f s).cfg = s.cfg := foldl_keeps State.cfg f h s bs

@[simp] theorem State.each_tb (s : State) (ks : List Nat) (f : State → Nat → State) (h : ∀ s k, (f s k).tb = s.tb) :
    (s.each ks f).tb = s.tb := State.each_keeps State.tb f h s ks

@[simp] theorem foldl_tb {β : Type} (s : State) (bs : List β) (f : State → β → State) (h : ∀ s b, (f s b).tb = s.tb) :
    (bs.foldl f s).tb = s.tb := foldl_keeps State.tb f h s bs

@[simp] theorem State.each_ls (s : State) (ks : List Nat) (f : State → Nat → State) (h : ∀ s k, (f s k).ls = s.ls) :
    (s.each ks f).ls = s.ls := State.each_keeps State.ls f h s ks

@[simp] theorem foldl_ls {β : Type} (s : State) (bs : List β) (f : State → β → State) (h : ∀ s b, (f s b).ls = s.ls) :
    (bs.foldl f s).ls = s.ls := foldl_keeps State.ls f h s bs

@[simp] theorem State.each_iu (s : State) (ks : List Nat) (f : State → Nat → State) (h : ∀ s k, (f s k).iu = s.iu) :
    (s.each ks f).iu = s.iu := State.each_keeps State.iu f h s ks

@[simp] theorem foldl_iu {β : Type} (s : State) (bs : List β) (f : State → β → State) (h : ∀ s b, (f s b).iu = s.iu) :
    (bs.foldl f s).iu = s.iu := foldl_keeps State.iu f h s bs

@[simp] theorem State.each_tab (s : State) (ks : List Nat) (f : State → Nat → State) (h : ∀ s k, (f s k).tab = s.tab) :
    (s.each ks f).tab = s.tab := State.each_keeps State.tab f h s ks

@[simp] theorem foldl_tab {β : Type} (s : State) (bs : List β) (f : State → β → State) (h : ∀ s b, (f s b).tab = s.tab) :
    (bs.foldl f s).tab = s.tab := foldl_keeps State.tab f h s bs

@[simp] theorem State.each_bm (s : State) (ks : List Nat) (f : State → Nat → State) (h : ∀ s k, (f s k).bm = s.bm) :
    (s.each ks f).bm = s.bm := State.each_keeps State.bm f h s ks

@[simp] theorem foldl_bm {β : Type} (s : State) (bs : List β) (f : State → β → State) (h : ∀ s b, (f s b).bm = s.bm) :
    (bs.foldl f s).bm = s.bm := foldl_keeps State.bm f h s bs

@[simp] theorem State.each_es (s : State) (ks : List Nat) (f : State → Nat → State) (h : ∀ s k, (f s k).es = s.es) :
    (s.each ks f).es = s.es := State.each_keeps State.es f h s ks

@[simp] theorem foldl_es {β : Type} (s : State) (bs : List β) (f : State → β → State) (h : ∀ s b, (f s b).es = s.es) :
    (bs.foldl f s).es = s.es := foldl_keeps State.es f h s bs

@[simp] theorem State.each_rc (s : State) (ks : List Nat) (f : State → Nat → State) (h : ∀ s k, (f s k).rc = s.rc) :
    (s.each ks f).rc = s.rc := State.each_keeps State.rc f h s ks

@[simp] theorem foldl_rc {β : Type} (s : State) (bs : List β) (f : State → β → State) (h : ∀ s b, (f s b).rc = s.rc) :
    (bs.foldl f s).rc = s.rc := foldl_keeps State.rc f h s bs

@[simp] theorem State.each_pu (s : State) (ks : List Nat) (f : State → Nat → State) (h : ∀ s k, (f s k).pu = s.pu) :
    (s.each ks f).pu = s.pu := State.each_keeps State.pu f h s ks

@[simp] theorem foldl_pu {β : Type} (s : State) (bs : List β) (f : State → β → State) (h : ∀ s b, (f s b).pu = s.pu) :
    (bs.foldl f s).pu = s.pu := foldl_keeps State.pu f h s bs

@[simp] theorem State.each_xc (s : State) (ks : List Nat) (f : State → Nat → State) (h : ∀ s k, (f s k).xc = s.xc) :
    (s.each ks f).xc = s.xc := State.each_keeps State.xc f h s ks

@[simp] theorem foldl_xc {β : Type} (s : State) (bs : List β) (f : State → β → State) (h : ∀ s b, (f s b).xc = s.xc) :
    (bs.foldl f s).xc = s.xc := foldl_keeps State.xc f h s bs

@[simp] theorem State.each_pv (s : State) (ks : List Nat) (f : State → Nat → State) (h : ∀ s k, (f s k).pv = s.pv) :
    (s.each ks f).pv = s.pv := State.each_keeps State.pv f h s ks

@[simp] theorem foldl_pv {β : Type} (s : State) (bs : List β) (f : State → β → State) (h : ∀ s b, (f s b).pv = s.pv) :
    (bs.foldl f s).pv = s.pv := foldl_keeps State.pv f h s bs

@[simp] theorem State.each_um (s : State) (ks : List Nat) (f : State → Nat → State) (h : ∀ s k, (f s k).um = s.um) :
    (s.each ks f).um = s.um := State.each_keeps State.um f h s ks

@[simp] theorem foldl_um {β : Type} (s : State) (bs : List β) (f : State → β → State) (h : ∀ s b, (f s b).um = s.um) :
    (bs.foldl f s).um = s.um := foldl_keeps State.um f h s bs

@[simp] theorem State.each_re (s : State) (ks : List Nat) (f : State → Nat → State) (h : ∀ s k, (f s k).re = s.re) :
    (s.each ks f).re = s.re := State.each_keeps State.re f h s ks

@[simp] theorem foldl_re {β : Type} (s : State) (bs : List β) (f : State → β → State) (h : ∀ s b, (f s b).re = s.re) :
    (bs.foldl f s).re = s.re := foldl_keeps State.re f h s bs

@[simp] theorem State.each_bq (s : State) (ks : List Nat) (f : State → Nat → State) (h : ∀ s k, (f s k).bq = s.bq) :
    (s.each ks f).bq = s.bq := State.each_keeps State.bq f h s ks

@[simp] theorem foldl_bq {β : Type} (s : State) (bs : List β) (f : State → β → State) (h : ∀ s b, (f s b).bq = s.bq) :
    (bs.foldl f s).bq = s.bq := foldl_keeps State.bq f h s bs

@[simp] theorem State.each_pending (s : State) (ks : List Nat) (f : State → Nat → State) (h : ∀ s k, (f s k).pending = s.pending) :
    (s.each ks f).pending = s.pending := State.each_keeps State.pending f h s ks

@[simp] theorem foldl_pending {β : Type} (s : State) (bs : List β) (f : State → β → State) (h : ∀ s b, (f s b).pending = s.pending) :
    (bs.foldl f s).pending = s.pending := foldl_keeps State.pending f h s bs

/-! ## Ops.lean -/

@[simp] theorem State.mapLinks_frame (s : State) (ps : List Nat) (f : PortLink → PortLink) :
    (s.mapLinks ps f).il = s.il ∧ (s.mapLinks ps f).cfg = s.cfg ∧ (s.mapLinks ps f).tb = s.tb ∧ (s.mapLinks ps f).iu
    = s.iu ∧ (s.mapLinks ps f).tab = s.tab ∧ (s.mapLinks ps f).bm = s.bm ∧ (s.mapLinks ps f).es = s.es ∧ (s.mapLinks
    ps f).rc = s.rc ∧ (s.mapLinks ps f).pu = s.pu ∧ (s.mapLinks ps f).xc = s.xc ∧ (s.mapLinks ps f).pv = s.pv ∧
    (s.mapLinks ps f).um = s.um ∧ (s.mapLinks ps f).re = s.re ∧ (s.mapLinks ps f).bq = s.bq ∧ (s.mapLinks ps
    f).pending = s.pending := by
  induction ps generalizing s with
  | nil => simp [State.mapLinks]
  | cons k ps ih => exact ih (s.setLink k (f (s.link k)))

@[simp] theorem State.mapTx_frame (s : State) (ps : List Nat) (f : PortTx → PortTx) :
    (s.mapTx ps f).il = s.il ∧ (s.mapTx ps f).cfg = s.cfg ∧ (s.mapTx ps f).tb = s.tb ∧ (s.mapTx ps f).ls = s.ls ∧
    (s.mapTx ps f).iu = s.iu ∧ (s.mapTx ps f).tab = s.tab ∧ (s.mapTx ps f).bm = s.bm ∧ (s.mapTx ps f).rc = s.rc ∧
    (s.mapTx ps f).pu = s.pu ∧ (s.mapTx ps f).xc = s.xc ∧ (s.mapTx ps f).pv = s.pv ∧ (s.mapTx ps f).um = s.um ∧
    (s.mapTx ps f).re = s.re ∧ (s.mapTx ps f).bq = s.bq ∧ (s.mapTx ps f).pending = s.pending := by
  induction ps generalizing s with
  | nil => simp [State.mapTx]
  | cons k ps ih => exact ih (s.setTx k (f (s.tx k)))

@[simp] theorem State.mapHolds_frame (s : State) (ps : List Nat) (f : PortHold → PortHold) :
    (s.mapHolds ps f).il = s.il ∧ (s.mapHolds ps f).cfg = s.cfg ∧ (s.mapHolds ps f).tb = s.tb ∧ (s.mapHolds ps f).ls
    = s.ls ∧ (s.mapHolds ps f).iu = s.iu ∧ (s.mapHolds ps f).tab = s.tab ∧ (s.mapHolds ps f).bm = s.bm ∧ (s.mapHolds
    ps f).es = s.es ∧ (s.mapHolds ps f).pu = s.pu ∧ (s.mapHolds ps f).xc = s.xc ∧ (s.mapHolds ps f).pv = s.pv ∧
    (s.mapHolds ps f).um = s.um ∧ (s.mapHolds ps f).re = s.re ∧ (s.mapHolds ps f).bq = s.bq ∧ (s.mapHolds ps
    f).pending = s.pending := by
  induction ps generalizing s with
  | nil => simp [State.mapHolds]
  | cons k ps ih => exact ih (s.setHold k (f (s.hold k)))

@[simp] theorem State.mapBorrows_frame (s : State) (ks : List Nat) (f : BorrowRecord → BorrowRecord) :
    (s.mapBorrows ks f).il = s.il ∧ (s.mapBorrows ks f).cfg = s.cfg ∧ (s.mapBorrows ks f).tb = s.tb ∧ (s.mapBorrows
    ks f).ls = s.ls ∧ (s.mapBorrows ks f).iu = s.iu ∧ (s.mapBorrows ks f).tab = s.tab ∧ (s.mapBorrows ks f).bm =
    s.bm ∧ (s.mapBorrows ks f).es = s.es ∧ (s.mapBorrows ks f).rc = s.rc ∧ (s.mapBorrows ks f).xc = s.xc ∧
    (s.mapBorrows ks f).pv = s.pv ∧ (s.mapBorrows ks f).um = s.um ∧ (s.mapBorrows ks f).re = s.re ∧ (s.mapBorrows ks
    f).bq = s.bq ∧ (s.mapBorrows ks f).pending = s.pending := by
  induction ks generalizing s with
  | nil => simp [State.mapBorrows]
  | cons k ks ih => exact ih (s.setBorrow k (f (s.borrow k)))

@[simp] theorem State.mapPeers_frame (s : State) (ks : List Nat) (f : PeerRecord → PeerRecord) :
    (s.mapPeers ks f).il = s.il ∧ (s.mapPeers ks f).cfg = s.cfg ∧ (s.mapPeers ks f).tb = s.tb ∧ (s.mapPeers ks f).ls
    = s.ls ∧ (s.mapPeers ks f).iu = s.iu ∧ (s.mapPeers ks f).tab = s.tab ∧ (s.mapPeers ks f).bm = s.bm ∧ (s.mapPeers
    ks f).es = s.es ∧ (s.mapPeers ks f).rc = s.rc ∧ (s.mapPeers ks f).pu = s.pu ∧ (s.mapPeers ks f).xc = s.xc ∧
    (s.mapPeers ks f).um = s.um ∧ (s.mapPeers ks f).re = s.re ∧ (s.mapPeers ks f).bq = s.bq ∧ (s.mapPeers ks
    f).pending = s.pending := by
  induction ks generalizing s with
  | nil => simp [State.mapPeers]
  | cons k ks ih => exact ih (s.setPeer k (f (s.peer k)))

@[simp] theorem State.rebind_frame (s : State) (is : List Nat) (f : Nat → Binding) :
    (s.rebind is f).il = s.il ∧ (s.rebind is f).cfg = s.cfg ∧ (s.rebind is f).tb = s.tb ∧ (s.rebind is f).ls = s.ls
    ∧ (s.rebind is f).iu = s.iu ∧ (s.rebind is f).tab = s.tab ∧ (s.rebind is f).bm = s.bm ∧ (s.rebind is f).es =
    s.es ∧ (s.rebind is f).rc = s.rc ∧ (s.rebind is f).xc = s.xc ∧ (s.rebind is f).pv = s.pv ∧ (s.rebind is f).um =
    s.um ∧ (s.rebind is f).re = s.re ∧ (s.rebind is f).bq = s.bq ∧ (s.rebind is f).pending = s.pending := by
  induction is generalizing s with
  | nil => simp [State.rebind]
  | cons k is ih => exact ih (s.setBinding k (f k))

/-! ## Crossline.lean -/

@[simp] theorem State.inHand_frame (s : State) (m : Msg) :
    (s.inHand m).il = s.il ∧ (s.inHand m).cfg = s.cfg ∧ (s.inHand m).tb = s.tb ∧ (s.inHand m).ls = s.ls ∧ (s.inHand
    m).iu = s.iu ∧ (s.inHand m).tab = s.tab ∧ (s.inHand m).bm = s.bm ∧ (s.inHand m).es = s.es ∧ (s.inHand m).rc =
    s.rc ∧ (s.inHand m).pu = s.pu ∧ (s.inHand m).pv = s.pv ∧ (s.inHand m).um = s.um ∧ (s.inHand m).re = s.re ∧
    (s.inHand m).bq = s.bq ∧ (s.inHand m).pending = s.pending := by
  simp only [State.inHand]
  all_goals simp

@[simp] theorem State.askAddress_frame (s : State) :
    (s.askAddress).il = s.il ∧ (s.askAddress).cfg = s.cfg ∧ (s.askAddress).tb = s.tb ∧ (s.askAddress).ls = s.ls ∧
    (s.askAddress).iu = s.iu ∧ (s.askAddress).bm = s.bm ∧ (s.askAddress).es = s.es ∧ (s.askAddress).rc = s.rc ∧
    (s.askAddress).pu = s.pu ∧ (s.askAddress).pv = s.pv ∧ (s.askAddress).um = s.um ∧ (s.askAddress).re = s.re ∧
    (s.askAddress).bq = s.bq ∧ (s.askAddress).pending = s.pending := by
  simp only [State.askAddress]
  split
  all_goals simp

@[simp] theorem State.takeFrame_frame (s : State) :
    (s.takeFrame).il = s.il ∧ (s.takeFrame).cfg = s.cfg ∧ (s.takeFrame).tb = s.tb ∧ (s.takeFrame).ls = s.ls ∧
    (s.takeFrame).iu = s.iu ∧ (s.takeFrame).bm = s.bm ∧ (s.takeFrame).es = s.es ∧ (s.takeFrame).rc = s.rc ∧
    (s.takeFrame).pu = s.pu ∧ (s.takeFrame).pv = s.pv ∧ (s.takeFrame).um = s.um ∧ (s.takeFrame).re = s.re ∧
    (s.takeFrame).bq = s.bq ∧ (s.takeFrame).pending = s.pending := by
  simp only [State.takeFrame]
  repeat' split
  all_goals simp

@[simp] theorem State.queueUrgent_frame (s : State) (m : Msg) :
    (s.queueUrgent m).il = s.il ∧ (s.queueUrgent m).cfg = s.cfg ∧ (s.queueUrgent m).tb = s.tb ∧ (s.queueUrgent m).ls
    = s.ls ∧ (s.queueUrgent m).iu = s.iu ∧ (s.queueUrgent m).tab = s.tab ∧ (s.queueUrgent m).bm = s.bm ∧
    (s.queueUrgent m).es = s.es ∧ (s.queueUrgent m).rc = s.rc ∧ (s.queueUrgent m).pu = s.pu ∧ (s.queueUrgent m).pv =
    s.pv ∧ (s.queueUrgent m).um = s.um ∧ (s.queueUrgent m).re = s.re ∧ (s.queueUrgent m).bq = s.bq ∧ (s.queueUrgent
    m).pending = s.pending := by
  simp only [State.queueUrgent]
  all_goals simp

@[simp] theorem State.queueNormal_frame (s : State) (m : Msg) :
    (s.queueNormal m).il = s.il ∧ (s.queueNormal m).cfg = s.cfg ∧ (s.queueNormal m).tb = s.tb ∧ (s.queueNormal m).ls
    = s.ls ∧ (s.queueNormal m).iu = s.iu ∧ (s.queueNormal m).tab = s.tab ∧ (s.queueNormal m).bm = s.bm ∧
    (s.queueNormal m).es = s.es ∧ (s.queueNormal m).rc = s.rc ∧ (s.queueNormal m).pu = s.pu ∧ (s.queueNormal m).pv =
    s.pv ∧ (s.queueNormal m).um = s.um ∧ (s.queueNormal m).re = s.re ∧ (s.queueNormal m).bq = s.bq ∧ (s.queueNormal
    m).pending = s.pending := by
  simp only [State.queueNormal]
  all_goals simp

@[simp] theorem State.dropUrgent_frame (s : State) (k : Kind) (peer : Nat) :
    (s.dropUrgent k peer).il = s.il ∧ (s.dropUrgent k peer).cfg = s.cfg ∧ (s.dropUrgent k peer).tb = s.tb ∧
    (s.dropUrgent k peer).ls = s.ls ∧ (s.dropUrgent k peer).iu = s.iu ∧ (s.dropUrgent k peer).tab = s.tab ∧
    (s.dropUrgent k peer).bm = s.bm ∧ (s.dropUrgent k peer).es = s.es ∧ (s.dropUrgent k peer).rc = s.rc ∧
    (s.dropUrgent k peer).pu = s.pu ∧ (s.dropUrgent k peer).pv = s.pv ∧ (s.dropUrgent k peer).um = s.um ∧
    (s.dropUrgent k peer).re = s.re ∧ (s.dropUrgent k peer).bq = s.bq ∧ (s.dropUrgent k peer).pending = s.pending := by
  simp only [State.dropUrgent]
  all_goals simp

@[simp] theorem State.dropReturn_frame (s : State) (peer : Nat) :
    (s.dropReturn peer).il = s.il ∧ (s.dropReturn peer).cfg = s.cfg ∧ (s.dropReturn peer).tb = s.tb ∧ (s.dropReturn
    peer).ls = s.ls ∧ (s.dropReturn peer).iu = s.iu ∧ (s.dropReturn peer).tab = s.tab ∧ (s.dropReturn peer).bm =
    s.bm ∧ (s.dropReturn peer).es = s.es ∧ (s.dropReturn peer).rc = s.rc ∧ (s.dropReturn peer).pu = s.pu ∧
    (s.dropReturn peer).pv = s.pv ∧ (s.dropReturn peer).um = s.um ∧ (s.dropReturn peer).re = s.re ∧ (s.dropReturn
    peer).bq = s.bq ∧ (s.dropReturn peer).pending = s.pending := by
  simp only [State.dropReturn]
  all_goals simp

@[simp] theorem State.sendBorrow_frame (s : State) (k : Nat) (r : Reason) :
    (s.sendBorrow k r).il = s.il ∧ (s.sendBorrow k r).cfg = s.cfg ∧ (s.sendBorrow k r).tb = s.tb ∧ (s.sendBorrow k
    r).ls = s.ls ∧ (s.sendBorrow k r).iu = s.iu ∧ (s.sendBorrow k r).tab = s.tab ∧ (s.sendBorrow k r).bm = s.bm ∧
    (s.sendBorrow k r).es = s.es ∧ (s.sendBorrow k r).rc = s.rc ∧ (s.sendBorrow k r).pu = s.pu ∧ (s.sendBorrow k
    r).pv = s.pv ∧ (s.sendBorrow k r).um = s.um ∧ (s.sendBorrow k r).re = s.re ∧ (s.sendBorrow k r).bq = s.bq ∧
    (s.sendBorrow k r).pending = s.pending := by
  simp only [State.sendBorrow]
  all_goals simp

@[simp] theorem State.sendGrant_frame (s : State) (k : Nat) (r : GrantResult) :
    (s.sendGrant k r).il = s.il ∧ (s.sendGrant k r).cfg = s.cfg ∧ (s.sendGrant k r).tb = s.tb ∧ (s.sendGrant k r).ls
    = s.ls ∧ (s.sendGrant k r).iu = s.iu ∧ (s.sendGrant k r).tab = s.tab ∧ (s.sendGrant k r).bm = s.bm ∧
    (s.sendGrant k r).es = s.es ∧ (s.sendGrant k r).rc = s.rc ∧ (s.sendGrant k r).pu = s.pu ∧ (s.sendGrant k r).pv =
    s.pv ∧ (s.sendGrant k r).um = s.um ∧ (s.sendGrant k r).re = s.re ∧ (s.sendGrant k r).bq = s.bq ∧ (s.sendGrant k
    r).pending = s.pending := by
  simp only [State.sendGrant]
  repeat' split
  all_goals simp

@[simp] theorem State.sendWithdraw_frame (s : State) (k : Nat) (r : WithdrawReason) :
    (s.sendWithdraw k r).il = s.il ∧ (s.sendWithdraw k r).cfg = s.cfg ∧ (s.sendWithdraw k r).tb = s.tb ∧
    (s.sendWithdraw k r).ls = s.ls ∧ (s.sendWithdraw k r).iu = s.iu ∧ (s.sendWithdraw k r).tab = s.tab ∧
    (s.sendWithdraw k r).bm = s.bm ∧ (s.sendWithdraw k r).es = s.es ∧ (s.sendWithdraw k r).rc = s.rc ∧
    (s.sendWithdraw k r).pu = s.pu ∧ (s.sendWithdraw k r).pv = s.pv ∧ (s.sendWithdraw k r).um = s.um ∧
    (s.sendWithdraw k r).re = s.re ∧ (s.sendWithdraw k r).bq = s.bq ∧ (s.sendWithdraw k r).pending = s.pending := by
  simp only [State.sendWithdraw]
  all_goals simp

@[simp] theorem State.sendReturn_frame (s : State) (k : Nat) :
    (s.sendReturn k).il = s.il ∧ (s.sendReturn k).cfg = s.cfg ∧ (s.sendReturn k).tb = s.tb ∧ (s.sendReturn k).ls =
    s.ls ∧ (s.sendReturn k).iu = s.iu ∧ (s.sendReturn k).tab = s.tab ∧ (s.sendReturn k).bm = s.bm ∧ (s.sendReturn
    k).es = s.es ∧ (s.sendReturn k).rc = s.rc ∧ (s.sendReturn k).pu = s.pu ∧ (s.sendReturn k).pv = s.pv ∧
    (s.sendReturn k).um = s.um ∧ (s.sendReturn k).re = s.re ∧ (s.sendReturn k).bq = s.bq ∧ (s.sendReturn k).pending
    = s.pending := by
  simp only [State.sendReturn]
  all_goals simp

@[simp] theorem State.queueLevel_frame (s : State) :
    (s.queueLevel).il = s.il ∧ (s.queueLevel).cfg = s.cfg ∧ (s.queueLevel).tb = s.tb ∧ (s.queueLevel).ls = s.ls ∧
    (s.queueLevel).iu = s.iu ∧ (s.queueLevel).tab = s.tab ∧ (s.queueLevel).bm = s.bm ∧ (s.queueLevel).es = s.es ∧
    (s.queueLevel).rc = s.rc ∧ (s.queueLevel).pu = s.pu ∧ (s.queueLevel).pv = s.pv ∧ (s.queueLevel).um = s.um ∧
    (s.queueLevel).re = s.re ∧ (s.queueLevel).bq = s.bq ∧ (s.queueLevel).pending = s.pending := by
  simp only [State.queueLevel]
  repeat' split
  all_goals simp

@[simp] theorem State.ownerSent_frame (s : State) (h : Hand) :
    (s.ownerSent h).il = s.il ∧ (s.ownerSent h).cfg = s.cfg ∧ (s.ownerSent h).tb = s.tb ∧ (s.ownerSent h).ls = s.ls
    ∧ (s.ownerSent h).iu = s.iu ∧ (s.ownerSent h).bm = s.bm ∧ (s.ownerSent h).es = s.es ∧ (s.ownerSent h).rc = s.rc
    ∧ (s.ownerSent h).pu = s.pu ∧ (s.ownerSent h).pv = s.pv ∧ (s.ownerSent h).um = s.um ∧ (s.ownerSent h).re = s.re
    ∧ (s.ownerSent h).bq = s.bq ∧ (s.ownerSent h).pending = s.pending := by
  simp only [State.ownerSent]
  repeat' split
  all_goals simp

@[simp] theorem State.ownerDiscarded_frame (s : State) (h : Hand) :
    (s.ownerDiscarded h).il = s.il ∧ (s.ownerDiscarded h).cfg = s.cfg ∧ (s.ownerDiscarded h).tb = s.tb ∧
    (s.ownerDiscarded h).ls = s.ls ∧ (s.ownerDiscarded h).iu = s.iu ∧ (s.ownerDiscarded h).bm = s.bm ∧
    (s.ownerDiscarded h).es = s.es ∧ (s.ownerDiscarded h).rc = s.rc ∧ (s.ownerDiscarded h).pu = s.pu ∧
    (s.ownerDiscarded h).xc = s.xc ∧ (s.ownerDiscarded h).pv = s.pv ∧ (s.ownerDiscarded h).um = s.um ∧
    (s.ownerDiscarded h).re = s.re ∧ (s.ownerDiscarded h).bq = s.bq ∧ (s.ownerDiscarded h).pending = s.pending := by
  simp only [State.ownerDiscarded]
  repeat' split
  all_goals simp

@[simp] theorem State.emptyHand_frame (s : State) :
    (s.emptyHand).il = s.il ∧ (s.emptyHand).cfg = s.cfg ∧ (s.emptyHand).tb = s.tb ∧ (s.emptyHand).ls = s.ls ∧
    (s.emptyHand).iu = s.iu ∧ (s.emptyHand).tab = s.tab ∧ (s.emptyHand).bm = s.bm ∧ (s.emptyHand).es = s.es ∧
    (s.emptyHand).rc = s.rc ∧ (s.emptyHand).pu = s.pu ∧ (s.emptyHand).pv = s.pv ∧ (s.emptyHand).um = s.um ∧
    (s.emptyHand).re = s.re ∧ (s.emptyHand).bq = s.bq ∧ (s.emptyHand).pending = s.pending := by
  simp only [State.emptyHand]
  all_goals simp

@[simp] theorem State.discardHand_frame (s : State) :
    (s.discardHand).il = s.il ∧ (s.discardHand).cfg = s.cfg ∧ (s.discardHand).tb = s.tb ∧ (s.discardHand).ls = s.ls
    ∧ (s.discardHand).iu = s.iu ∧ (s.discardHand).bm = s.bm ∧ (s.discardHand).es = s.es ∧ (s.discardHand).rc = s.rc
    ∧ (s.discardHand).pu = s.pu ∧ (s.discardHand).pv = s.pv ∧ (s.discardHand).um = s.um ∧ (s.discardHand).re = s.re
    ∧ (s.discardHand).bq = s.bq ∧ (s.discardHand).pending = s.pending := by
  simp only [State.discardHand]
  repeat' split
  all_goals simp

@[simp] theorem State.failAttempt_frame (s : State) :
    (s.failAttempt).il = s.il ∧ (s.failAttempt).cfg = s.cfg ∧ (s.failAttempt).tb = s.tb ∧ (s.failAttempt).ls = s.ls
    ∧ (s.failAttempt).iu = s.iu ∧ (s.failAttempt).bm = s.bm ∧ (s.failAttempt).es = s.es ∧ (s.failAttempt).rc = s.rc
    ∧ (s.failAttempt).pu = s.pu ∧ (s.failAttempt).pv = s.pv ∧ (s.failAttempt).um = s.um ∧ (s.failAttempt).re = s.re
    ∧ (s.failAttempt).bq = s.bq ∧ (s.failAttempt).pending = s.pending := by
  simp only [State.failAttempt]
  repeat' split
  all_goals simp

@[simp] theorem State.lineError_frame (s : State) :
    (s.lineError).il = s.il ∧ (s.lineError).cfg = s.cfg ∧ (s.lineError).tb = s.tb ∧ (s.lineError).ls = s.ls ∧
    (s.lineError).iu = s.iu ∧ (s.lineError).tab = s.tab ∧ (s.lineError).bm = s.bm ∧ (s.lineError).es = s.es ∧
    (s.lineError).rc = s.rc ∧ (s.lineError).pu = s.pu ∧ (s.lineError).pv = s.pv ∧ (s.lineError).um = s.um ∧
    (s.lineError).re = s.re ∧ (s.lineError).bq = s.bq ∧ (s.lineError).pending = s.pending := by
  simp only [State.lineError]
  all_goals simp

@[simp] theorem State.offerNotice_frame (s : State) (n : Notice) :
    (s.offerNotice n).il = s.il ∧ (s.offerNotice n).cfg = s.cfg ∧ (s.offerNotice n).tb = s.tb ∧ (s.offerNotice n).ls
    = s.ls ∧ (s.offerNotice n).iu = s.iu ∧ (s.offerNotice n).tab = s.tab ∧ (s.offerNotice n).bm = s.bm ∧
    (s.offerNotice n).es = s.es ∧ (s.offerNotice n).rc = s.rc ∧ (s.offerNotice n).pu = s.pu ∧ (s.offerNotice n).pv =
    s.pv ∧ (s.offerNotice n).um = s.um ∧ (s.offerNotice n).re = s.re ∧ (s.offerNotice n).bq = s.bq ∧ (s.offerNotice
    n).pending = s.pending := by
  simp only [State.offerNotice]
  repeat' split
  all_goals simp

@[simp] theorem State.filterFrame_frame (s : State) (sender h1 : Nat) (payload : List Word) :
    (s.filterFrame sender h1 payload).il = s.il ∧ (s.filterFrame sender h1 payload).cfg = s.cfg ∧ (s.filterFrame
    sender h1 payload).tb = s.tb ∧ (s.filterFrame sender h1 payload).ls = s.ls ∧ (s.filterFrame sender h1
    payload).iu = s.iu ∧ (s.filterFrame sender h1 payload).tab = s.tab ∧ (s.filterFrame sender h1 payload).bm = s.bm
    ∧ (s.filterFrame sender h1 payload).es = s.es ∧ (s.filterFrame sender h1 payload).rc = s.rc ∧ (s.filterFrame
    sender h1 payload).pu = s.pu ∧ (s.filterFrame sender h1 payload).pv = s.pv ∧ (s.filterFrame sender h1
    payload).um = s.um ∧ (s.filterFrame sender h1 payload).re = s.re ∧ (s.filterFrame sender h1 payload).bq = s.bq ∧
    (s.filterFrame sender h1 payload).pending = s.pending := by
  simp only [State.filterFrame]
  repeat' split
  all_goals simp

@[simp] theorem State.noteDuplicate_frame (s : State) (sender h1 : Nat) :
    (s.noteDuplicate sender h1).il = s.il ∧ (s.noteDuplicate sender h1).cfg = s.cfg ∧ (s.noteDuplicate sender h1).tb
    = s.tb ∧ (s.noteDuplicate sender h1).ls = s.ls ∧ (s.noteDuplicate sender h1).iu = s.iu ∧ (s.noteDuplicate sender
    h1).bm = s.bm ∧ (s.noteDuplicate sender h1).es = s.es ∧ (s.noteDuplicate sender h1).rc = s.rc ∧ (s.noteDuplicate
    sender h1).pu = s.pu ∧ (s.noteDuplicate sender h1).pv = s.pv ∧ (s.noteDuplicate sender h1).um = s.um ∧
    (s.noteDuplicate sender h1).re = s.re ∧ (s.noteDuplicate sender h1).bq = s.bq ∧ (s.noteDuplicate sender
    h1).pending = s.pending := by
  simp only [State.noteDuplicate]
  repeat' split
  all_goals simp

@[simp] theorem State.frameComplete_frame (s : State) (ws : List Word) :
    (s.frameComplete ws).il = s.il ∧ (s.frameComplete ws).cfg = s.cfg ∧ (s.frameComplete ws).tb = s.tb ∧
    (s.frameComplete ws).ls = s.ls ∧ (s.frameComplete ws).iu = s.iu ∧ (s.frameComplete ws).bm = s.bm ∧
    (s.frameComplete ws).es = s.es ∧ (s.frameComplete ws).rc = s.rc ∧ (s.frameComplete ws).pu = s.pu ∧
    (s.frameComplete ws).pv = s.pv ∧ (s.frameComplete ws).um = s.um ∧ (s.frameComplete ws).re = s.re ∧
    (s.frameComplete ws).bq = s.bq ∧ (s.frameComplete ws).pending = s.pending := by
  simp only [State.frameComplete]
  repeat' split
  all_goals simp

@[simp] theorem State.firstSync_frame (s : State) :
    (s.firstSync).il = s.il ∧ (s.firstSync).cfg = s.cfg ∧ (s.firstSync).tb = s.tb ∧ (s.firstSync).ls = s.ls ∧
    (s.firstSync).iu = s.iu ∧ (s.firstSync).tab = s.tab ∧ (s.firstSync).bm = s.bm ∧ (s.firstSync).es = s.es ∧
    (s.firstSync).rc = s.rc ∧ (s.firstSync).pu = s.pu ∧ (s.firstSync).pv = s.pv ∧ (s.firstSync).um = s.um ∧
    (s.firstSync).re = s.re ∧ (s.firstSync).bq = s.bq ∧ (s.firstSync).pending = s.pending := by
  simp only [State.firstSync]
  all_goals simp

@[simp] theorem State.acquire_frame (s : State) :
    (s.acquire).il = s.il ∧ (s.acquire).cfg = s.cfg ∧ (s.acquire).tb = s.tb ∧ (s.acquire).ls = s.ls ∧ (s.acquire).iu
    = s.iu ∧ (s.acquire).tab = s.tab ∧ (s.acquire).bm = s.bm ∧ (s.acquire).es = s.es ∧ (s.acquire).rc = s.rc ∧
    (s.acquire).pu = s.pu ∧ (s.acquire).pv = s.pv ∧ (s.acquire).um = s.um ∧ (s.acquire).re = s.re ∧ (s.acquire).bq =
    s.bq ∧ (s.acquire).pending = s.pending := by
  simp only [State.acquire]
  all_goals simp

@[simp] theorem State.frameFails_frame (s : State) (r : RxState) (fill : Nat) :
    (s.frameFails r fill).il = s.il ∧ (s.frameFails r fill).cfg = s.cfg ∧ (s.frameFails r fill).tb = s.tb ∧
    (s.frameFails r fill).ls = s.ls ∧ (s.frameFails r fill).iu = s.iu ∧ (s.frameFails r fill).tab = s.tab ∧
    (s.frameFails r fill).bm = s.bm ∧ (s.frameFails r fill).es = s.es ∧ (s.frameFails r fill).rc = s.rc ∧
    (s.frameFails r fill).pu = s.pu ∧ (s.frameFails r fill).pv = s.pv ∧ (s.frameFails r fill).um = s.um ∧
    (s.frameFails r fill).re = s.re ∧ (s.frameFails r fill).bq = s.bq ∧ (s.frameFails r fill).pending = s.pending := by
  simp only [State.frameFails]
  all_goals simp

@[simp] theorem State.takeFrameWord_frame (s : State) (ws : List Word) (d : Word) :
    (s.takeFrameWord ws d).il = s.il ∧ (s.takeFrameWord ws d).cfg = s.cfg ∧ (s.takeFrameWord ws d).tb = s.tb ∧
    (s.takeFrameWord ws d).ls = s.ls ∧ (s.takeFrameWord ws d).iu = s.iu ∧ (s.takeFrameWord ws d).bm = s.bm ∧
    (s.takeFrameWord ws d).es = s.es ∧ (s.takeFrameWord ws d).rc = s.rc ∧ (s.takeFrameWord ws d).pu = s.pu ∧
    (s.takeFrameWord ws d).pv = s.pv ∧ (s.takeFrameWord ws d).um = s.um ∧ (s.takeFrameWord ws d).re = s.re ∧
    (s.takeFrameWord ws d).bq = s.bq ∧ (s.takeFrameWord ws d).pending = s.pending := by
  simp only [State.takeFrameWord]
  repeat' split
  all_goals simp

@[simp] theorem State.rxWord_frame (s : State) (w : LineWord) :
    (s.rxWord w).il = s.il ∧ (s.rxWord w).cfg = s.cfg ∧ (s.rxWord w).tb = s.tb ∧ (s.rxWord w).ls = s.ls ∧ (s.rxWord
    w).iu = s.iu ∧ (s.rxWord w).bm = s.bm ∧ (s.rxWord w).es = s.es ∧ (s.rxWord w).rc = s.rc ∧ (s.rxWord w).pu = s.pu
    ∧ (s.rxWord w).pv = s.pv ∧ (s.rxWord w).um = s.um ∧ (s.rxWord w).re = s.re ∧ (s.rxWord w).bq = s.bq ∧ (s.rxWord
    w).pending = s.pending := by
  simp only [State.rxWord]
  repeat' split
  all_goals simp

@[simp] theorem State.rxWords_frame (s : State) (ws : List LineWord) :
    (s.rxWords ws).il = s.il ∧ (s.rxWords ws).cfg = s.cfg ∧ (s.rxWords ws).tb = s.tb ∧ (s.rxWords ws).ls = s.ls ∧
    (s.rxWords ws).iu = s.iu ∧ (s.rxWords ws).bm = s.bm ∧ (s.rxWords ws).es = s.es ∧ (s.rxWords ws).rc = s.rc ∧
    (s.rxWords ws).pu = s.pu ∧ (s.rxWords ws).pv = s.pv ∧ (s.rxWords ws).um = s.um ∧ (s.rxWords ws).re = s.re ∧
    (s.rxWords ws).bq = s.bq ∧ (s.rxWords ws).pending = s.pending := by
  simp only [State.rxWords]
  repeat' split
  all_goals simp

@[simp] theorem State.beginAttempt_frame (s : State) (h : Hand) :
    (s.beginAttempt h).il = s.il ∧ (s.beginAttempt h).cfg = s.cfg ∧ (s.beginAttempt h).tb = s.tb ∧ (s.beginAttempt
    h).ls = s.ls ∧ (s.beginAttempt h).iu = s.iu ∧ (s.beginAttempt h).tab = s.tab ∧ (s.beginAttempt h).bm = s.bm ∧
    (s.beginAttempt h).es = s.es ∧ (s.beginAttempt h).rc = s.rc ∧ (s.beginAttempt h).pu = s.pu ∧ (s.beginAttempt
    h).pv = s.pv ∧ (s.beginAttempt h).um = s.um ∧ (s.beginAttempt h).re = s.re ∧ (s.beginAttempt h).bq = s.bq ∧
    (s.beginAttempt h).pending = s.pending := by
  simp only [State.beginAttempt]
  repeat' split
  all_goals simp

@[simp] theorem State.resolveClaim_frame (s : State) (h : Hand) (read : LineWord) :
    (s.resolveClaim h read).il = s.il ∧ (s.resolveClaim h read).cfg = s.cfg ∧ (s.resolveClaim h read).tb = s.tb ∧
    (s.resolveClaim h read).ls = s.ls ∧ (s.resolveClaim h read).iu = s.iu ∧ (s.resolveClaim h read).bm = s.bm ∧
    (s.resolveClaim h read).es = s.es ∧ (s.resolveClaim h read).rc = s.rc ∧ (s.resolveClaim h read).pu = s.pu ∧
    (s.resolveClaim h read).pv = s.pv ∧ (s.resolveClaim h read).um = s.um ∧ (s.resolveClaim h read).re = s.re ∧
    (s.resolveClaim h read).bq = s.bq ∧ (s.resolveClaim h read).pending = s.pending := by
  simp only [State.resolveClaim]
  repeat' split
  all_goals simp

@[simp] theorem State.startFrame_frame (s : State) (h : Hand) (sync1 sync2 claim : LineWord) :
    (s.startFrame h sync1 sync2 claim).il = s.il ∧ (s.startFrame h sync1 sync2 claim).cfg = s.cfg ∧ (s.startFrame h
    sync1 sync2 claim).tb = s.tb ∧ (s.startFrame h sync1 sync2 claim).ls = s.ls ∧ (s.startFrame h sync1 sync2
    claim).iu = s.iu ∧ (s.startFrame h sync1 sync2 claim).bm = s.bm ∧ (s.startFrame h sync1 sync2 claim).es = s.es ∧
    (s.startFrame h sync1 sync2 claim).rc = s.rc ∧ (s.startFrame h sync1 sync2 claim).pu = s.pu ∧ (s.startFrame h
    sync1 sync2 claim).pv = s.pv ∧ (s.startFrame h sync1 sync2 claim).um = s.um ∧ (s.startFrame h sync1 sync2
    claim).re = s.re ∧ (s.startFrame h sync1 sync2 claim).bq = s.bq ∧ (s.startFrame h sync1 sync2 claim).pending =
    s.pending := by
  simp only [State.startFrame]
  repeat' split
  all_goals simp

/-! ## Egress.lean -/

@[simp] theorem State.select_frame (s : State) (p : Nat) :
    (s.select p).il = s.il ∧ (s.select p).cfg = s.cfg ∧ (s.select p).tb = s.tb ∧ (s.select p).ls = s.ls ∧ (s.select
    p).iu = s.iu ∧ (s.select p).tab = s.tab ∧ (s.select p).bm = s.bm ∧ (s.select p).rc = s.rc ∧ (s.select p).pu =
    s.pu ∧ (s.select p).xc = s.xc ∧ (s.select p).pv = s.pv ∧ (s.select p).um = s.um ∧ (s.select p).re = s.re ∧
    (s.select p).bq = s.bq ∧ (s.select p).pending = s.pending := by
  simp only [State.select]
  repeat' split
  all_goals simp

@[simp] theorem State.holdRequest_frame (s : State) (p time : Nat) :
    (s.holdRequest p time).il = s.il ∧ (s.holdRequest p time).cfg = s.cfg ∧ (s.holdRequest p time).tb = s.tb ∧
    (s.holdRequest p time).ls = s.ls ∧ (s.holdRequest p time).iu = s.iu ∧ (s.holdRequest p time).tab = s.tab ∧
    (s.holdRequest p time).bm = s.bm ∧ (s.holdRequest p time).rc = s.rc ∧ (s.holdRequest p time).pu = s.pu ∧
    (s.holdRequest p time).xc = s.xc ∧ (s.holdRequest p time).pv = s.pv ∧ (s.holdRequest p time).um = s.um ∧
    (s.holdRequest p time).re = s.re ∧ (s.holdRequest p time).bq = s.bq ∧ (s.holdRequest p time).pending = s.pending := by
  simp only [State.holdRequest]
  repeat' split
  all_goals simp

@[simp] theorem State.endHold_frame (s : State) (p : Nat) :
    (s.endHold p).il = s.il ∧ (s.endHold p).cfg = s.cfg ∧ (s.endHold p).tb = s.tb ∧ (s.endHold p).ls = s.ls ∧
    (s.endHold p).iu = s.iu ∧ (s.endHold p).tab = s.tab ∧ (s.endHold p).bm = s.bm ∧ (s.endHold p).rc = s.rc ∧
    (s.endHold p).pu = s.pu ∧ (s.endHold p).xc = s.xc ∧ (s.endHold p).pv = s.pv ∧ (s.endHold p).um = s.um ∧
    (s.endHold p).re = s.re ∧ (s.endHold p).bq = s.bq ∧ (s.endHold p).pending = s.pending := by
  simp only [State.endHold]
  repeat' split
  all_goals simp

@[simp] theorem State.receivedHold_frame (s : State) (p time : Nat) :
    (s.receivedHold p time).il = s.il ∧ (s.receivedHold p time).cfg = s.cfg ∧ (s.receivedHold p time).tb = s.tb ∧
    (s.receivedHold p time).ls = s.ls ∧ (s.receivedHold p time).iu = s.iu ∧ (s.receivedHold p time).tab = s.tab ∧
    (s.receivedHold p time).bm = s.bm ∧ (s.receivedHold p time).rc = s.rc ∧ (s.receivedHold p time).pu = s.pu ∧
    (s.receivedHold p time).xc = s.xc ∧ (s.receivedHold p time).pv = s.pv ∧ (s.receivedHold p time).um = s.um ∧
    (s.receivedHold p time).re = s.re ∧ (s.receivedHold p time).bq = s.bq ∧ (s.receivedHold p time).pending =
    s.pending := by
  simp only [State.receivedHold]
  repeat' split
  all_goals simp

@[simp] theorem State.releaseFlushed_frame (s : State) (d : Desc) :
    (s.releaseFlushed d).il = s.il ∧ (s.releaseFlushed d).cfg = s.cfg ∧ (s.releaseFlushed d).tb = s.tb ∧
    (s.releaseFlushed d).ls = s.ls ∧ (s.releaseFlushed d).iu = s.iu ∧ (s.releaseFlushed d).tab = s.tab ∧
    (s.releaseFlushed d).es = s.es ∧ (s.releaseFlushed d).rc = s.rc ∧ (s.releaseFlushed d).pu = s.pu ∧
    (s.releaseFlushed d).xc = s.xc ∧ (s.releaseFlushed d).pv = s.pv ∧ (s.releaseFlushed d).um = s.um ∧
    (s.releaseFlushed d).re = s.re ∧ (s.releaseFlushed d).bq = s.bq ∧ (s.releaseFlushed d).pending = s.pending := by
  simp only [State.releaseFlushed]
  all_goals simp

@[simp] theorem State.flushQueue_frame (s : State) (q : Nat) :
    (s.flushQueue q).il = s.il ∧ (s.flushQueue q).cfg = s.cfg ∧ (s.flushQueue q).tb = s.tb ∧ (s.flushQueue q).ls =
    s.ls ∧ (s.flushQueue q).iu = s.iu ∧ (s.flushQueue q).tab = s.tab ∧ (s.flushQueue q).rc = s.rc ∧ (s.flushQueue
    q).pu = s.pu ∧ (s.flushQueue q).xc = s.xc ∧ (s.flushQueue q).pv = s.pv ∧ (s.flushQueue q).um = s.um ∧
    (s.flushQueue q).re = s.re ∧ (s.flushQueue q).bq = s.bq ∧ (s.flushQueue q).pending = s.pending := by
  simp only [State.flushQueue]
  all_goals simp

@[simp] theorem State.flushQueues_frame (s : State) (p : Nat) :
    (s.flushQueues p).il = s.il ∧ (s.flushQueues p).cfg = s.cfg ∧ (s.flushQueues p).tb = s.tb ∧ (s.flushQueues p).ls
    = s.ls ∧ (s.flushQueues p).iu = s.iu ∧ (s.flushQueues p).tab = s.tab ∧ (s.flushQueues p).rc = s.rc ∧
    (s.flushQueues p).pu = s.pu ∧ (s.flushQueues p).xc = s.xc ∧ (s.flushQueues p).pv = s.pv ∧ (s.flushQueues p).um =
    s.um ∧ (s.flushQueues p).re = s.re ∧ (s.flushQueues p).bq = s.bq ∧ (s.flushQueues p).pending = s.pending := by
  simp only [State.flushQueues]
  all_goals simp

@[simp] theorem State.truncate_frame (s : State) (p : Nat) :
    (s.truncate p).il = s.il ∧ (s.truncate p).cfg = s.cfg ∧ (s.truncate p).tb = s.tb ∧ (s.truncate p).ls = s.ls ∧
    (s.truncate p).iu = s.iu ∧ (s.truncate p).tab = s.tab ∧ (s.truncate p).es = s.es ∧ (s.truncate p).rc = s.rc ∧
    (s.truncate p).pu = s.pu ∧ (s.truncate p).xc = s.xc ∧ (s.truncate p).pv = s.pv ∧ (s.truncate p).um = s.um ∧
    (s.truncate p).re = s.re ∧ (s.truncate p).bq = s.bq ∧ (s.truncate p).pending = s.pending := by
  simp only [State.truncate]
  repeat' split
  all_goals simp

@[simp] theorem State.linkLoss_frame (s : State) (p : Nat) :
    (s.linkLoss p).il = s.il ∧ (s.linkLoss p).cfg = s.cfg ∧ (s.linkLoss p).tb = s.tb ∧ (s.linkLoss p).ls = s.ls ∧
    (s.linkLoss p).iu = s.iu ∧ (s.linkLoss p).tab = s.tab ∧ (s.linkLoss p).rc = s.rc ∧ (s.linkLoss p).pu = s.pu ∧
    (s.linkLoss p).xc = s.xc ∧ (s.linkLoss p).pv = s.pv ∧ (s.linkLoss p).um = s.um ∧ (s.linkLoss p).re = s.re ∧
    (s.linkLoss p).bq = s.bq ∧ (s.linkLoss p).pending = s.pending := by
  simp only [State.linkLoss]
  all_goals simp

@[simp] theorem State.placeCopy_frame (s : State) (d : Desc) :
    (s.placeCopy d).il = s.il ∧ (s.placeCopy d).cfg = s.cfg ∧ (s.placeCopy d).tb = s.tb ∧ (s.placeCopy d).ls = s.ls
    ∧ (s.placeCopy d).iu = s.iu ∧ (s.placeCopy d).tab = s.tab ∧ (s.placeCopy d).rc = s.rc ∧ (s.placeCopy d).pu =
    s.pu ∧ (s.placeCopy d).xc = s.xc ∧ (s.placeCopy d).pv = s.pv ∧ (s.placeCopy d).um = s.um ∧ (s.placeCopy d).re =
    s.re ∧ (s.placeCopy d).bq = s.bq ∧ (s.placeCopy d).pending = s.pending := by
  simp only [State.placeCopy]
  repeat' split
  all_goals simp

@[simp] theorem State.admitArrival_frame (s : State) (a : Arrival) :
    (s.admitArrival a).il = s.il ∧ (s.admitArrival a).cfg = s.cfg ∧ (s.admitArrival a).tb = s.tb ∧ (s.admitArrival
    a).ls = s.ls ∧ (s.admitArrival a).iu = s.iu ∧ (s.admitArrival a).tab = s.tab ∧ (s.admitArrival a).rc = s.rc ∧
    (s.admitArrival a).pu = s.pu ∧ (s.admitArrival a).xc = s.xc ∧ (s.admitArrival a).pv = s.pv ∧ (s.admitArrival
    a).um = s.um ∧ (s.admitArrival a).re = s.re ∧ (s.admitArrival a).bq = s.bq ∧ (s.admitArrival a).pending =
    s.pending := by
  simp only [State.admitArrival]
  repeat' split
  all_goals simp

/-! ## Relief.lean -/

@[simp] theorem State.reofferLend_frame (s : State) :
    (s.reofferLend).il = s.il ∧ (s.reofferLend).cfg = s.cfg ∧ (s.reofferLend).tb = s.tb ∧ (s.reofferLend).ls = s.ls
    ∧ (s.reofferLend).iu = s.iu ∧ (s.reofferLend).tab = s.tab ∧ (s.reofferLend).bm = s.bm ∧ (s.reofferLend).es =
    s.es ∧ (s.reofferLend).pu = s.pu ∧ (s.reofferLend).pv = s.pv ∧ (s.reofferLend).um = s.um ∧ (s.reofferLend).re =
    s.re ∧ (s.reofferLend).bq = s.bq ∧ (s.reofferLend).pending = s.pending := by
  simp only [State.reofferLend]
  repeat' split
  all_goals simp

@[simp] theorem State.compareHold_frame (s : State) (p : Nat) :
    (s.compareHold p).il = s.il ∧ (s.compareHold p).cfg = s.cfg ∧ (s.compareHold p).tb = s.tb ∧ (s.compareHold p).ls
    = s.ls ∧ (s.compareHold p).iu = s.iu ∧ (s.compareHold p).tab = s.tab ∧ (s.compareHold p).bm = s.bm ∧
    (s.compareHold p).pu = s.pu ∧ (s.compareHold p).xc = s.xc ∧ (s.compareHold p).pv = s.pv ∧ (s.compareHold p).um =
    s.um ∧ (s.compareHold p).re = s.re ∧ (s.compareHold p).bq = s.bq ∧ (s.compareHold p).pending = s.pending := by
  simp only [State.compareHold]
  repeat' split
  all_goals simp

@[simp] theorem State.compareHolds_frame (s : State) :
    (s.compareHolds).il = s.il ∧ (s.compareHolds).cfg = s.cfg ∧ (s.compareHolds).tb = s.tb ∧ (s.compareHolds).ls =
    s.ls ∧ (s.compareHolds).iu = s.iu ∧ (s.compareHolds).tab = s.tab ∧ (s.compareHolds).bm = s.bm ∧
    (s.compareHolds).pu = s.pu ∧ (s.compareHolds).xc = s.xc ∧ (s.compareHolds).pv = s.pv ∧ (s.compareHolds).um =
    s.um ∧ (s.compareHolds).re = s.re ∧ (s.compareHolds).bq = s.bq ∧ (s.compareHolds).pending = s.pending := by
  simp only [State.compareHolds]
  all_goals simp

@[simp] theorem State.holdFault_frame (s : State) (p : Nat) :
    (s.holdFault p).il = s.il ∧ (s.holdFault p).cfg = s.cfg ∧ (s.holdFault p).tb = s.tb ∧ (s.holdFault p).ls = s.ls
    ∧ (s.holdFault p).iu = s.iu ∧ (s.holdFault p).tab = s.tab ∧ (s.holdFault p).bm = s.bm ∧ (s.holdFault p).pu =
    s.pu ∧ (s.holdFault p).xc = s.xc ∧ (s.holdFault p).pv = s.pv ∧ (s.holdFault p).um = s.um ∧ (s.holdFault p).re =
    s.re ∧ (s.holdFault p).bq = s.bq ∧ (s.holdFault p).pending = s.pending := by
  simp only [State.holdFault]
  all_goals simp

@[simp] theorem State.evaluateStages_frame (s : State) :
    (s.evaluateStages).il = s.il ∧ (s.evaluateStages).cfg = s.cfg ∧ (s.evaluateStages).tb = s.tb ∧
    (s.evaluateStages).ls = s.ls ∧ (s.evaluateStages).iu = s.iu ∧ (s.evaluateStages).tab = s.tab ∧
    (s.evaluateStages).bm = s.bm ∧ (s.evaluateStages).es = s.es ∧ (s.evaluateStages).pu = s.pu ∧
    (s.evaluateStages).pv = s.pv ∧ (s.evaluateStages).um = s.um ∧ (s.evaluateStages).re = s.re ∧
    (s.evaluateStages).bq = s.bq ∧ (s.evaluateStages).pending = s.pending := by
  simp only [State.evaluateStages]
  repeat' split
  all_goals simp

@[simp] theorem State.evaluateTenants_frame (s : State) :
    (s.evaluateTenants).il = s.il ∧ (s.evaluateTenants).cfg = s.cfg ∧ (s.evaluateTenants).tb = s.tb ∧
    (s.evaluateTenants).ls = s.ls ∧ (s.evaluateTenants).iu = s.iu ∧ (s.evaluateTenants).tab = s.tab ∧
    (s.evaluateTenants).bm = s.bm ∧ (s.evaluateTenants).pu = s.pu ∧ (s.evaluateTenants).xc = s.xc ∧
    (s.evaluateTenants).pv = s.pv ∧ (s.evaluateTenants).um = s.um ∧ (s.evaluateTenants).re = s.re ∧
    (s.evaluateTenants).bq = s.bq ∧ (s.evaluateTenants).pending = s.pending := by
  simp only [State.evaluateTenants]
  repeat' split
  all_goals simp

@[simp] theorem State.takeChange_frame (s : State) (c : Change) :
    (s.takeChange c).il = s.il ∧ (s.takeChange c).cfg = s.cfg ∧ (s.takeChange c).tb = s.tb ∧ (s.takeChange c).ls =
    s.ls ∧ (s.takeChange c).iu = s.iu ∧ (s.takeChange c).tab = s.tab ∧ (s.takeChange c).bm = s.bm ∧ (s.takeChange
    c).pu = s.pu ∧ (s.takeChange c).pv = s.pv ∧ (s.takeChange c).um = s.um ∧ (s.takeChange c).re = s.re ∧
    (s.takeChange c).bq = s.bq ∧ (s.takeChange c).pending = s.pending := by
  simp only [State.takeChange]
  repeat' split
  all_goals simp

@[simp] theorem State.shedDecision_frame (s : State) :
    (s.shedDecision).il = s.il ∧ (s.shedDecision).cfg = s.cfg ∧ (s.shedDecision).tb = s.tb ∧ (s.shedDecision).ls =
    s.ls ∧ (s.shedDecision).iu = s.iu ∧ (s.shedDecision).tab = s.tab ∧ (s.shedDecision).bm = s.bm ∧
    (s.shedDecision).es = s.es ∧ (s.shedDecision).rc = s.rc ∧ (s.shedDecision).xc = s.xc ∧ (s.shedDecision).pv =
    s.pv ∧ (s.shedDecision).um = s.um ∧ (s.shedDecision).re = s.re ∧ (s.shedDecision).bq = s.bq ∧
    (s.shedDecision).pending = s.pending := by
  simp only [State.shedDecision]
  repeat' split
  all_goals simp

@[simp] theorem State.renewHold_frame (s : State) (p : Nat) :
    (s.renewHold p).il = s.il ∧ (s.renewHold p).cfg = s.cfg ∧ (s.renewHold p).tb = s.tb ∧ (s.renewHold p).ls = s.ls
    ∧ (s.renewHold p).iu = s.iu ∧ (s.renewHold p).tab = s.tab ∧ (s.renewHold p).bm = s.bm ∧ (s.renewHold p).pu =
    s.pu ∧ (s.renewHold p).xc = s.xc ∧ (s.renewHold p).pv = s.pv ∧ (s.renewHold p).um = s.um ∧ (s.renewHold p).re =
    s.re ∧ (s.renewHold p).bq = s.bq ∧ (s.renewHold p).pending = s.pending := by
  simp only [State.renewHold]
  all_goals simp

/-! ## PathUnit.lean -/

@[simp] theorem State.replacePaths_frame (s : State) (ending : Option Nat) (p : Nat → Binding → Bool) :
    (s.replacePaths ending p).il = s.il ∧ (s.replacePaths ending p).cfg = s.cfg ∧ (s.replacePaths ending p).tb =
    s.tb ∧ (s.replacePaths ending p).ls = s.ls ∧ (s.replacePaths ending p).iu = s.iu ∧ (s.replacePaths ending p).tab
    = s.tab ∧ (s.replacePaths ending p).bm = s.bm ∧ (s.replacePaths ending p).es = s.es ∧ (s.replacePaths ending
    p).rc = s.rc ∧ (s.replacePaths ending p).xc = s.xc ∧ (s.replacePaths ending p).pv = s.pv ∧ (s.replacePaths
    ending p).um = s.um ∧ (s.replacePaths ending p).re = s.re ∧ (s.replacePaths ending p).bq = s.bq ∧
    (s.replacePaths ending p).pending = s.pending := by
  simp only [State.replacePaths]
  all_goals simp

@[simp] theorem State.bindUnbound_frame (s : State) (k : Nat) :
    (s.bindUnbound k).il = s.il ∧ (s.bindUnbound k).cfg = s.cfg ∧ (s.bindUnbound k).tb = s.tb ∧ (s.bindUnbound k).ls
    = s.ls ∧ (s.bindUnbound k).iu = s.iu ∧ (s.bindUnbound k).tab = s.tab ∧ (s.bindUnbound k).bm = s.bm ∧
    (s.bindUnbound k).es = s.es ∧ (s.bindUnbound k).rc = s.rc ∧ (s.bindUnbound k).xc = s.xc ∧ (s.bindUnbound k).pv =
    s.pv ∧ (s.bindUnbound k).um = s.um ∧ (s.bindUnbound k).re = s.re ∧ (s.bindUnbound k).bq = s.bq ∧ (s.bindUnbound
    k).pending = s.pending := by
  simp only [State.bindUnbound]
  all_goals simp

@[simp] theorem State.request_frame (s : State) (k : Nat) (r : Reason) :
    (s.request k r).il = s.il ∧ (s.request k r).cfg = s.cfg ∧ (s.request k r).tb = s.tb ∧ (s.request k r).ls = s.ls
    ∧ (s.request k r).iu = s.iu ∧ (s.request k r).tab = s.tab ∧ (s.request k r).bm = s.bm ∧ (s.request k r).es =
    s.es ∧ (s.request k r).rc = s.rc ∧ (s.request k r).pv = s.pv ∧ (s.request k r).um = s.um ∧ (s.request k r).re =
    s.re ∧ (s.request k r).bq = s.bq ∧ (s.request k r).pending = s.pending := by
  simp only [State.request]
  all_goals simp

@[simp] theorem State.faultRequest_frame (s : State) :
    (s.faultRequest).il = s.il ∧ (s.faultRequest).cfg = s.cfg ∧ (s.faultRequest).tb = s.tb ∧ (s.faultRequest).ls =
    s.ls ∧ (s.faultRequest).iu = s.iu ∧ (s.faultRequest).tab = s.tab ∧ (s.faultRequest).bm = s.bm ∧
    (s.faultRequest).es = s.es ∧ (s.faultRequest).rc = s.rc ∧ (s.faultRequest).pv = s.pv ∧ (s.faultRequest).um =
    s.um ∧ (s.faultRequest).re = s.re ∧ (s.faultRequest).bq = s.bq ∧ (s.faultRequest).pending = s.pending := by
  simp only [State.faultRequest]
  repeat' split
  all_goals simp

@[simp] theorem State.abandonFault_frame (s : State) :
    (s.abandonFault).il = s.il ∧ (s.abandonFault).cfg = s.cfg ∧ (s.abandonFault).tb = s.tb ∧ (s.abandonFault).ls =
    s.ls ∧ (s.abandonFault).iu = s.iu ∧ (s.abandonFault).tab = s.tab ∧ (s.abandonFault).bm = s.bm ∧
    (s.abandonFault).es = s.es ∧ (s.abandonFault).rc = s.rc ∧ (s.abandonFault).xc = s.xc ∧ (s.abandonFault).pv =
    s.pv ∧ (s.abandonFault).um = s.um ∧ (s.abandonFault).re = s.re ∧ (s.abandonFault).bq = s.bq ∧
    (s.abandonFault).pending = s.pending := by
  simp only [State.abandonFault]
  repeat' split
  all_goals simp

@[simp] theorem State.freeRecord_frame (s : State) (k : Nat) :
    (s.freeRecord k).il = s.il ∧ (s.freeRecord k).cfg = s.cfg ∧ (s.freeRecord k).tb = s.tb ∧ (s.freeRecord k).ls =
    s.ls ∧ (s.freeRecord k).iu = s.iu ∧ (s.freeRecord k).tab = s.tab ∧ (s.freeRecord k).bm = s.bm ∧ (s.freeRecord
    k).es = s.es ∧ (s.freeRecord k).rc = s.rc ∧ (s.freeRecord k).pv = s.pv ∧ (s.freeRecord k).um = s.um ∧
    (s.freeRecord k).re = s.re ∧ (s.freeRecord k).bq = s.bq ∧ (s.freeRecord k).pending = s.pending := by
  simp only [State.freeRecord]
  repeat' split
  all_goals simp

@[simp] theorem State.settlePaths_frame (s : State) :
    (s.settlePaths).il = s.il ∧ (s.settlePaths).cfg = s.cfg ∧ (s.settlePaths).tb = s.tb ∧ (s.settlePaths).ls = s.ls
    ∧ (s.settlePaths).iu = s.iu ∧ (s.settlePaths).tab = s.tab ∧ (s.settlePaths).bm = s.bm ∧ (s.settlePaths).es =
    s.es ∧ (s.settlePaths).rc = s.rc ∧ (s.settlePaths).pv = s.pv ∧ (s.settlePaths).um = s.um ∧ (s.settlePaths).re =
    s.re ∧ (s.settlePaths).bq = s.bq ∧ (s.settlePaths).pending = s.pending := by
  simp only [State.settlePaths]
  all_goals simp

@[simp] theorem State.reportPaths_frame (b s : State) :
    (State.reportPaths b s).il = s.il ∧ (State.reportPaths b s).cfg = s.cfg ∧ (State.reportPaths b s).tb = s.tb ∧
    (State.reportPaths b s).ls = s.ls ∧ (State.reportPaths b s).iu = s.iu ∧ (State.reportPaths b s).tab = s.tab ∧
    (State.reportPaths b s).bm = s.bm ∧ (State.reportPaths b s).es = s.es ∧ (State.reportPaths b s).pu = s.pu ∧
    (State.reportPaths b s).pv = s.pv ∧ (State.reportPaths b s).um = s.um ∧ (State.reportPaths b s).re = s.re ∧
    (State.reportPaths b s).bq = s.bq ∧ (State.reportPaths b s).pending = s.pending := by
  simp only [State.reportPaths]
  repeat' split
  all_goals simp

@[simp] theorem State.setSole_frame (s : State) :
    (s.setSole).il = s.il ∧ (s.setSole).cfg = s.cfg ∧ (s.setSole).tb = s.tb ∧ (s.setSole).ls = s.ls ∧ (s.setSole).iu
    = s.iu ∧ (s.setSole).tab = s.tab ∧ (s.setSole).bm = s.bm ∧ (s.setSole).es = s.es ∧ (s.setSole).rc = s.rc ∧
    (s.setSole).xc = s.xc ∧ (s.setSole).pv = s.pv ∧ (s.setSole).um = s.um ∧ (s.setSole).re = s.re ∧ (s.setSole).bq =
    s.bq ∧ (s.setSole).pending = s.pending := by
  simp only [State.setSole]
  all_goals simp

@[simp] theorem State.upgrade_frame (s : State) (k : Nat) :
    (s.upgrade k).il = s.il ∧ (s.upgrade k).cfg = s.cfg ∧ (s.upgrade k).tb = s.tb ∧ (s.upgrade k).ls = s.ls ∧
    (s.upgrade k).iu = s.iu ∧ (s.upgrade k).tab = s.tab ∧ (s.upgrade k).bm = s.bm ∧ (s.upgrade k).es = s.es ∧
    (s.upgrade k).rc = s.rc ∧ (s.upgrade k).pv = s.pv ∧ (s.upgrade k).um = s.um ∧ (s.upgrade k).re = s.re ∧
    (s.upgrade k).bq = s.bq ∧ (s.upgrade k).pending = s.pending := by
  simp only [State.upgrade]
  all_goals simp

@[simp] theorem State.moveSplit_frame (s : State) (u : Nat) :
    (s.moveSplit u).il = s.il ∧ (s.moveSplit u).cfg = s.cfg ∧ (s.moveSplit u).tb = s.tb ∧ (s.moveSplit u).ls = s.ls
    ∧ (s.moveSplit u).iu = s.iu ∧ (s.moveSplit u).tab = s.tab ∧ (s.moveSplit u).bm = s.bm ∧ (s.moveSplit u).es =
    s.es ∧ (s.moveSplit u).rc = s.rc ∧ (s.moveSplit u).pv = s.pv ∧ (s.moveSplit u).um = s.um ∧ (s.moveSplit u).re =
    s.re ∧ (s.moveSplit u).bq = s.bq ∧ (s.moveSplit u).pending = s.pending := by
  simp only [State.moveSplit]
  repeat' split
  all_goals simp

@[simp] theorem State.emptyLend_frame (s : State) (k : Nat) :
    (s.emptyLend k).il = s.il ∧ (s.emptyLend k).cfg = s.cfg ∧ (s.emptyLend k).tb = s.tb ∧ (s.emptyLend k).ls = s.ls
    ∧ (s.emptyLend k).iu = s.iu ∧ (s.emptyLend k).tab = s.tab ∧ (s.emptyLend k).bm = s.bm ∧ (s.emptyLend k).es =
    s.es ∧ (s.emptyLend k).rc = s.rc ∧ (s.emptyLend k).pv = s.pv ∧ (s.emptyLend k).um = s.um ∧ (s.emptyLend k).re =
    s.re ∧ (s.emptyLend k).bq = s.bq ∧ (s.emptyLend k).pending = s.pending := by
  simp only [State.emptyLend]
  all_goals simp

@[simp] theorem State.emptyLends_frame (s : State) :
    (s.emptyLends).il = s.il ∧ (s.emptyLends).cfg = s.cfg ∧ (s.emptyLends).tb = s.tb ∧ (s.emptyLends).ls = s.ls ∧
    (s.emptyLends).iu = s.iu ∧ (s.emptyLends).tab = s.tab ∧ (s.emptyLends).bm = s.bm ∧ (s.emptyLends).es = s.es ∧
    (s.emptyLends).rc = s.rc ∧ (s.emptyLends).pv = s.pv ∧ (s.emptyLends).um = s.um ∧ (s.emptyLends).re = s.re ∧
    (s.emptyLends).bq = s.bq ∧ (s.emptyLends).pending = s.pending := by
  simp only [State.emptyLends]
  all_goals simp

@[simp] theorem State.pathsUplinkFault_frame (s : State) (u : Nat) :
    (s.pathsUplinkFault u).il = s.il ∧ (s.pathsUplinkFault u).cfg = s.cfg ∧ (s.pathsUplinkFault u).tb = s.tb ∧
    (s.pathsUplinkFault u).ls = s.ls ∧ (s.pathsUplinkFault u).iu = s.iu ∧ (s.pathsUplinkFault u).tab = s.tab ∧
    (s.pathsUplinkFault u).bm = s.bm ∧ (s.pathsUplinkFault u).es = s.es ∧ (s.pathsUplinkFault u).pv = s.pv ∧
    (s.pathsUplinkFault u).um = s.um ∧ (s.pathsUplinkFault u).re = s.re ∧ (s.pathsUplinkFault u).bq = s.bq ∧
    (s.pathsUplinkFault u).pending = s.pending := by
  simp only [State.pathsUplinkFault]
  repeat' split
  all_goals simp

@[simp] theorem State.pathsUplinkUp_frame (s : State) (u : Nat) :
    (s.pathsUplinkUp u).il = s.il ∧ (s.pathsUplinkUp u).cfg = s.cfg ∧ (s.pathsUplinkUp u).tb = s.tb ∧
    (s.pathsUplinkUp u).ls = s.ls ∧ (s.pathsUplinkUp u).iu = s.iu ∧ (s.pathsUplinkUp u).tab = s.tab ∧
    (s.pathsUplinkUp u).bm = s.bm ∧ (s.pathsUplinkUp u).es = s.es ∧ (s.pathsUplinkUp u).pv = s.pv ∧ (s.pathsUplinkUp
    u).um = s.um ∧ (s.pathsUplinkUp u).re = s.re ∧ (s.pathsUplinkUp u).bq = s.bq ∧ (s.pathsUplinkUp u).pending =
    s.pending := by
  simp only [State.pathsUplinkUp]
  all_goals simp

@[simp] theorem State.pathsCrossUp_frame (s : State) :
    (s.pathsCrossUp).il = s.il ∧ (s.pathsCrossUp).cfg = s.cfg ∧ (s.pathsCrossUp).tb = s.tb ∧ (s.pathsCrossUp).ls =
    s.ls ∧ (s.pathsCrossUp).iu = s.iu ∧ (s.pathsCrossUp).tab = s.tab ∧ (s.pathsCrossUp).bm = s.bm ∧
    (s.pathsCrossUp).es = s.es ∧ (s.pathsCrossUp).pv = s.pv ∧ (s.pathsCrossUp).um = s.um ∧ (s.pathsCrossUp).re =
    s.re ∧ (s.pathsCrossUp).bq = s.bq ∧ (s.pathsCrossUp).pending = s.pending := by
  simp only [State.pathsCrossUp]
  all_goals simp

@[simp] theorem State.endArrangements_frame (s : State) (k : Nat) :
    (s.endArrangements k).il = s.il ∧ (s.endArrangements k).cfg = s.cfg ∧ (s.endArrangements k).tb = s.tb ∧
    (s.endArrangements k).ls = s.ls ∧ (s.endArrangements k).iu = s.iu ∧ (s.endArrangements k).tab = s.tab ∧
    (s.endArrangements k).bm = s.bm ∧ (s.endArrangements k).es = s.es ∧ (s.endArrangements k).rc = s.rc ∧
    (s.endArrangements k).xc = s.xc ∧ (s.endArrangements k).pv = s.pv ∧ (s.endArrangements k).um = s.um ∧
    (s.endArrangements k).re = s.re ∧ (s.endArrangements k).bq = s.bq ∧ (s.endArrangements k).pending = s.pending := by
  simp only [State.endArrangements]
  repeat' split
  all_goals simp

@[simp] theorem State.pathsPeerLost_frame (s : State) (k : Nat) :
    (s.pathsPeerLost k).il = s.il ∧ (s.pathsPeerLost k).cfg = s.cfg ∧ (s.pathsPeerLost k).tb = s.tb ∧
    (s.pathsPeerLost k).ls = s.ls ∧ (s.pathsPeerLost k).iu = s.iu ∧ (s.pathsPeerLost k).tab = s.tab ∧
    (s.pathsPeerLost k).bm = s.bm ∧ (s.pathsPeerLost k).es = s.es ∧ (s.pathsPeerLost k).pv = s.pv ∧ (s.pathsPeerLost
    k).um = s.um ∧ (s.pathsPeerLost k).re = s.re ∧ (s.pathsPeerLost k).bq = s.bq ∧ (s.pathsPeerLost k).pending =
    s.pending := by
  simp only [State.pathsPeerLost]
  all_goals simp

@[simp] theorem State.splitLowest_frame (s : State) (k : Nat) :
    (s.splitLowest k).il = s.il ∧ (s.splitLowest k).cfg = s.cfg ∧ (s.splitLowest k).tb = s.tb ∧ (s.splitLowest k).ls
    = s.ls ∧ (s.splitLowest k).iu = s.iu ∧ (s.splitLowest k).tab = s.tab ∧ (s.splitLowest k).bm = s.bm ∧
    (s.splitLowest k).es = s.es ∧ (s.splitLowest k).rc = s.rc ∧ (s.splitLowest k).xc = s.xc ∧ (s.splitLowest k).pv =
    s.pv ∧ (s.splitLowest k).um = s.um ∧ (s.splitLowest k).re = s.re ∧ (s.splitLowest k).bq = s.bq ∧ (s.splitLowest
    k).pending = s.pending := by
  simp only [State.splitLowest]
  repeat' split
  all_goals simp

@[simp] theorem State.loseLender_frame (s : State) (k : Nat) (noUplink : Bool) :
    (s.loseLender k noUplink).il = s.il ∧ (s.loseLender k noUplink).cfg = s.cfg ∧ (s.loseLender k noUplink).tb =
    s.tb ∧ (s.loseLender k noUplink).ls = s.ls ∧ (s.loseLender k noUplink).iu = s.iu ∧ (s.loseLender k noUplink).tab
    = s.tab ∧ (s.loseLender k noUplink).bm = s.bm ∧ (s.loseLender k noUplink).es = s.es ∧ (s.loseLender k
    noUplink).rc = s.rc ∧ (s.loseLender k noUplink).xc = s.xc ∧ (s.loseLender k noUplink).pv = s.pv ∧ (s.loseLender
    k noUplink).um = s.um ∧ (s.loseLender k noUplink).re = s.re ∧ (s.loseLender k noUplink).bq = s.bq ∧
    (s.loseLender k noUplink).pending = s.pending := by
  simp only [State.loseLender]
  all_goals simp

@[simp] theorem State.grantFrom_frame (s : State) (k : Nat) (g : GrantResult) :
    (s.grantFrom k g).il = s.il ∧ (s.grantFrom k g).cfg = s.cfg ∧ (s.grantFrom k g).tb = s.tb ∧ (s.grantFrom k g).ls
    = s.ls ∧ (s.grantFrom k g).iu = s.iu ∧ (s.grantFrom k g).tab = s.tab ∧ (s.grantFrom k g).bm = s.bm ∧
    (s.grantFrom k g).es = s.es ∧ (s.grantFrom k g).pv = s.pv ∧ (s.grantFrom k g).um = s.um ∧ (s.grantFrom k g).re =
    s.re ∧ (s.grantFrom k g).bq = s.bq ∧ (s.grantFrom k g).pending = s.pending := by
  simp only [State.grantFrom]
  repeat' split
  all_goals simp

@[simp] theorem State.withdrawFrom_frame (s : State) (k : Nat) (w : WithdrawReason) :
    (s.withdrawFrom k w).il = s.il ∧ (s.withdrawFrom k w).cfg = s.cfg ∧ (s.withdrawFrom k w).tb = s.tb ∧
    (s.withdrawFrom k w).ls = s.ls ∧ (s.withdrawFrom k w).iu = s.iu ∧ (s.withdrawFrom k w).tab = s.tab ∧
    (s.withdrawFrom k w).bm = s.bm ∧ (s.withdrawFrom k w).es = s.es ∧ (s.withdrawFrom k w).pv = s.pv ∧
    (s.withdrawFrom k w).um = s.um ∧ (s.withdrawFrom k w).re = s.re ∧ (s.withdrawFrom k w).bq = s.bq ∧
    (s.withdrawFrom k w).pending = s.pending := by
  simp only [State.withdrawFrom]
  repeat' split
  all_goals simp

@[simp] theorem State.shed_frame (s : State) :
    (s.shed).il = s.il ∧ (s.shed).cfg = s.cfg ∧ (s.shed).tb = s.tb ∧ (s.shed).ls = s.ls ∧ (s.shed).iu = s.iu ∧
    (s.shed).tab = s.tab ∧ (s.shed).bm = s.bm ∧ (s.shed).es = s.es ∧ (s.shed).pv = s.pv ∧ (s.shed).um = s.um ∧
    (s.shed).re = s.re ∧ (s.shed).bq = s.bq ∧ (s.shed).pending = s.pending := by
  simp only [State.shed]
  repeat' split
  all_goals simp

@[simp] theorem State.giveBackPath_frame (s : State) :
    (s.giveBackPath).il = s.il ∧ (s.giveBackPath).cfg = s.cfg ∧ (s.giveBackPath).tb = s.tb ∧ (s.giveBackPath).ls =
    s.ls ∧ (s.giveBackPath).iu = s.iu ∧ (s.giveBackPath).tab = s.tab ∧ (s.giveBackPath).bm = s.bm ∧
    (s.giveBackPath).es = s.es ∧ (s.giveBackPath).pv = s.pv ∧ (s.giveBackPath).um = s.um ∧ (s.giveBackPath).re =
    s.re ∧ (s.giveBackPath).bq = s.bq ∧ (s.giveBackPath).pending = s.pending := by
  simp only [State.giveBackPath]
  repeat' split
  all_goals simp

@[simp] theorem State.lendFault_frame (s : State) (k : Nat) (sole : Bool) :
    (s.lendFault k sole).il = s.il ∧ (s.lendFault k sole).cfg = s.cfg ∧ (s.lendFault k sole).tb = s.tb ∧
    (s.lendFault k sole).ls = s.ls ∧ (s.lendFault k sole).iu = s.iu ∧ (s.lendFault k sole).tab = s.tab ∧
    (s.lendFault k sole).bm = s.bm ∧ (s.lendFault k sole).es = s.es ∧ (s.lendFault k sole).rc = s.rc ∧ (s.lendFault
    k sole).pv = s.pv ∧ (s.lendFault k sole).um = s.um ∧ (s.lendFault k sole).re = s.re ∧ (s.lendFault k sole).bq =
    s.bq ∧ (s.lendFault k sole).pending = s.pending := by
  simp only [State.lendFault]
  all_goals simp

@[simp] theorem State.lendRelief_frame (s : State) (k : Nat) :
    (s.lendRelief k).il = s.il ∧ (s.lendRelief k).cfg = s.cfg ∧ (s.lendRelief k).tb = s.tb ∧ (s.lendRelief k).ls =
    s.ls ∧ (s.lendRelief k).iu = s.iu ∧ (s.lendRelief k).tab = s.tab ∧ (s.lendRelief k).bm = s.bm ∧ (s.lendRelief
    k).es = s.es ∧ (s.lendRelief k).rc = s.rc ∧ (s.lendRelief k).pv = s.pv ∧ (s.lendRelief k).um = s.um ∧
    (s.lendRelief k).re = s.re ∧ (s.lendRelief k).bq = s.bq ∧ (s.lendRelief k).pending = s.pending := by
  simp only [State.lendRelief]
  all_goals simp

@[simp] theorem State.refuse_frame (s : State) (k : Nat) (r : Reason) (g : GrantResult) :
    (s.refuse k r g).il = s.il ∧ (s.refuse k r g).cfg = s.cfg ∧ (s.refuse k r g).tb = s.tb ∧ (s.refuse k r g).ls =
    s.ls ∧ (s.refuse k r g).iu = s.iu ∧ (s.refuse k r g).tab = s.tab ∧ (s.refuse k r g).bm = s.bm ∧ (s.refuse k r
    g).es = s.es ∧ (s.refuse k r g).rc = s.rc ∧ (s.refuse k r g).pv = s.pv ∧ (s.refuse k r g).um = s.um ∧ (s.refuse
    k r g).re = s.re ∧ (s.refuse k r g).bq = s.bq ∧ (s.refuse k r g).pending = s.pending := by
  simp only [State.refuse]
  repeat' split
  all_goals simp

@[simp] theorem State.answerRelief_frame (s : State) (k : Nat) :
    (s.answerRelief k).il = s.il ∧ (s.answerRelief k).cfg = s.cfg ∧ (s.answerRelief k).tb = s.tb ∧ (s.answerRelief
    k).ls = s.ls ∧ (s.answerRelief k).iu = s.iu ∧ (s.answerRelief k).tab = s.tab ∧ (s.answerRelief k).bm = s.bm ∧
    (s.answerRelief k).es = s.es ∧ (s.answerRelief k).rc = s.rc ∧ (s.answerRelief k).pv = s.pv ∧ (s.answerRelief
    k).um = s.um ∧ (s.answerRelief k).re = s.re ∧ (s.answerRelief k).bq = s.bq ∧ (s.answerRelief k).pending =
    s.pending := by
  simp only [State.answerRelief]
  repeat' split
  all_goals simp

@[simp] theorem State.answerBorrow_frame (s : State) (k : Nat) (r : Reason) (sole : Bool) :
    (s.answerBorrow k r sole).il = s.il ∧ (s.answerBorrow k r sole).cfg = s.cfg ∧ (s.answerBorrow k r sole).tb =
    s.tb ∧ (s.answerBorrow k r sole).ls = s.ls ∧ (s.answerBorrow k r sole).iu = s.iu ∧ (s.answerBorrow k r sole).tab
    = s.tab ∧ (s.answerBorrow k r sole).bm = s.bm ∧ (s.answerBorrow k r sole).es = s.es ∧ (s.answerBorrow k r
    sole).rc = s.rc ∧ (s.answerBorrow k r sole).pv = s.pv ∧ (s.answerBorrow k r sole).um = s.um ∧ (s.answerBorrow k
    r sole).re = s.re ∧ (s.answerBorrow k r sole).bq = s.bq ∧ (s.answerBorrow k r sole).pending = s.pending := by
  simp only [State.answerBorrow]
  repeat' split
  all_goals simp

@[simp] theorem State.borrowFrom_frame (s : State) (k : Nat) (r : Reason) (sole : Bool) :
    (s.borrowFrom k r sole).il = s.il ∧ (s.borrowFrom k r sole).cfg = s.cfg ∧ (s.borrowFrom k r sole).tb = s.tb ∧
    (s.borrowFrom k r sole).ls = s.ls ∧ (s.borrowFrom k r sole).iu = s.iu ∧ (s.borrowFrom k r sole).tab = s.tab ∧
    (s.borrowFrom k r sole).bm = s.bm ∧ (s.borrowFrom k r sole).es = s.es ∧ (s.borrowFrom k r sole).pv = s.pv ∧
    (s.borrowFrom k r sole).um = s.um ∧ (s.borrowFrom k r sole).re = s.re ∧ (s.borrowFrom k r sole).bq = s.bq ∧
    (s.borrowFrom k r sole).pending = s.pending := by
  simp only [State.borrowFrom]
  repeat' split
  all_goals simp

@[simp] theorem State.returnFrom_frame (s : State) (k : Nat) :
    (s.returnFrom k).il = s.il ∧ (s.returnFrom k).cfg = s.cfg ∧ (s.returnFrom k).tb = s.tb ∧ (s.returnFrom k).ls =
    s.ls ∧ (s.returnFrom k).iu = s.iu ∧ (s.returnFrom k).tab = s.tab ∧ (s.returnFrom k).bm = s.bm ∧ (s.returnFrom
    k).es = s.es ∧ (s.returnFrom k).pv = s.pv ∧ (s.returnFrom k).um = s.um ∧ (s.returnFrom k).re = s.re ∧
    (s.returnFrom k).bq = s.bq ∧ (s.returnFrom k).pending = s.pending := by
  simp only [State.returnFrom]
  all_goals simp

@[simp] theorem State.lendCheck_frame (s : State) (k : Nat) (l : LevelFields) :
    (s.lendCheck k l).il = s.il ∧ (s.lendCheck k l).cfg = s.cfg ∧ (s.lendCheck k l).tb = s.tb ∧ (s.lendCheck k l).ls
    = s.ls ∧ (s.lendCheck k l).iu = s.iu ∧ (s.lendCheck k l).tab = s.tab ∧ (s.lendCheck k l).bm = s.bm ∧
    (s.lendCheck k l).es = s.es ∧ (s.lendCheck k l).pv = s.pv ∧ (s.lendCheck k l).um = s.um ∧ (s.lendCheck k l).re =
    s.re ∧ (s.lendCheck k l).bq = s.bq ∧ (s.lendCheck k l).pending = s.pending := by
  simp only [State.lendCheck]
  repeat' split
  all_goals simp

@[simp] theorem State.stagedReturn_frame (s : State) :
    (s.stagedReturn).il = s.il ∧ (s.stagedReturn).cfg = s.cfg ∧ (s.stagedReturn).tb = s.tb ∧ (s.stagedReturn).ls =
    s.ls ∧ (s.stagedReturn).iu = s.iu ∧ (s.stagedReturn).tab = s.tab ∧ (s.stagedReturn).bm = s.bm ∧
    (s.stagedReturn).es = s.es ∧ (s.stagedReturn).rc = s.rc ∧ (s.stagedReturn).xc = s.xc ∧ (s.stagedReturn).pv =
    s.pv ∧ (s.stagedReturn).um = s.um ∧ (s.stagedReturn).re = s.re ∧ (s.stagedReturn).bq = s.bq ∧
    (s.stagedReturn).pending = s.pending := by
  simp only [State.stagedReturn]
  repeat' split
  all_goals simp

@[simp] theorem State.withdrawLend_frame (s : State) (k : Nat) :
    (s.withdrawLend k).il = s.il ∧ (s.withdrawLend k).cfg = s.cfg ∧ (s.withdrawLend k).tb = s.tb ∧ (s.withdrawLend
    k).ls = s.ls ∧ (s.withdrawLend k).iu = s.iu ∧ (s.withdrawLend k).tab = s.tab ∧ (s.withdrawLend k).bm = s.bm ∧
    (s.withdrawLend k).es = s.es ∧ (s.withdrawLend k).rc = s.rc ∧ (s.withdrawLend k).pv = s.pv ∧ (s.withdrawLend
    k).um = s.um ∧ (s.withdrawLend k).re = s.re ∧ (s.withdrawLend k).bq = s.bq ∧ (s.withdrawLend k).pending =
    s.pending := by
  simp only [State.withdrawLend]
  all_goals simp

@[simp] theorem State.withdrawOne_frame (s : State) :
    (s.withdrawOne).il = s.il ∧ (s.withdrawOne).cfg = s.cfg ∧ (s.withdrawOne).tb = s.tb ∧ (s.withdrawOne).ls = s.ls
    ∧ (s.withdrawOne).iu = s.iu ∧ (s.withdrawOne).tab = s.tab ∧ (s.withdrawOne).bm = s.bm ∧ (s.withdrawOne).es =
    s.es ∧ (s.withdrawOne).rc = s.rc ∧ (s.withdrawOne).pv = s.pv ∧ (s.withdrawOne).um = s.um ∧ (s.withdrawOne).re =
    s.re ∧ (s.withdrawOne).bq = s.bq ∧ (s.withdrawOne).pending = s.pending := by
  simp only [State.withdrawOne]
  repeat' split
  all_goals simp

@[simp] theorem State.requestTick_frame (s : State) (k : Nat) :
    (s.requestTick k).il = s.il ∧ (s.requestTick k).cfg = s.cfg ∧ (s.requestTick k).tb = s.tb ∧ (s.requestTick k).ls =
    s.ls ∧ (s.requestTick k).iu = s.iu ∧ (s.requestTick k).tab = s.tab ∧ (s.requestTick k).bm = s.bm ∧ (s.requestTick
    k).es = s.es ∧ (s.requestTick k).rc = s.rc ∧ (s.requestTick k).pv = s.pv ∧ (s.requestTick k).um = s.um ∧
    (s.requestTick k).re = s.re ∧ (s.requestTick k).bq = s.bq ∧ (s.requestTick k).pending = s.pending := by
  simp only [State.requestTick]
  repeat' split
  all_goals simp

@[simp] theorem State.tickPaths_frame (s : State) :
    (s.tickPaths).il = s.il ∧ (s.tickPaths).cfg = s.cfg ∧ (s.tickPaths).tb = s.tb ∧ (s.tickPaths).ls = s.ls ∧
    (s.tickPaths).iu = s.iu ∧ (s.tickPaths).tab = s.tab ∧ (s.tickPaths).bm = s.bm ∧ (s.tickPaths).es = s.es ∧
    (s.tickPaths).rc = s.rc ∧ (s.tickPaths).pv = s.pv ∧ (s.tickPaths).um = s.um ∧ (s.tickPaths).re = s.re ∧
    (s.tickPaths).bq = s.bq ∧ (s.tickPaths).pending = s.pending := by
  simp only [State.tickPaths]
  all_goals simp

@[simp] theorem State.tickTimers_frame (s : State) :
    (s.tickTimers).il = s.il ∧ (s.tickTimers).cfg = s.cfg ∧ (s.tickTimers).tb = s.tb ∧ (s.tickTimers).ls = s.ls ∧
    (s.tickTimers).iu = s.iu ∧ (s.tickTimers).tab = s.tab ∧ (s.tickTimers).bm = s.bm ∧ (s.tickTimers).es = s.es ∧
    (s.tickTimers).rc = s.rc ∧ (s.tickTimers).pv = s.pv ∧ (s.tickTimers).um = s.um ∧ (s.tickTimers).re = s.re ∧
    (s.tickTimers).bq = s.bq ∧ (s.tickTimers).pending = s.pending := by
  simp only [State.tickTimers]
  all_goals simp

@[simp] theorem State.pathTick_frame (s : State) :
    (s.pathTick).il = s.il ∧ (s.pathTick).cfg = s.cfg ∧ (s.pathTick).tb = s.tb ∧ (s.pathTick).ls = s.ls ∧
    (s.pathTick).iu = s.iu ∧ (s.pathTick).tab = s.tab ∧ (s.pathTick).bm = s.bm ∧ (s.pathTick).es = s.es ∧
    (s.pathTick).pv = s.pv ∧ (s.pathTick).um = s.um ∧ (s.pathTick).re = s.re ∧ (s.pathTick).bq = s.bq ∧
    (s.pathTick).pending = s.pending := by
  simp only [State.pathTick]
  all_goals simp

/-! ## Links.lean -/

@[simp] theorem State.cutReception_frame (s : State) (p : Nat) :
    (s.cutReception p).il = s.il ∧ (s.cutReception p).cfg = s.cfg ∧ (s.cutReception p).tb = s.tb ∧ (s.cutReception
    p).ls = s.ls ∧ (s.cutReception p).tab = s.tab ∧ (s.cutReception p).bm = s.bm ∧ (s.cutReception p).es = s.es ∧
    (s.cutReception p).rc = s.rc ∧ (s.cutReception p).pu = s.pu ∧ (s.cutReception p).xc = s.xc ∧ (s.cutReception
    p).pv = s.pv ∧ (s.cutReception p).um = s.um ∧ (s.cutReception p).re = s.re ∧ (s.cutReception p).bq = s.bq ∧
    (s.cutReception p).pending = s.pending := by
  simp only [State.cutReception]
  all_goals simp

@[simp] theorem State.uplinkChanged_frame (s : State) (p : Nat) :
    (s.uplinkChanged p).il = s.il ∧ (s.uplinkChanged p).cfg = s.cfg ∧ (s.uplinkChanged p).tb = s.tb ∧
    (s.uplinkChanged p).ls = s.ls ∧ (s.uplinkChanged p).iu = s.iu ∧ (s.uplinkChanged p).tab = s.tab ∧
    (s.uplinkChanged p).bm = s.bm ∧ (s.uplinkChanged p).es = s.es ∧ (s.uplinkChanged p).rc = s.rc ∧ (s.uplinkChanged
    p).pu = s.pu ∧ (s.uplinkChanged p).pv = s.pv ∧ (s.uplinkChanged p).um = s.um ∧ (s.uplinkChanged p).re = s.re ∧
    (s.uplinkChanged p).bq = s.bq ∧ (s.uplinkChanged p).pending = s.pending := by
  simp only [State.uplinkChanged]
  repeat' split
  all_goals simp

@[simp] theorem State.faultReports_frame (s : State) (p : Nat) :
    (s.faultReports p).il = s.il ∧ (s.faultReports p).cfg = s.cfg ∧ (s.faultReports p).tb = s.tb ∧ (s.faultReports
    p).ls = s.ls ∧ (s.faultReports p).iu = s.iu ∧ (s.faultReports p).bm = s.bm ∧ (s.faultReports p).pv = s.pv ∧
    (s.faultReports p).um = s.um ∧ (s.faultReports p).re = s.re ∧ (s.faultReports p).bq = s.bq ∧ (s.faultReports
    p).pending = s.pending := by
  simp only [State.faultReports]
  repeat' split
  all_goals simp

@[simp] theorem State.linkFault_frame (s : State) (p : Nat) :
    (s.linkFault p).il = s.il ∧ (s.linkFault p).cfg = s.cfg ∧ (s.linkFault p).tb = s.tb ∧ (s.linkFault p).pv = s.pv
    ∧ (s.linkFault p).um = s.um ∧ (s.linkFault p).re = s.re ∧ (s.linkFault p).bq = s.bq ∧ (s.linkFault p).pending =
    s.pending := by
  simp only [State.linkFault]
  all_goals simp

@[simp] theorem State.upReports_frame (s : State) (p : Nat) :
    (s.upReports p).il = s.il ∧ (s.upReports p).cfg = s.cfg ∧ (s.upReports p).tb = s.tb ∧ (s.upReports p).ls = s.ls
    ∧ (s.upReports p).iu = s.iu ∧ (s.upReports p).tab = s.tab ∧ (s.upReports p).bm = s.bm ∧ (s.upReports p).pv =
    s.pv ∧ (s.upReports p).um = s.um ∧ (s.upReports p).re = s.re ∧ (s.upReports p).bq = s.bq ∧ (s.upReports
    p).pending = s.pending := by
  simp only [State.upReports]
  repeat' split
  all_goals simp

@[simp] theorem State.enterUp_frame (s : State) (p : Nat) :
    (s.enterUp p).il = s.il ∧ (s.enterUp p).cfg = s.cfg ∧ (s.enterUp p).tb = s.tb ∧ (s.enterUp p).iu = s.iu ∧
    (s.enterUp p).tab = s.tab ∧ (s.enterUp p).bm = s.bm ∧ (s.enterUp p).pv = s.pv ∧ (s.enterUp p).um = s.um ∧
    (s.enterUp p).re = s.re ∧ (s.enterUp p).bq = s.bq ∧ (s.enterUp p).pending = s.pending := by
  simp only [State.enterUp]
  all_goals simp

@[simp] theorem State.judged_frame (s : State) (p : Nat) (bad : Bool) :
    (s.judged p bad).il = s.il ∧ (s.judged p bad).cfg = s.cfg ∧ (s.judged p bad).tb = s.tb ∧ (s.judged p bad).pv =
    s.pv ∧ (s.judged p bad).um = s.um ∧ (s.judged p bad).re = s.re ∧ (s.judged p bad).bq = s.bq ∧ (s.judged p
    bad).pending = s.pending := by
  simp only [State.judged]
  repeat' split
  all_goals simp

@[simp] theorem State.judgeWindow_frame (s : State) (p : Nat) :
    (s.judgeWindow p).il = s.il ∧ (s.judgeWindow p).cfg = s.cfg ∧ (s.judgeWindow p).tb = s.tb ∧ (s.judgeWindow p).pv
    = s.pv ∧ (s.judgeWindow p).um = s.um ∧ (s.judgeWindow p).re = s.re ∧ (s.judgeWindow p).bq = s.bq ∧
    (s.judgeWindow p).pending = s.pending := by
  simp only [State.judgeWindow]
  all_goals simp

@[simp] theorem State.takeWindowEnd_frame (s : State) (p : Nat) :
    (s.takeWindowEnd p).il = s.il ∧ (s.takeWindowEnd p).cfg = s.cfg ∧ (s.takeWindowEnd p).tb = s.tb ∧
    (s.takeWindowEnd p).pv = s.pv ∧ (s.takeWindowEnd p).um = s.um ∧ (s.takeWindowEnd p).re = s.re ∧ (s.takeWindowEnd
    p).bq = s.bq ∧ (s.takeWindowEnd p).pending = s.pending := by
  simp only [State.takeWindowEnd]
  repeat' split
  all_goals simp

@[simp] theorem State.signalFound_frame (s : State) (p : Nat) :
    (s.signalFound p).il = s.il ∧ (s.signalFound p).cfg = s.cfg ∧ (s.signalFound p).tb = s.tb ∧ (s.signalFound p).iu
    = s.iu ∧ (s.signalFound p).tab = s.tab ∧ (s.signalFound p).bm = s.bm ∧ (s.signalFound p).es = s.es ∧
    (s.signalFound p).rc = s.rc ∧ (s.signalFound p).pu = s.pu ∧ (s.signalFound p).xc = s.xc ∧ (s.signalFound p).pv =
    s.pv ∧ (s.signalFound p).um = s.um ∧ (s.signalFound p).re = s.re ∧ (s.signalFound p).bq = s.bq ∧ (s.signalFound
    p).pending = s.pending := by
  simp only [State.signalFound]
  all_goals simp

@[simp] theorem State.signalGone_frame (s : State) (p : Nat) :
    (s.signalGone p).il = s.il ∧ (s.signalGone p).cfg = s.cfg ∧ (s.signalGone p).tb = s.tb ∧ (s.signalGone p).pv =
    s.pv ∧ (s.signalGone p).um = s.um ∧ (s.signalGone p).re = s.re ∧ (s.signalGone p).bq = s.bq ∧ (s.signalGone
    p).pending = s.pending := by
  simp only [State.signalGone]
  repeat' split
  all_goals simp

@[simp] theorem State.codeError_frame (s : State) (p : Nat) :
    (s.codeError p).il = s.il ∧ (s.codeError p).cfg = s.cfg ∧ (s.codeError p).tb = s.tb ∧ (s.codeError p).iu = s.iu
    ∧ (s.codeError p).tab = s.tab ∧ (s.codeError p).bm = s.bm ∧ (s.codeError p).es = s.es ∧ (s.codeError p).rc =
    s.rc ∧ (s.codeError p).pu = s.pu ∧ (s.codeError p).xc = s.xc ∧ (s.codeError p).pv = s.pv ∧ (s.codeError p).um =
    s.um ∧ (s.codeError p).re = s.re ∧ (s.codeError p).bq = s.bq ∧ (s.codeError p).pending = s.pending := by
  simp only [State.codeError]
  repeat' split
  all_goals simp

@[simp] theorem State.flapReset_frame (s : State) :
    (s.flapReset).il = s.il ∧ (s.flapReset).cfg = s.cfg ∧ (s.flapReset).tb = s.tb ∧ (s.flapReset).iu = s.iu ∧
    (s.flapReset).tab = s.tab ∧ (s.flapReset).bm = s.bm ∧ (s.flapReset).es = s.es ∧ (s.flapReset).rc = s.rc ∧
    (s.flapReset).pu = s.pu ∧ (s.flapReset).pv = s.pv ∧ (s.flapReset).um = s.um ∧ (s.flapReset).re = s.re ∧
    (s.flapReset).bq = s.bq ∧ (s.flapReset).pending = s.pending := by
  simp only [State.flapReset]
  repeat' split
  all_goals simp

/-! ## Image.lean -/

@[simp] theorem State.accept_frame (s : State) (b : List Byte) :
    (s.accept b).iu = s.iu ∧ (s.accept b).tab = s.tab ∧ (s.accept b).bm = s.bm ∧ (s.accept b).es = s.es ∧ (s.accept
    b).rc = s.rc ∧ (s.accept b).pu = s.pu ∧ (s.accept b).xc = s.xc ∧ (s.accept b).pv = s.pv ∧ (s.accept b).um = s.um
    ∧ (s.accept b).re = s.re ∧ (s.accept b).bq = s.bq ∧ (s.accept b).pending = s.pending := by
  simp only [State.accept]
  all_goals simp

@[simp] theorem State.refuseImage_frame (s : State) (r : LoadReason) :
    (s.refuseImage r).cfg = s.cfg ∧ (s.refuseImage r).tb = s.tb ∧ (s.refuseImage r).ls = s.ls ∧ (s.refuseImage r).iu
    = s.iu ∧ (s.refuseImage r).tab = s.tab ∧ (s.refuseImage r).bm = s.bm ∧ (s.refuseImage r).es = s.es ∧
    (s.refuseImage r).rc = s.rc ∧ (s.refuseImage r).pu = s.pu ∧ (s.refuseImage r).xc = s.xc ∧ (s.refuseImage r).pv =
    s.pv ∧ (s.refuseImage r).um = s.um ∧ (s.refuseImage r).re = s.re ∧ (s.refuseImage r).bq = s.bq ∧ (s.refuseImage
    r).pending = s.pending := by
  simp only [State.refuseImage]
  all_goals simp

@[simp] theorem State.endLoad_frame (s : State) (b : List Byte) :
    (s.endLoad b).iu = s.iu ∧ (s.endLoad b).tab = s.tab ∧ (s.endLoad b).bm = s.bm ∧ (s.endLoad b).es = s.es ∧
    (s.endLoad b).rc = s.rc ∧ (s.endLoad b).pu = s.pu ∧ (s.endLoad b).xc = s.xc ∧ (s.endLoad b).pv = s.pv ∧
    (s.endLoad b).um = s.um ∧ (s.endLoad b).re = s.re ∧ (s.endLoad b).bq = s.bq ∧ (s.endLoad b).pending = s.pending := by
  simp only [State.endLoad]
  repeat' split
  all_goals simp

/-! ## Frames.lean -/

@[simp] theorem State.countBad_frame (s : State) (p : Nat) :
    (s.countBad p).il = s.il ∧ (s.countBad p).cfg = s.cfg ∧ (s.countBad p).tb = s.tb ∧ (s.countBad p).ls = s.ls ∧
    (s.countBad p).tab = s.tab ∧ (s.countBad p).bm = s.bm ∧ (s.countBad p).es = s.es ∧ (s.countBad p).rc = s.rc ∧
    (s.countBad p).pu = s.pu ∧ (s.countBad p).xc = s.xc ∧ (s.countBad p).pv = s.pv ∧ (s.countBad p).um = s.um ∧
    (s.countBad p).re = s.re ∧ (s.countBad p).bq = s.bq ∧ (s.countBad p).pending = s.pending := by
  simp only [State.countBad]
  all_goals simp

@[simp] theorem State.countUnclassified_frame (s : State) (p : Nat) :
    (s.countUnclassified p).il = s.il ∧ (s.countUnclassified p).cfg = s.cfg ∧ (s.countUnclassified p).tb = s.tb ∧
    (s.countUnclassified p).ls = s.ls ∧ (s.countUnclassified p).tab = s.tab ∧ (s.countUnclassified p).bm = s.bm ∧
    (s.countUnclassified p).es = s.es ∧ (s.countUnclassified p).rc = s.rc ∧ (s.countUnclassified p).pu = s.pu ∧
    (s.countUnclassified p).xc = s.xc ∧ (s.countUnclassified p).pv = s.pv ∧ (s.countUnclassified p).um = s.um ∧
    (s.countUnclassified p).re = s.re ∧ (s.countUnclassified p).bq = s.bq ∧ (s.countUnclassified p).pending =
    s.pending := by
  simp only [State.countUnclassified]
  all_goals simp

@[simp] theorem State.forward_frame (s : State) (kind : ArrivalKind) (p tenant cls : Nat) (frame : List Byte) (borrowed flood : Bool) :
    (s.forward kind p tenant cls frame borrowed flood).il = s.il ∧ (s.forward kind p tenant cls frame borrowed
    flood).cfg = s.cfg ∧ (s.forward kind p tenant cls frame borrowed flood).tb = s.tb ∧ (s.forward kind p tenant cls
    frame borrowed flood).ls = s.ls ∧ (s.forward kind p tenant cls frame borrowed flood).tab = s.tab ∧ (s.forward
    kind p tenant cls frame borrowed flood).bm = s.bm ∧ (s.forward kind p tenant cls frame borrowed flood).es = s.es
    ∧ (s.forward kind p tenant cls frame borrowed flood).rc = s.rc ∧ (s.forward kind p tenant cls frame borrowed
    flood).pu = s.pu ∧ (s.forward kind p tenant cls frame borrowed flood).xc = s.xc ∧ (s.forward kind p tenant cls
    frame borrowed flood).pv = s.pv ∧ (s.forward kind p tenant cls frame borrowed flood).um = s.um ∧ (s.forward kind
    p tenant cls frame borrowed flood).re = s.re ∧ (s.forward kind p tenant cls frame borrowed flood).bq = s.bq ∧
    (s.forward kind p tenant cls frame borrowed flood).pending = s.pending := by
  simp only [State.forward]
  all_goals simp

@[simp] theorem State.classify_frame (s : State) (p : Nat) (frame : List Byte) :
    (s.classify p frame).il = s.il ∧ (s.classify p frame).cfg = s.cfg ∧ (s.classify p frame).tb = s.tb ∧ (s.classify
    p frame).ls = s.ls ∧ (s.classify p frame).bm = s.bm ∧ (s.classify p frame).es = s.es ∧ (s.classify p frame).rc =
    s.rc ∧ (s.classify p frame).pu = s.pu ∧ (s.classify p frame).xc = s.xc ∧ (s.classify p frame).pv = s.pv ∧
    (s.classify p frame).um = s.um ∧ (s.classify p frame).re = s.re ∧ (s.classify p frame).bq = s.bq ∧ (s.classify p
    frame).pending = s.pending := by
  simp only [State.classify]
  repeat' split
  all_goals simp

@[simp] theorem State.controlFrame_frame (s : State) (p : Nat) (frame : List Byte) :
    (s.controlFrame p frame).il = s.il ∧ (s.controlFrame p frame).cfg = s.cfg ∧ (s.controlFrame p frame).tb = s.tb ∧
    (s.controlFrame p frame).ls = s.ls ∧ (s.controlFrame p frame).tab = s.tab ∧ (s.controlFrame p frame).bm = s.bm ∧
    (s.controlFrame p frame).rc = s.rc ∧ (s.controlFrame p frame).pu = s.pu ∧ (s.controlFrame p frame).xc = s.xc ∧
    (s.controlFrame p frame).pv = s.pv ∧ (s.controlFrame p frame).um = s.um ∧ (s.controlFrame p frame).re = s.re ∧
    (s.controlFrame p frame).bq = s.bq ∧ (s.controlFrame p frame).pending = s.pending := by
  simp only [State.controlFrame]
  repeat' split
  all_goals simp

@[simp] theorem State.receivePlain_frame (s : State) (p : Nat) (bytes : List Byte) :
    (s.receivePlain p bytes).il = s.il ∧ (s.receivePlain p bytes).cfg = s.cfg ∧ (s.receivePlain p bytes).tb = s.tb ∧
    (s.receivePlain p bytes).ls = s.ls ∧ (s.receivePlain p bytes).bm = s.bm ∧ (s.receivePlain p bytes).rc = s.rc ∧
    (s.receivePlain p bytes).pu = s.pu ∧ (s.receivePlain p bytes).xc = s.xc ∧ (s.receivePlain p bytes).pv = s.pv ∧
    (s.receivePlain p bytes).um = s.um ∧ (s.receivePlain p bytes).re = s.re ∧ (s.receivePlain p bytes).bq = s.bq ∧
    (s.receivePlain p bytes).pending = s.pending := by
  simp only [State.receivePlain]
  repeat' split
  all_goals simp

@[simp] theorem State.receiveCross_frame (s : State) (p : Nat) (bytes : List Byte) :
    (s.receiveCross p bytes).il = s.il ∧ (s.receiveCross p bytes).cfg = s.cfg ∧ (s.receiveCross p bytes).tb = s.tb ∧
    (s.receiveCross p bytes).ls = s.ls ∧ (s.receiveCross p bytes).tab = s.tab ∧ (s.receiveCross p bytes).bm = s.bm ∧
    (s.receiveCross p bytes).rc = s.rc ∧ (s.receiveCross p bytes).pu = s.pu ∧ (s.receiveCross p bytes).xc = s.xc ∧
    (s.receiveCross p bytes).pv = s.pv ∧ (s.receiveCross p bytes).um = s.um ∧ (s.receiveCross p bytes).re = s.re ∧
    (s.receiveCross p bytes).bq = s.bq ∧ (s.receiveCross p bytes).pending = s.pending := by
  simp only [State.receiveCross]
  repeat' split
  all_goals simp

@[simp] theorem State.beginReception_frame (s : State) (p : Nat) :
    (s.beginReception p).il = s.il ∧ (s.beginReception p).cfg = s.cfg ∧ (s.beginReception p).tb = s.tb ∧
    (s.beginReception p).ls = s.ls ∧ (s.beginReception p).tab = s.tab ∧ (s.beginReception p).bm = s.bm ∧
    (s.beginReception p).es = s.es ∧ (s.beginReception p).rc = s.rc ∧ (s.beginReception p).pu = s.pu ∧
    (s.beginReception p).xc = s.xc ∧ (s.beginReception p).pv = s.pv ∧ (s.beginReception p).um = s.um ∧
    (s.beginReception p).re = s.re ∧ (s.beginReception p).bq = s.bq ∧ (s.beginReception p).pending = s.pending := by
  simp only [State.beginReception]
  repeat' split
  all_goals simp

@[simp] theorem State.checkFrame_frame (s : State) (p : Nat) (bytes : List Byte) :
    (s.checkFrame p bytes).il = s.il ∧ (s.checkFrame p bytes).cfg = s.cfg ∧ (s.checkFrame p bytes).tb = s.tb ∧
    (s.checkFrame p bytes).ls = s.ls ∧ (s.checkFrame p bytes).bm = s.bm ∧ (s.checkFrame p bytes).rc = s.rc ∧
    (s.checkFrame p bytes).pu = s.pu ∧ (s.checkFrame p bytes).xc = s.xc ∧ (s.checkFrame p bytes).pv = s.pv ∧
    (s.checkFrame p bytes).um = s.um ∧ (s.checkFrame p bytes).re = s.re ∧ (s.checkFrame p bytes).bq = s.bq ∧
    (s.checkFrame p bytes).pending = s.pending := by
  simp only [State.checkFrame]
  repeat' split
  all_goals simp

@[simp] theorem State.receiveFrame_frame (s : State) (p : Nat) (frame : ReceivedFrame) :
    (s.receiveFrame p frame).il = s.il ∧ (s.receiveFrame p frame).cfg = s.cfg ∧ (s.receiveFrame p frame).tb = s.tb
    ∧ (s.receiveFrame p frame).ls = s.ls ∧ (s.receiveFrame p frame).bm = s.bm ∧ (s.receiveFrame p frame).rc = s.rc
    ∧ (s.receiveFrame p frame).pu = s.pu ∧ (s.receiveFrame p frame).xc = s.xc ∧ (s.receiveFrame p frame).pv = s.pv
    ∧ (s.receiveFrame p frame).um = s.um ∧ (s.receiveFrame p frame).re = s.re ∧ (s.receiveFrame p frame).bq = s.bq
    ∧ (s.receiveFrame p frame).pending = s.pending := by
  simp only [State.receiveFrame]
  repeat' split
  all_goals simp

@[simp] theorem State.admitFrom_frame (s : State) (p : Nat) :
    (s.admitFrom p).il = s.il ∧ (s.admitFrom p).cfg = s.cfg ∧ (s.admitFrom p).tb = s.tb ∧ (s.admitFrom p).ls = s.ls
    ∧ (s.admitFrom p).tab = s.tab ∧ (s.admitFrom p).rc = s.rc ∧ (s.admitFrom p).pu = s.pu ∧ (s.admitFrom p).xc =
    s.xc ∧ (s.admitFrom p).pv = s.pv ∧ (s.admitFrom p).um = s.um ∧ (s.admitFrom p).re = s.re ∧ (s.admitFrom p).bq =
    s.bq ∧ (s.admitFrom p).pending = s.pending := by
  simp only [State.admitFrom]
  repeat' split
  all_goals simp

@[simp] theorem State.copyEnds_frame (s : State) (p : Nat) :
    (s.copyEnds p).il = s.il ∧ (s.copyEnds p).cfg = s.cfg ∧ (s.copyEnds p).tb = s.tb ∧ (s.copyEnds p).ls = s.ls ∧
    (s.copyEnds p).iu = s.iu ∧ (s.copyEnds p).tab = s.tab ∧ (s.copyEnds p).rc = s.rc ∧ (s.copyEnds p).pu = s.pu ∧
    (s.copyEnds p).xc = s.xc ∧ (s.copyEnds p).pv = s.pv ∧ (s.copyEnds p).um = s.um ∧ (s.copyEnds p).re = s.re ∧
    (s.copyEnds p).bq = s.bq ∧ (s.copyEnds p).pending = s.pending := by
  simp only [State.copyEnds]
  repeat' split
  all_goals simp

@[simp] theorem State.holdEnds_frame (s : State) (p : Nat) :
    (s.holdEnds p).il = s.il ∧ (s.holdEnds p).cfg = s.cfg ∧ (s.holdEnds p).tb = s.tb ∧ (s.holdEnds p).ls = s.ls ∧
    (s.holdEnds p).iu = s.iu ∧ (s.holdEnds p).tab = s.tab ∧ (s.holdEnds p).bm = s.bm ∧ (s.holdEnds p).rc = s.rc ∧
    (s.holdEnds p).pu = s.pu ∧ (s.holdEnds p).xc = s.xc ∧ (s.holdEnds p).pv = s.pv ∧ (s.holdEnds p).um = s.um ∧
    (s.holdEnds p).re = s.re ∧ (s.holdEnds p).bq = s.bq ∧ (s.holdEnds p).pending = s.pending := by
  simp only [State.holdEnds]
  repeat' split
  all_goals simp

@[simp] theorem State.holdTick_frame (s : State) (p : Nat) :
    (s.holdTick p).il = s.il ∧ (s.holdTick p).cfg = s.cfg ∧ (s.holdTick p).tb = s.tb ∧ (s.holdTick p).ls = s.ls ∧
    (s.holdTick p).iu = s.iu ∧ (s.holdTick p).tab = s.tab ∧ (s.holdTick p).bm = s.bm ∧ (s.holdTick p).rc = s.rc ∧
    (s.holdTick p).pu = s.pu ∧ (s.holdTick p).xc = s.xc ∧ (s.holdTick p).pv = s.pv ∧ (s.holdTick p).um = s.um ∧
    (s.holdTick p).re = s.re ∧ (s.holdTick p).bq = s.bq ∧ (s.holdTick p).pending = s.pending := by
  simp only [State.holdTick]
  repeat' split
  all_goals simp

/-! ## PeerView.lean -/

@[simp] theorem State.storeLevel_frame (s : State) (k : Nat) (l : LevelFields) :
    (s.storeLevel k l).il = s.il ∧ (s.storeLevel k l).cfg = s.cfg ∧ (s.storeLevel k l).tb = s.tb ∧ (s.storeLevel k
    l).ls = s.ls ∧ (s.storeLevel k l).iu = s.iu ∧ (s.storeLevel k l).bm = s.bm ∧ (s.storeLevel k l).es = s.es ∧
    (s.storeLevel k l).um = s.um ∧ (s.storeLevel k l).re = s.re ∧ (s.storeLevel k l).bq = s.bq ∧ (s.storeLevel k
    l).pending = s.pending := by
  simp only [State.storeLevel]
  repeat' split
  all_goals simp

@[simp] theorem State.levelFrom_frame (s : State) (k : Nat) (ws : List Word) :
    (s.levelFrom k ws).il = s.il ∧ (s.levelFrom k ws).cfg = s.cfg ∧ (s.levelFrom k ws).tb = s.tb ∧ (s.levelFrom k
    ws).ls = s.ls ∧ (s.levelFrom k ws).iu = s.iu ∧ (s.levelFrom k ws).bm = s.bm ∧ (s.levelFrom k ws).es = s.es ∧
    (s.levelFrom k ws).um = s.um ∧ (s.levelFrom k ws).re = s.re ∧ (s.levelFrom k ws).bq = s.bq ∧ (s.levelFrom k
    ws).pending = s.pending := by
  simp only [State.levelFrom]
  repeat' split
  all_goals simp

@[simp] theorem State.peerReportTick_frame (s : State) :
    (s.peerReportTick).il = s.il ∧ (s.peerReportTick).cfg = s.cfg ∧ (s.peerReportTick).tb = s.tb ∧ (s.peerReportTick).ls
    = s.ls ∧ (s.peerReportTick).iu = s.iu ∧ (s.peerReportTick).tab = s.tab ∧ (s.peerReportTick).bm = s.bm ∧
    (s.peerReportTick).es = s.es ∧ (s.peerReportTick).um = s.um ∧ (s.peerReportTick).re = s.re ∧ (s.peerReportTick).bq =
    s.bq ∧ (s.peerReportTick).pending = s.pending := by
  simp only [State.peerReportTick]
  all_goals simp

@[simp] theorem State.peerAgeTick_frame (s : State) (k : Nat) :
    (s.peerAgeTick k).il = s.il ∧ (s.peerAgeTick k).cfg = s.cfg ∧ (s.peerAgeTick k).tb = s.tb ∧ (s.peerAgeTick k).ls
    = s.ls ∧ (s.peerAgeTick k).iu = s.iu ∧ (s.peerAgeTick k).bm = s.bm ∧ (s.peerAgeTick k).es = s.es ∧
    (s.peerAgeTick k).rc = s.rc ∧ (s.peerAgeTick k).pu = s.pu ∧ (s.peerAgeTick k).xc = s.xc ∧ (s.peerAgeTick k).um =
    s.um ∧ (s.peerAgeTick k).re = s.re ∧ (s.peerAgeTick k).bq = s.bq ∧ (s.peerAgeTick k).pending = s.pending := by
  simp only [State.peerAgeTick]
  repeat' split
  all_goals simp

@[simp] theorem State.peersAgeTick_frame (s : State) :
    (s.peersAgeTick).il = s.il ∧ (s.peersAgeTick).cfg = s.cfg ∧ (s.peersAgeTick).tb = s.tb ∧ (s.peersAgeTick).ls =
    s.ls ∧ (s.peersAgeTick).iu = s.iu ∧ (s.peersAgeTick).bm = s.bm ∧ (s.peersAgeTick).es = s.es ∧
    (s.peersAgeTick).rc = s.rc ∧ (s.peersAgeTick).pu = s.pu ∧ (s.peersAgeTick).xc = s.xc ∧ (s.peersAgeTick).um =
    s.um ∧ (s.peersAgeTick).re = s.re ∧ (s.peersAgeTick).bq = s.bq ∧ (s.peersAgeTick).pending = s.pending := by
  simp only [State.peersAgeTick]
  all_goals simp

/-! ## Billing.lean -/

@[simp] theorem State.takeUsage_frame (s : State) :
    (s.takeUsage).il = s.il ∧ (s.takeUsage).cfg = s.cfg ∧ (s.takeUsage).tb = s.tb ∧ (s.takeUsage).ls = s.ls ∧
    (s.takeUsage).iu = s.iu ∧ (s.takeUsage).tab = s.tab ∧ (s.takeUsage).es = s.es ∧ (s.takeUsage).rc = s.rc ∧
    (s.takeUsage).pu = s.pu ∧ (s.takeUsage).xc = s.xc ∧ (s.takeUsage).pv = s.pv ∧ (s.takeUsage).re = s.re ∧
    (s.takeUsage).bq = s.bq ∧ (s.takeUsage).pending = s.pending := by
  simp only [State.takeUsage]
  repeat' split
  all_goals simp

@[simp] theorem State.takeRefusal_frame (s : State) :
    (s.takeRefusal).il = s.il ∧ (s.takeRefusal).cfg = s.cfg ∧ (s.takeRefusal).tb = s.tb ∧ (s.takeRefusal).ls = s.ls
    ∧ (s.takeRefusal).iu = s.iu ∧ (s.takeRefusal).tab = s.tab ∧ (s.takeRefusal).es = s.es ∧ (s.takeRefusal).rc =
    s.rc ∧ (s.takeRefusal).pu = s.pu ∧ (s.takeRefusal).xc = s.xc ∧ (s.takeRefusal).pv = s.pv ∧ (s.takeRefusal).re =
    s.re ∧ (s.takeRefusal).bq = s.bq ∧ (s.takeRefusal).pending = s.pending := by
  simp only [State.takeRefusal]
  repeat' split
  all_goals simp

@[simp] theorem State.takeLoss_frame (s : State) :
    (s.takeLoss).il = s.il ∧ (s.takeLoss).cfg = s.cfg ∧ (s.takeLoss).tb = s.tb ∧ (s.takeLoss).ls = s.ls ∧
    (s.takeLoss).iu = s.iu ∧ (s.takeLoss).tab = s.tab ∧ (s.takeLoss).es = s.es ∧ (s.takeLoss).rc = s.rc ∧
    (s.takeLoss).pu = s.pu ∧ (s.takeLoss).xc = s.xc ∧ (s.takeLoss).pv = s.pv ∧ (s.takeLoss).re = s.re ∧
    (s.takeLoss).bq = s.bq ∧ (s.takeLoss).pending = s.pending := by
  simp only [State.takeLoss]
  repeat' split
  all_goals simp

@[simp] theorem State.closeEpoch_frame (s : State) :
    (s.closeEpoch).il = s.il ∧ (s.closeEpoch).cfg = s.cfg ∧ (s.closeEpoch).tb = s.tb ∧ (s.closeEpoch).ls = s.ls ∧
    (s.closeEpoch).iu = s.iu ∧ (s.closeEpoch).tab = s.tab ∧ (s.closeEpoch).bm = s.bm ∧ (s.closeEpoch).es = s.es ∧
    (s.closeEpoch).rc = s.rc ∧ (s.closeEpoch).pu = s.pu ∧ (s.closeEpoch).xc = s.xc ∧ (s.closeEpoch).pv = s.pv ∧
    (s.closeEpoch).bq = s.bq ∧ (s.closeEpoch).pending = s.pending := by
  simp only [State.closeEpoch]
  all_goals simp

@[simp] theorem State.meterClose_frame (s : State) :
    (s.meterClose).il = s.il ∧ (s.meterClose).cfg = s.cfg ∧ (s.meterClose).tb = s.tb ∧ (s.meterClose).ls = s.ls ∧
    (s.meterClose).iu = s.iu ∧ (s.meterClose).tab = s.tab ∧ (s.meterClose).bm = s.bm ∧ (s.meterClose).es = s.es ∧
    (s.meterClose).rc = s.rc ∧ (s.meterClose).pu = s.pu ∧ (s.meterClose).xc = s.xc ∧ (s.meterClose).pv = s.pv ∧
    (s.meterClose).bq = s.bq ∧ (s.meterClose).pending = s.pending := by
  simp only [State.meterClose]
  repeat' split
  all_goals simp

@[simp] theorem State.takeEpoch_frame (s : State) :
    (s.takeEpoch).il = s.il ∧ (s.takeEpoch).cfg = s.cfg ∧ (s.takeEpoch).ls = s.ls ∧ (s.takeEpoch).iu = s.iu ∧
    (s.takeEpoch).tab = s.tab ∧ (s.takeEpoch).bm = s.bm ∧ (s.takeEpoch).es = s.es ∧ (s.takeEpoch).rc = s.rc ∧
    (s.takeEpoch).pu = s.pu ∧ (s.takeEpoch).xc = s.xc ∧ (s.takeEpoch).pv = s.pv ∧ (s.takeEpoch).bq = s.bq ∧
    (s.takeEpoch).pending = s.pending := by
  simp only [State.takeEpoch]
  repeat' split
  all_goals simp

@[simp] theorem State.advance_frame (s : State) (t : Nat) :
    (s.advance t).il = s.il ∧ (s.advance t).cfg = s.cfg ∧ (s.advance t).tb = s.tb ∧ (s.advance t).ls = s.ls ∧
    (s.advance t).iu = s.iu ∧ (s.advance t).tab = s.tab ∧ (s.advance t).bm = s.bm ∧ (s.advance t).es = s.es ∧
    (s.advance t).rc = s.rc ∧ (s.advance t).pu = s.pu ∧ (s.advance t).xc = s.xc ∧ (s.advance t).pv = s.pv ∧
    (s.advance t).um = s.um ∧ (s.advance t).bq = s.bq ∧ (s.advance t).pending = s.pending := by
  simp only [State.advance]
  repeat' split
  all_goals simp

@[simp] theorem State.ratingStep_frame (s : State) :
    (s.ratingStep).il = s.il ∧ (s.ratingStep).cfg = s.cfg ∧ (s.ratingStep).tb = s.tb ∧ (s.ratingStep).ls = s.ls ∧
    (s.ratingStep).iu = s.iu ∧ (s.ratingStep).tab = s.tab ∧ (s.ratingStep).bm = s.bm ∧ (s.ratingStep).es = s.es ∧
    (s.ratingStep).rc = s.rc ∧ (s.ratingStep).pu = s.pu ∧ (s.ratingStep).xc = s.xc ∧ (s.ratingStep).pv = s.pv ∧
    (s.ratingStep).bq = s.bq ∧ (s.ratingStep).pending = s.pending := by
  simp only [State.ratingStep]
  repeat' split
  all_goals simp

@[simp] theorem State.takeCloses_frame (s : State) (n : Nat) :
    (s.takeCloses n).il = s.il ∧ (s.takeCloses n).cfg = s.cfg ∧ (s.takeCloses n).tb = s.tb ∧ (s.takeCloses n).ls =
    s.ls ∧ (s.takeCloses n).iu = s.iu ∧ (s.takeCloses n).tab = s.tab ∧ (s.takeCloses n).bm = s.bm ∧ (s.takeCloses
    n).es = s.es ∧ (s.takeCloses n).rc = s.rc ∧ (s.takeCloses n).pu = s.pu ∧ (s.takeCloses n).xc = s.xc ∧
    (s.takeCloses n).pv = s.pv ∧ (s.takeCloses n).bq = s.bq ∧ (s.takeCloses n).pending = s.pending := by
  induction n generalizing s with
  | zero => simp [State.takeCloses]
  | succ n ih => simp [State.takeCloses, ih]

@[simp] theorem State.takeHeldCloses_frame (s : State) :
    (s.takeHeldCloses).il = s.il ∧ (s.takeHeldCloses).cfg = s.cfg ∧ (s.takeHeldCloses).tb = s.tb ∧
    (s.takeHeldCloses).ls = s.ls ∧ (s.takeHeldCloses).iu = s.iu ∧ (s.takeHeldCloses).tab = s.tab ∧
    (s.takeHeldCloses).bm = s.bm ∧ (s.takeHeldCloses).es = s.es ∧ (s.takeHeldCloses).rc = s.rc ∧
    (s.takeHeldCloses).pu = s.pu ∧ (s.takeHeldCloses).xc = s.xc ∧ (s.takeHeldCloses).pv = s.pv ∧
    (s.takeHeldCloses).bq = s.bq ∧ (s.takeHeldCloses).pending = s.pending := by
  simp only [State.takeHeldCloses, State.takeCloses_frame]
  simp

@[simp] theorem State.computationEnd_frame (s : State) :
    (s.computationEnd).il = s.il ∧ (s.computationEnd).cfg = s.cfg ∧ (s.computationEnd).tb = s.tb ∧
    (s.computationEnd).ls = s.ls ∧ (s.computationEnd).iu = s.iu ∧ (s.computationEnd).tab = s.tab ∧
    (s.computationEnd).bm = s.bm ∧ (s.computationEnd).es = s.es ∧ (s.computationEnd).rc = s.rc ∧
    (s.computationEnd).pu = s.pu ∧ (s.computationEnd).xc = s.xc ∧ (s.computationEnd).pv = s.pv ∧
    (s.computationEnd).pending = s.pending := by
  simp only [State.computationEnd]
  repeat' split
  all_goals simp

@[simp] theorem State.slotFreed_frame (s : State) :
    (s.slotFreed).il = s.il ∧ (s.slotFreed).cfg = s.cfg ∧ (s.slotFreed).tb = s.tb ∧ (s.slotFreed).ls = s.ls ∧
    (s.slotFreed).iu = s.iu ∧ (s.slotFreed).tab = s.tab ∧ (s.slotFreed).bm = s.bm ∧ (s.slotFreed).es = s.es ∧
    (s.slotFreed).rc = s.rc ∧ (s.slotFreed).pu = s.pu ∧ (s.slotFreed).xc = s.xc ∧ (s.slotFreed).pv = s.pv ∧
    (s.slotFreed).pending = s.pending := by
  simp only [State.slotFreed]
  repeat' split
  all_goals simp

@[simp] theorem State.replyBill_frame (s : State) (c : Nat) (r : BillReply) :
    (s.replyBill c r).il = s.il ∧ (s.replyBill c r).cfg = s.cfg ∧ (s.replyBill c r).tb = s.tb ∧ (s.replyBill c r).ls
    = s.ls ∧ (s.replyBill c r).iu = s.iu ∧ (s.replyBill c r).tab = s.tab ∧ (s.replyBill c r).bm = s.bm ∧
    (s.replyBill c r).es = s.es ∧ (s.replyBill c r).rc = s.rc ∧ (s.replyBill c r).pu = s.pu ∧ (s.replyBill c r).pv =
    s.pv ∧ (s.replyBill c r).um = s.um ∧ (s.replyBill c r).re = s.re ∧ (s.replyBill c r).bq = s.bq ∧ (s.replyBill c
    r).pending = s.pending := by
  simp only [State.replyBill]
  all_goals simp

@[simp] theorem State.showHead_frame (s : State) (c : Nat) :
    (s.showHead c).il = s.il ∧ (s.showHead c).cfg = s.cfg ∧ (s.showHead c).tb = s.tb ∧ (s.showHead c).ls = s.ls ∧
    (s.showHead c).iu = s.iu ∧ (s.showHead c).tab = s.tab ∧ (s.showHead c).bm = s.bm ∧ (s.showHead c).es = s.es ∧
    (s.showHead c).rc = s.rc ∧ (s.showHead c).pu = s.pu ∧ (s.showHead c).pv = s.pv ∧ (s.showHead c).um = s.um ∧
    (s.showHead c).re = s.re ∧ (s.showHead c).pending = s.pending := by
  simp only [State.showHead]
  repeat' split
  all_goals simp

@[simp] theorem State.removeHead_frame (s : State) :
    (s.removeHead).il = s.il ∧ (s.removeHead).cfg = s.cfg ∧ (s.removeHead).tb = s.tb ∧ (s.removeHead).ls = s.ls ∧
    (s.removeHead).iu = s.iu ∧ (s.removeHead).tab = s.tab ∧ (s.removeHead).bm = s.bm ∧ (s.removeHead).es = s.es ∧
    (s.removeHead).rc = s.rc ∧ (s.removeHead).pu = s.pu ∧ (s.removeHead).xc = s.xc ∧ (s.removeHead).pv = s.pv ∧
    (s.removeHead).um = s.um ∧ (s.removeHead).re = s.re ∧ (s.removeHead).pending = s.pending := by
  simp only [State.removeHead]
  all_goals simp

@[simp] theorem State.answerFetch_frame (s : State) (c : Nat) (repeated : Bool) :
    (s.answerFetch c repeated).il = s.il ∧ (s.answerFetch c repeated).cfg = s.cfg ∧ (s.answerFetch c repeated).tb =
    s.tb ∧ (s.answerFetch c repeated).ls = s.ls ∧ (s.answerFetch c repeated).iu = s.iu ∧ (s.answerFetch c
    repeated).tab = s.tab ∧ (s.answerFetch c repeated).bm = s.bm ∧ (s.answerFetch c repeated).es = s.es ∧
    (s.answerFetch c repeated).rc = s.rc ∧ (s.answerFetch c repeated).pu = s.pu ∧ (s.answerFetch c repeated).pv =
    s.pv ∧ (s.answerFetch c repeated).um = s.um ∧ (s.answerFetch c repeated).re = s.re ∧ (s.answerFetch c
    repeated).pending = s.pending := by
  simp only [State.answerFetch]
  repeat' split
  all_goals simp

@[simp] theorem State.billFetch_frame (s : State) (c : Nat) (repeated : Bool) :
    (s.billFetch c repeated).il = s.il ∧ (s.billFetch c repeated).cfg = s.cfg ∧ (s.billFetch c repeated).tb = s.tb ∧
    (s.billFetch c repeated).ls = s.ls ∧ (s.billFetch c repeated).iu = s.iu ∧ (s.billFetch c repeated).tab = s.tab ∧
    (s.billFetch c repeated).bm = s.bm ∧ (s.billFetch c repeated).es = s.es ∧ (s.billFetch c repeated).rc = s.rc ∧
    (s.billFetch c repeated).pu = s.pu ∧ (s.billFetch c repeated).pv = s.pv ∧ (s.billFetch c repeated).um = s.um ∧
    (s.billFetch c repeated).re = s.re ∧ (s.billFetch c repeated).pending = s.pending := by
  simp only [State.billFetch]
  repeat' split
  all_goals simp

/-! ## Notices.lean -/

@[simp] theorem State.clearLatches_frame (s : State) :
    (s.clearLatches).il = s.il ∧ (s.clearLatches).cfg = s.cfg ∧ (s.clearLatches).tb = s.tb ∧ (s.clearLatches).iu =
    s.iu ∧ (s.clearLatches).tab = s.tab ∧ (s.clearLatches).bm = s.bm ∧ (s.clearLatches).es = s.es ∧
    (s.clearLatches).rc = s.rc ∧ (s.clearLatches).pu = s.pu ∧ (s.clearLatches).pv = s.pv ∧ (s.clearLatches).um =
    s.um ∧ (s.clearLatches).re = s.re ∧ (s.clearLatches).bq = s.bq ∧ (s.clearLatches).pending = s.pending := by
  simp only [State.clearLatches]
  all_goals simp

@[simp] theorem State.statusFetch_frame (s : State) (c : Nat) :
    (s.statusFetch c).il = s.il ∧ (s.statusFetch c).cfg = s.cfg ∧ (s.statusFetch c).tb = s.tb ∧ (s.statusFetch c).iu
    = s.iu ∧ (s.statusFetch c).tab = s.tab ∧ (s.statusFetch c).bm = s.bm ∧ (s.statusFetch c).es = s.es ∧
    (s.statusFetch c).rc = s.rc ∧ (s.statusFetch c).pu = s.pu ∧ (s.statusFetch c).pv = s.pv ∧ (s.statusFetch c).um =
    s.um ∧ (s.statusFetch c).re = s.re ∧ (s.statusFetch c).bq = s.bq ∧ (s.statusFetch c).pending = s.pending := by
  simp only [State.statusFetch]
  repeat' split
  all_goals simp

@[simp] theorem State.removeNotice_frame (s : State) :
    (s.removeNotice).il = s.il ∧ (s.removeNotice).cfg = s.cfg ∧ (s.removeNotice).tb = s.tb ∧ (s.removeNotice).ls =
    s.ls ∧ (s.removeNotice).iu = s.iu ∧ (s.removeNotice).tab = s.tab ∧ (s.removeNotice).bm = s.bm ∧
    (s.removeNotice).es = s.es ∧ (s.removeNotice).rc = s.rc ∧ (s.removeNotice).pu = s.pu ∧ (s.removeNotice).pv =
    s.pv ∧ (s.removeNotice).um = s.um ∧ (s.removeNotice).re = s.re ∧ (s.removeNotice).bq = s.bq ∧
    (s.removeNotice).pending = s.pending := by
  simp only [State.removeNotice]
  all_goals simp

@[simp] theorem State.actAddress_frame (s : State) (n : Notice) :
    (s.actAddress n).il = s.il ∧ (s.actAddress n).cfg = s.cfg ∧ (s.actAddress n).tb = s.tb ∧ (s.actAddress n).ls =
    s.ls ∧ (s.actAddress n).iu = s.iu ∧ (s.actAddress n).bm = s.bm ∧ (s.actAddress n).es = s.es ∧ (s.actAddress
    n).rc = s.rc ∧ (s.actAddress n).pu = s.pu ∧ (s.actAddress n).xc = s.xc ∧ (s.actAddress n).pv = s.pv ∧
    (s.actAddress n).um = s.um ∧ (s.actAddress n).re = s.re ∧ (s.actAddress n).bq = s.bq ∧ (s.actAddress n).pending
    = s.pending := by
  simp only [State.actAddress]
  all_goals simp

@[simp] theorem State.actBorrow_frame (s : State) (n : Notice) :
    (s.actBorrow n).il = s.il ∧ (s.actBorrow n).cfg = s.cfg ∧ (s.actBorrow n).tb = s.tb ∧ (s.actBorrow n).ls = s.ls
    ∧ (s.actBorrow n).iu = s.iu ∧ (s.actBorrow n).tab = s.tab ∧ (s.actBorrow n).bm = s.bm ∧ (s.actBorrow n).es =
    s.es ∧ (s.actBorrow n).pv = s.pv ∧ (s.actBorrow n).um = s.um ∧ (s.actBorrow n).re = s.re ∧ (s.actBorrow n).bq =
    s.bq ∧ (s.actBorrow n).pending = s.pending := by
  simp only [State.actBorrow]
  repeat' split
  all_goals simp

@[simp] theorem State.actGrant_frame (s : State) (n : Notice) :
    (s.actGrant n).il = s.il ∧ (s.actGrant n).cfg = s.cfg ∧ (s.actGrant n).tb = s.tb ∧ (s.actGrant n).ls = s.ls ∧
    (s.actGrant n).iu = s.iu ∧ (s.actGrant n).tab = s.tab ∧ (s.actGrant n).bm = s.bm ∧ (s.actGrant n).es = s.es ∧
    (s.actGrant n).pv = s.pv ∧ (s.actGrant n).um = s.um ∧ (s.actGrant n).re = s.re ∧ (s.actGrant n).bq = s.bq ∧
    (s.actGrant n).pending = s.pending := by
  simp only [State.actGrant]
  repeat' split
  all_goals simp

@[simp] theorem State.actWithdraw_frame (s : State) (n : Notice) :
    (s.actWithdraw n).il = s.il ∧ (s.actWithdraw n).cfg = s.cfg ∧ (s.actWithdraw n).tb = s.tb ∧ (s.actWithdraw n).ls
    = s.ls ∧ (s.actWithdraw n).iu = s.iu ∧ (s.actWithdraw n).tab = s.tab ∧ (s.actWithdraw n).bm = s.bm ∧
    (s.actWithdraw n).es = s.es ∧ (s.actWithdraw n).pv = s.pv ∧ (s.actWithdraw n).um = s.um ∧ (s.actWithdraw n).re =
    s.re ∧ (s.actWithdraw n).bq = s.bq ∧ (s.actWithdraw n).pending = s.pending := by
  simp only [State.actWithdraw]
  all_goals simp

/-! ## Ticks.lean -/

@[simp] theorem State.prescalerTick_frame (s : State) :
    (s.prescalerTick).il = s.il ∧ (s.prescalerTick).cfg = s.cfg ∧ (s.prescalerTick).ls = s.ls ∧ (s.prescalerTick).iu
    = s.iu ∧ (s.prescalerTick).tab = s.tab ∧ (s.prescalerTick).bm = s.bm ∧ (s.prescalerTick).es = s.es ∧
    (s.prescalerTick).rc = s.rc ∧ (s.prescalerTick).pu = s.pu ∧ (s.prescalerTick).xc = s.xc ∧ (s.prescalerTick).pv =
    s.pv ∧ (s.prescalerTick).um = s.um ∧ (s.prescalerTick).re = s.re ∧ (s.prescalerTick).bq = s.bq ∧
    (s.prescalerTick).pending = s.pending := by
  simp only [State.prescalerTick]
  all_goals simp

@[simp] theorem State.windowTick_frame (s : State) :
    (s.windowTick).il = s.il ∧ (s.windowTick).cfg = s.cfg ∧ (s.windowTick).tb = s.tb ∧ (s.windowTick).iu = s.iu ∧
    (s.windowTick).tab = s.tab ∧ (s.windowTick).bm = s.bm ∧ (s.windowTick).es = s.es ∧ (s.windowTick).rc = s.rc ∧
    (s.windowTick).pu = s.pu ∧ (s.windowTick).xc = s.xc ∧ (s.windowTick).pv = s.pv ∧ (s.windowTick).um = s.um ∧
    (s.windowTick).re = s.re ∧ (s.windowTick).bq = s.bq ∧ (s.windowTick).pending = s.pending := by
  simp only [State.windowTick]
  repeat' split
  all_goals simp

@[simp] theorem State.fineTick_frame (s : State) :
    (s.fineTick).il = s.il ∧ (s.fineTick).cfg = s.cfg ∧ (s.fineTick).iu = s.iu ∧ (s.fineTick).bm = s.bm ∧
    (s.fineTick).pu = s.pu ∧ (s.fineTick).xc = s.xc ∧ (s.fineTick).pv = s.pv ∧ (s.fineTick).um = s.um ∧
    (s.fineTick).re = s.re ∧ (s.fineTick).bq = s.bq ∧ (s.fineTick).pending = s.pending := by
  simp only [State.fineTick]
  all_goals simp

@[simp] theorem State.prescalerOutput_frame (s : State) :
    (s.prescalerOutput).il = s.il ∧ (s.prescalerOutput).cfg = s.cfg ∧ (s.prescalerOutput).ls = s.ls ∧
    (s.prescalerOutput).iu = s.iu ∧ (s.prescalerOutput).tab = s.tab ∧ (s.prescalerOutput).bm = s.bm ∧
    (s.prescalerOutput).es = s.es ∧ (s.prescalerOutput).rc = s.rc ∧ (s.prescalerOutput).pu = s.pu ∧
    (s.prescalerOutput).xc = s.xc ∧ (s.prescalerOutput).pv = s.pv ∧ (s.prescalerOutput).um = s.um ∧
    (s.prescalerOutput).re = s.re ∧ (s.prescalerOutput).bq = s.bq ∧ (s.prescalerOutput).pending = s.pending := by
  simp only [State.prescalerOutput]
  repeat' split
  all_goals simp

@[simp] theorem State.egressTick_frame (s : State) :
    (s.egressTick).il = s.il ∧ (s.egressTick).cfg = s.cfg ∧ (s.egressTick).tb = s.tb ∧ (s.egressTick).ls = s.ls ∧
    (s.egressTick).iu = s.iu ∧ (s.egressTick).tab = s.tab ∧ (s.egressTick).rc = s.rc ∧ (s.egressTick).pu = s.pu ∧
    (s.egressTick).xc = s.xc ∧ (s.egressTick).pv = s.pv ∧ (s.egressTick).um = s.um ∧ (s.egressTick).re = s.re ∧
    (s.egressTick).bq = s.bq ∧ (s.egressTick).pending = s.pending := by
  simp only [State.egressTick]
  all_goals simp

@[simp] theorem State.beginReport_frame (s : State) :
    (s.beginReport).il = s.il ∧ (s.beginReport).cfg = s.cfg ∧ (s.beginReport).ls = s.ls ∧ (s.beginReport).iu = s.iu
    ∧ (s.beginReport).tab = s.tab ∧ (s.beginReport).bm = s.bm ∧ (s.beginReport).es = s.es ∧ (s.beginReport).rc =
    s.rc ∧ (s.beginReport).pu = s.pu ∧ (s.beginReport).xc = s.xc ∧ (s.beginReport).pv = s.pv ∧ (s.beginReport).um =
    s.um ∧ (s.beginReport).re = s.re ∧ (s.beginReport).bq = s.bq ∧ (s.beginReport).pending = s.pending := by
  simp only [State.beginReport]
  all_goals simp

@[simp] theorem State.beginAge_frame (s : State) :
    (s.beginAge).il = s.il ∧ (s.beginAge).cfg = s.cfg ∧ (s.beginAge).ls = s.ls ∧ (s.beginAge).iu = s.iu ∧
    (s.beginAge).tab = s.tab ∧ (s.beginAge).bm = s.bm ∧ (s.beginAge).es = s.es ∧ (s.beginAge).rc = s.rc ∧
    (s.beginAge).pu = s.pu ∧ (s.beginAge).xc = s.xc ∧ (s.beginAge).pv = s.pv ∧ (s.beginAge).um = s.um ∧
    (s.beginAge).re = s.re ∧ (s.beginAge).bq = s.bq ∧ (s.beginAge).pending = s.pending := by
  simp only [State.beginAge]
  all_goals simp

@[simp] theorem State.renewTick_frame (s : State) (p : Nat) :
    (s.renewTick p).il = s.il ∧ (s.renewTick p).cfg = s.cfg ∧ (s.renewTick p).tb = s.tb ∧ (s.renewTick p).ls = s.ls
    ∧ (s.renewTick p).iu = s.iu ∧ (s.renewTick p).tab = s.tab ∧ (s.renewTick p).bm = s.bm ∧ (s.renewTick p).pu =
    s.pu ∧ (s.renewTick p).xc = s.xc ∧ (s.renewTick p).pv = s.pv ∧ (s.renewTick p).um = s.um ∧ (s.renewTick p).re =
    s.re ∧ (s.renewTick p).bq = s.bq ∧ (s.renewTick p).pending = s.pending := by
  simp only [State.renewTick]
  repeat' split
  all_goals simp

@[simp] theorem State.scanTick_frame (s : State) :
    (s.scanTick).il = s.il ∧ (s.scanTick).cfg = s.cfg ∧ (s.scanTick).tb = s.tb ∧ (s.scanTick).ls = s.ls ∧
    (s.scanTick).iu = s.iu ∧ (s.scanTick).bm = s.bm ∧ (s.scanTick).es = s.es ∧ (s.scanTick).rc = s.rc ∧
    (s.scanTick).pu = s.pu ∧ (s.scanTick).xc = s.xc ∧ (s.scanTick).pv = s.pv ∧ (s.scanTick).um = s.um ∧
    (s.scanTick).re = s.re ∧ (s.scanTick).bq = s.bq ∧ (s.scanTick).pending = s.pending := by
  simp only [State.scanTick]
  repeat' split
  all_goals simp

@[simp] theorem State.nextChange_frame (s : State) :
    (s.nextChange).il = s.il ∧ (s.nextChange).cfg = s.cfg ∧ (s.nextChange).tb = s.tb ∧ (s.nextChange).ls = s.ls ∧
    (s.nextChange).iu = s.iu ∧ (s.nextChange).tab = s.tab ∧ (s.nextChange).pu = s.pu ∧ (s.nextChange).pv = s.pv ∧
    (s.nextChange).um = s.um ∧ (s.nextChange).re = s.re ∧ (s.nextChange).bq = s.bq ∧ (s.nextChange).pending =
    s.pending := by
  simp only [State.nextChange]
  repeat' split
  all_goals simp

@[simp] theorem State.takeShed_frame (s : State) :
    (s.takeShed).il = s.il ∧ (s.takeShed).cfg = s.cfg ∧ (s.takeShed).tb = s.tb ∧ (s.takeShed).ls = s.ls ∧
    (s.takeShed).iu = s.iu ∧ (s.takeShed).tab = s.tab ∧ (s.takeShed).bm = s.bm ∧ (s.takeShed).es = s.es ∧
    (s.takeShed).pv = s.pv ∧ (s.takeShed).um = s.um ∧ (s.takeShed).re = s.re ∧ (s.takeShed).bq = s.bq ∧
    (s.takeShed).pending = s.pending := by
  simp only [State.takeShed]
  repeat' split
  all_goals simp

@[simp] theorem State.takeReturn_frame (s : State) :
    (s.takeReturn).il = s.il ∧ (s.takeReturn).cfg = s.cfg ∧ (s.takeReturn).tb = s.tb ∧ (s.takeReturn).ls = s.ls ∧
    (s.takeReturn).iu = s.iu ∧ (s.takeReturn).tab = s.tab ∧ (s.takeReturn).bm = s.bm ∧ (s.takeReturn).es = s.es ∧
    (s.takeReturn).pv = s.pv ∧ (s.takeReturn).um = s.um ∧ (s.takeReturn).re = s.re ∧ (s.takeReturn).bq = s.bq ∧
    (s.takeReturn).pending = s.pending := by
  simp only [State.takeReturn]
  repeat' split
  all_goals simp

@[simp] theorem State.limitFlush_frame (s : State) (p : Nat) :
    (s.limitFlush p).il = s.il ∧ (s.limitFlush p).cfg = s.cfg ∧ (s.limitFlush p).ls = s.ls ∧ (s.limitFlush p).iu = s.iu
    ∧ (s.limitFlush p).tab = s.tab ∧ (s.limitFlush p).rc = s.rc ∧ (s.limitFlush p).pu = s.pu ∧ (s.limitFlush p).xc =
    s.xc ∧ (s.limitFlush p).pv = s.pv ∧ (s.limitFlush p).um = s.um ∧ (s.limitFlush p).re = s.re ∧ (s.limitFlush p).bq =
    s.bq ∧ (s.limitFlush p).pending = s.pending := by
  simp only [State.limitFlush, State.reportTickIf, State.reportTick, State.takeReport, State.reportAct]
  repeat' split
  all_goals simp

@[simp] theorem State.peerStale_frame (s : State) (k : Nat) :
    (s.peerStale k).il = s.il ∧ (s.peerStale k).cfg = s.cfg ∧ (s.peerStale k).ls = s.ls ∧ (s.peerStale k).iu = s.iu ∧
    (s.peerStale k).tab = s.tab ∧ (s.peerStale k).bm = s.bm ∧ (s.peerStale k).es = s.es ∧ (s.peerStale k).um = s.um ∧
    (s.peerStale k).re = s.re ∧ (s.peerStale k).bq = s.bq ∧ (s.peerStale k).pending = s.pending := by
  simp only [State.peerStale, State.reportTickIf, State.reportTick, State.takeReport, State.reportAct]
  repeat' split
  all_goals simp

@[simp] theorem State.showLapse_frame (s : State) :
    (s.showLapse).il = s.il ∧ (s.showLapse).cfg = s.cfg ∧ (s.showLapse).ls = s.ls ∧ (s.showLapse).iu = s.iu ∧
    (s.showLapse).tab = s.tab ∧ (s.showLapse).bm = s.bm ∧ (s.showLapse).es = s.es ∧ (s.showLapse).rc = s.rc ∧
    (s.showLapse).pu = s.pu ∧ (s.showLapse).xc = s.xc ∧ (s.showLapse).pv = s.pv ∧ (s.showLapse).um = s.um ∧
    (s.showLapse).re = s.re ∧ (s.showLapse).pending = s.pending := by
  simp only [State.showLapse, State.reportTickIf, State.reportTick, State.takeReport, State.reportAct]
  repeat' split
  all_goals simp

@[simp] theorem State.requestTimeout_frame (s : State) (k : Nat) :
    (s.requestTimeout k).il = s.il ∧ (s.requestTimeout k).cfg = s.cfg ∧ (s.requestTimeout k).ls = s.ls ∧
    (s.requestTimeout k).iu = s.iu ∧ (s.requestTimeout k).tab = s.tab ∧ (s.requestTimeout k).bm = s.bm ∧
    (s.requestTimeout k).es = s.es ∧ (s.requestTimeout k).pv = s.pv ∧ (s.requestTimeout k).um = s.um ∧ (s.requestTimeout
    k).re = s.re ∧ (s.requestTimeout k).bq = s.bq ∧ (s.requestTimeout k).pending = s.pending := by
  simp only [State.requestTimeout, State.reportTickIf, State.reportTick, State.takeReport, State.reportAct]
  repeat' split
  all_goals simp

@[simp] theorem State.upgradeTimeout_frame (s : State) (k : Nat) :
    (s.upgradeTimeout k).il = s.il ∧ (s.upgradeTimeout k).cfg = s.cfg ∧ (s.upgradeTimeout k).ls = s.ls ∧
    (s.upgradeTimeout k).iu = s.iu ∧ (s.upgradeTimeout k).tab = s.tab ∧ (s.upgradeTimeout k).bm = s.bm ∧
    (s.upgradeTimeout k).es = s.es ∧ (s.upgradeTimeout k).pv = s.pv ∧ (s.upgradeTimeout k).um = s.um ∧ (s.upgradeTimeout
    k).re = s.re ∧ (s.upgradeTimeout k).bq = s.bq ∧ (s.upgradeTimeout k).pending = s.pending := by
  simp only [State.upgradeTimeout, State.reportTickIf, State.reportTick, State.takeReport, State.reportAct]
  repeat' split
  all_goals simp

@[simp] theorem State.exclusionExpiry_frame (s : State) (k : Nat) :
    (s.exclusionExpiry k).il = s.il ∧ (s.exclusionExpiry k).cfg = s.cfg ∧ (s.exclusionExpiry k).ls = s.ls ∧
    (s.exclusionExpiry k).iu = s.iu ∧ (s.exclusionExpiry k).tab = s.tab ∧ (s.exclusionExpiry k).bm = s.bm ∧
    (s.exclusionExpiry k).es = s.es ∧ (s.exclusionExpiry k).pv = s.pv ∧ (s.exclusionExpiry k).um = s.um ∧
    (s.exclusionExpiry k).re = s.re ∧ (s.exclusionExpiry k).bq = s.bq ∧ (s.exclusionExpiry k).pending = s.pending := by
  simp only [State.exclusionExpiry, State.reportTickIf, State.reportTick, State.takeReport, State.reportAct]
  repeat' split
  all_goals simp

@[simp] theorem State.entryAgedOut_frame (s : State) (w : Nat) :
    (s.entryAgedOut w).il = s.il ∧ (s.entryAgedOut w).cfg = s.cfg ∧ (s.entryAgedOut w).ls = s.ls ∧ (s.entryAgedOut w).iu
    = s.iu ∧ (s.entryAgedOut w).bm = s.bm ∧ (s.entryAgedOut w).es = s.es ∧ (s.entryAgedOut w).rc = s.rc ∧
    (s.entryAgedOut w).pu = s.pu ∧ (s.entryAgedOut w).xc = s.xc ∧ (s.entryAgedOut w).pv = s.pv ∧ (s.entryAgedOut w).um =
    s.um ∧ (s.entryAgedOut w).re = s.re ∧ (s.entryAgedOut w).bq = s.bq ∧ (s.entryAgedOut w).pending = s.pending := by
  simp only [State.entryAgedOut, State.ageTick, State.takeAge, State.ageAct]
  repeat' split
  all_goals simp

/-! ## Line.lean -/

@[simp] theorem State.hear_frame (s : State) (ws : List LineWord) :
    (s.hear ws).il = s.il ∧ (s.hear ws).cfg = s.cfg ∧ (s.hear ws).tb = s.tb ∧ (s.hear ws).ls = s.ls ∧ (s.hear ws).iu
    = s.iu ∧ (s.hear ws).bm = s.bm ∧ (s.hear ws).es = s.es ∧ (s.hear ws).rc = s.rc ∧ (s.hear ws).pu = s.pu ∧ (s.hear
    ws).pv = s.pv ∧ (s.hear ws).um = s.um ∧ (s.hear ws).re = s.re ∧ (s.hear ws).bq = s.bq ∧ (s.hear ws).pending =
    s.pending := by
  simp only [State.hear]
  repeat' split
  all_goals simp

@[simp] theorem State.tryStart_frame (s : State) (gap : List LineWord) (sync1 sync2 claim : LineWord) :
    (s.tryStart gap sync1 sync2 claim).il = s.il ∧ (s.tryStart gap sync1 sync2 claim).cfg = s.cfg ∧ (s.tryStart gap
    sync1 sync2 claim).tb = s.tb ∧ (s.tryStart gap sync1 sync2 claim).ls = s.ls ∧ (s.tryStart gap sync1 sync2
    claim).iu = s.iu ∧ (s.tryStart gap sync1 sync2 claim).bm = s.bm ∧ (s.tryStart gap sync1 sync2 claim).es = s.es ∧
    (s.tryStart gap sync1 sync2 claim).rc = s.rc ∧ (s.tryStart gap sync1 sync2 claim).pu = s.pu ∧ (s.tryStart gap
    sync1 sync2 claim).pv = s.pv ∧ (s.tryStart gap sync1 sync2 claim).um = s.um ∧ (s.tryStart gap sync1 sync2
    claim).re = s.re ∧ (s.tryStart gap sync1 sync2 claim).bq = s.bq ∧ (s.tryStart gap sync1 sync2 claim).pending =
    s.pending := by
  simp only [State.tryStart]
  repeat' split
  all_goals simp

@[simp] theorem State.lineBreaks_frame (s : State) (good : Nat) (read : LineWord) :
    (s.lineBreaks good read).il = s.il ∧ (s.lineBreaks good read).cfg = s.cfg ∧ (s.lineBreaks good read).tb = s.tb ∧
    (s.lineBreaks good read).ls = s.ls ∧ (s.lineBreaks good read).iu = s.iu ∧ (s.lineBreaks good read).bm = s.bm ∧
    (s.lineBreaks good read).es = s.es ∧ (s.lineBreaks good read).rc = s.rc ∧ (s.lineBreaks good read).pu = s.pu ∧
    (s.lineBreaks good read).pv = s.pv ∧ (s.lineBreaks good read).um = s.um ∧ (s.lineBreaks good read).re = s.re ∧
    (s.lineBreaks good read).bq = s.bq ∧ (s.lineBreaks good read).pending = s.pending := by
  simp only [State.lineBreaks]
  repeat' split
  all_goals simp

@[simp] theorem State.driveOut_frame (s : State) :
    (s.driveOut).il = s.il ∧ (s.driveOut).cfg = s.cfg ∧ (s.driveOut).tb = s.tb ∧ (s.driveOut).ls = s.ls ∧
    (s.driveOut).iu = s.iu ∧ (s.driveOut).bm = s.bm ∧ (s.driveOut).es = s.es ∧ (s.driveOut).rc = s.rc ∧
    (s.driveOut).pu = s.pu ∧ (s.driveOut).pv = s.pv ∧ (s.driveOut).um = s.um ∧ (s.driveOut).re = s.re ∧
    (s.driveOut).bq = s.bq ∧ (s.driveOut).pending = s.pending := by
  simp only [State.driveOut]
  repeat' split
  all_goals simp

end Sys2Proof.Machine
end

