-- ==== Sys2Proof/WellFormed.lean ====
section
/-! DEFINITION. Which commands can reach the part at all: the bounds that the operands of a command keep outside it. A command
that is not well formed still has a meaning; nothing outside the part sends it. -/

namespace Sys2Proof

/-- Bytes that a serial EEPROM with a two-byte address can give (R160). -/
def eepromBytes : Nat := 65536

/-- Words that follow the claim in a frame of the largest size: two headers, 48 payload words and the check (R103). -/
def wordsAfterClaim : Nat := 51

/-- Is this command well formed? An image load gives at most what the EEPROM holds, a frame and a run of line words are not
empty, and an attempt fails within its frame. -/
def Instr.wellFormed : Instr → Bool
  | .reset _ _ => true
  | .imageLoadEnd bytes => decide (bytes.length ≤ eepromBytes)
  | .fineTick => true
  | .prescalerOutput => true
  | .reportTick _ => true
  | .ageTick _ => true
  | .entryAgedOut _ => true
  | .epochClose => true
  | .windowEnd _ => true
  | .signalPresent _ => true
  | .signalLost _ => true
  | .lineCodeError _ => true
  | .frameReception _ frame => frame.bytes != []
  | .admission _ => true
  | .copyTransmitted _ => true
  | .holdFrameEnd _ => true
  | .receivedHoldTimerExpiry _ => true
  | .heldLimitFlush _ => true
  | .renewTimerExpiry _ => true
  | .changeEvent => true
  | .usageReport => true
  | .refusalReport => true
  | .lossReport => true
  | .scanStep => true
  | .peerStale _ => true
  | .showLimitLapse => true
  | .requestTimeout _ => true
  | .upgradeTimeout _ => true
  | .exclusionExpiry _ => true
  | .shedRequest => true
  | .returnRequest => true
  | .crosslineFrameReceived words => words != []
  | .frameStart _ _ _ _ => true
  | .attemptFailed good _ => decide (good < wordsAfterClaim)
  | .frameSent => true
  | .levelNotice => true
  | .addressNotice => true
  | .borrowNotice => true
  | .grantNotice => true
  | .withdrawNotice => true
  | .returnNotice => true
  | .billFetchPlain => true
  | .billFetchRepeat => true
  | .statusFetch => true
  | .ratingStep => true
  | .computationEnd => true
  | .slotFreed => true
  | .frameAcquired _ => true
  | .receptionBegins _ => true

end Sys2Proof
end

