-- ==== Sys2Proof/Laws/PerInstr.lean ====
section
/-! SUPPORT. The statements made for each command, and one lemma of each for every constructor of Instr. -/

namespace Sys2Proof.Laws

/-- No word of any width spells this command: a command reaches the part only as an event of its own, for the part has no
register window. -/
def NoWord.Statement (i : Instr) : Prop := ∀ nbits w : Nat, decodeTableWord nbits w ≠ some i

theorem NoWord.reset (straps : Fin 4) (signals : BitVec 21) : NoWord.Statement (.reset straps signals) := fun _ _ h => nomatch h
theorem NoWord.imageLoadEnd (bytes : List Byte) : NoWord.Statement (.imageLoadEnd bytes) := fun _ _ h => nomatch h
theorem NoWord.fineTick : NoWord.Statement .fineTick := fun _ _ h => nomatch h
theorem NoWord.prescalerOutput : NoWord.Statement .prescalerOutput := fun _ _ h => nomatch h
theorem NoWord.reportTick (user : ReportUser) : NoWord.Statement (.reportTick user) := fun _ _ h => nomatch h
theorem NoWord.ageTick (user : AgeUser) : NoWord.Statement (.ageTick user) := fun _ _ h => nomatch h
theorem NoWord.entryAgedOut (way : Fin 8192) : NoWord.Statement (.entryAgedOut way) := fun _ _ h => nomatch h
theorem NoWord.epochClose : NoWord.Statement .epochClose := fun _ _ h => nomatch h
theorem NoWord.windowEnd (port : Fin 21) : NoWord.Statement (.windowEnd port) := fun _ _ h => nomatch h
theorem NoWord.signalPresent (port : Fin 21) : NoWord.Statement (.signalPresent port) := fun _ _ h => nomatch h
theorem NoWord.signalLost (port : Fin 21) : NoWord.Statement (.signalLost port) := fun _ _ h => nomatch h
theorem NoWord.lineCodeError (port : Fin 21) : NoWord.Statement (.lineCodeError port) := fun _ _ h => nomatch h
theorem NoWord.frameReception (port : Fin 21) (frame : ReceivedFrame) :
    NoWord.Statement (.frameReception port frame) := fun _ _ h => nomatch h
theorem NoWord.admission (port : Fin 21) : NoWord.Statement (.admission port) := fun _ _ h => nomatch h
theorem NoWord.copyTransmitted (port : Fin 21) : NoWord.Statement (.copyTransmitted port) := fun _ _ h => nomatch h
theorem NoWord.holdFrameEnd (port : Fin 21) : NoWord.Statement (.holdFrameEnd port) := fun _ _ h => nomatch h
theorem NoWord.receivedHoldTimerExpiry (port : Fin 21) : NoWord.Statement (.receivedHoldTimerExpiry port) := fun _ _ h => nomatch h
theorem NoWord.heldLimitFlush (port : Fin 21) : NoWord.Statement (.heldLimitFlush port) := fun _ _ h => nomatch h
theorem NoWord.renewTimerExpiry (port : Fin 16) : NoWord.Statement (.renewTimerExpiry port) := fun _ _ h => nomatch h
theorem NoWord.changeEvent : NoWord.Statement .changeEvent := fun _ _ h => nomatch h
theorem NoWord.usageReport : NoWord.Statement .usageReport := fun _ _ h => nomatch h
theorem NoWord.refusalReport : NoWord.Statement .refusalReport := fun _ _ h => nomatch h
theorem NoWord.lossReport : NoWord.Statement .lossReport := fun _ _ h => nomatch h
theorem NoWord.scanStep : NoWord.Statement .scanStep := fun _ _ h => nomatch h
theorem NoWord.peerStale (peer : Fin 4) : NoWord.Statement (.peerStale peer) := fun _ _ h => nomatch h
theorem NoWord.showLimitLapse : NoWord.Statement .showLimitLapse := fun _ _ h => nomatch h
theorem NoWord.requestTimeout (peer : Fin 4) : NoWord.Statement (.requestTimeout peer) := fun _ _ h => nomatch h
theorem NoWord.upgradeTimeout (peer : Fin 4) : NoWord.Statement (.upgradeTimeout peer) := fun _ _ h => nomatch h
theorem NoWord.exclusionExpiry (peer : Fin 4) : NoWord.Statement (.exclusionExpiry peer) := fun _ _ h => nomatch h
theorem NoWord.shedRequest : NoWord.Statement .shedRequest := fun _ _ h => nomatch h
theorem NoWord.returnRequest : NoWord.Statement .returnRequest := fun _ _ h => nomatch h
theorem NoWord.crosslineFrameReceived (words : List LineWord) : NoWord.Statement (.crosslineFrameReceived words) := fun _ _ h => nomatch h
theorem NoWord.frameStart (gap : List LineWord) (sync1 sync2 claim : LineWord) : NoWord.Statement (.frameStart gap sync1 sync2 claim) := fun _ _ h => nomatch h
theorem NoWord.attemptFailed (good : Nat) (read : LineWord) : NoWord.Statement (.attemptFailed good read) := fun _ _ h => nomatch h
theorem NoWord.frameSent : NoWord.Statement .frameSent := fun _ _ h => nomatch h
theorem NoWord.levelNotice : NoWord.Statement .levelNotice := fun _ _ h => nomatch h
theorem NoWord.addressNotice : NoWord.Statement .addressNotice := fun _ _ h => nomatch h
theorem NoWord.borrowNotice : NoWord.Statement .borrowNotice := fun _ _ h => nomatch h
theorem NoWord.grantNotice : NoWord.Statement .grantNotice := fun _ _ h => nomatch h
theorem NoWord.withdrawNotice : NoWord.Statement .withdrawNotice := fun _ _ h => nomatch h
theorem NoWord.returnNotice : NoWord.Statement .returnNotice := fun _ _ h => nomatch h
theorem NoWord.billFetchPlain : NoWord.Statement .billFetchPlain := fun _ _ h => nomatch h
theorem NoWord.billFetchRepeat : NoWord.Statement .billFetchRepeat := fun _ _ h => nomatch h
theorem NoWord.statusFetch : NoWord.Statement .statusFetch := fun _ _ h => nomatch h
theorem NoWord.ratingStep : NoWord.Statement .ratingStep := fun _ _ h => nomatch h
theorem NoWord.computationEnd : NoWord.Statement .computationEnd := fun _ _ h => nomatch h
theorem NoWord.slotFreed : NoWord.Statement .slotFreed := fun _ _ h => nomatch h
theorem NoWord.frameAcquired (gap : List LineWord) : NoWord.Statement (.frameAcquired gap) := fun _ _ h => nomatch h
theorem NoWord.receptionBegins (port : Fin 21) : NoWord.Statement (.receptionBegins port) := fun _ _ h => nomatch h

end Sys2Proof.Laws
end

