-- ==== Sys2Proof/Tests/Slice0.lean ====
section
/-! SUPPORT. Tests: the refused ill-formed commands, the worked examples of the spec, and for every obligation with hypotheses a
state and operands that meet them, clause by clause. -/

namespace Sys2Proof.Tests

open Sys2Proof.Machine Sys2Proof.Config

/-! ## Ill-formed commands are refused -/

theorem test_image_too_long_refused :
    (Instr.imageLoadEnd (List.replicate 65537 0)).wellFormed = false ∧ (Instr.imageLoadEnd []).wellFormed = true :=
  ⟨by rw [Instr.wellFormed, List.length_replicate]; decide, by decide⟩

theorem test_empty_frame_refused : (Instr.frameReception 3 { bytes := [], beforeFault := false }).wellFormed = false := by decide

theorem test_no_words_refused : (Instr.crosslineFrameReceived []).wellFormed = false := by decide

theorem test_failure_past_frame_refused :
    (Instr.attemptFailed 51 .fill).wellFormed = false ∧ (Instr.attemptFailed 50 .fill).wellFormed = true := by decide

/-- The table gives no command bits, so no word spells one. -/
theorem test_no_word_spells_a_command : decodeTableWord 0 0 = none ∧ decodeTableWord 32 0xFFFFFFFF = none := by decide

/-! ## States -/

/-- A settings block with small marks and limits, and two tenants. -/
def settings : Settings :=
  { Settings.reset with
    stageAccess := 1, errorLimit := 3, flapLimit := 3, ageLimit := 3, heldLimit := 2, showLimit := 3, maxShed := 2
    excessCut := 3, shedLevel := 3, returnLevel := 2, lendLimit := 2, withdrawLevel := 3, holdTime := 4, hysteresis := 2
    marks := [3, 6, 9, 12, 15], holdMark := 4, releaseMark := 2
    tenantMap := [{ scope := .access 0, tag := 0, tenant := 7 }, { scope := .access 1, tag := 0, tenant := 7 },
                  { scope := .spine, tag := 20, tenant := 7 }]
    tenantTable := [(7, { share := 40, rc := 4500000, re := 9000000, rd := 4500000, valid := true, methodCode := 1
                          method := 1, suppress := false })] }

/-- Station 1 with its image accepted, and every port DOWN. -/
def conf : State :=
  { State.reset with
    il := { station := 1, state := .configured, reason := .none, clamped := 0 }
    cfg := settings
    tb := { State.reset.tb with prescaler := some 256, t1 := some 256, t2 := some 256, t3 := some 256 }
    ls := { State.reset.ls with window := some 0 } }

/-- A port record that is UP. -/
def upLink : PortLink := { PortLink.reset with state := .up, signal := true, good := 4, stages := 1 }

/-- The same station with ports A0, A1, U0, C0 (to station 2) and C1 (to station 3) UP, and every path bound. -/
def net : State :=
  { conf with
    ls := { conf.ls with ports := [(0, upLink), (1, upLink), (16, upLink), (18, upLink), (19, upLink)] }
    pu := { conf.pu with
      solePath := false
      bindings := [(0, .home), (1, .home), (2, .home), (3, .home),
                   (4, .replaceUplink), (5, .replaceUplink), (6, .replaceUplink), (7, .replaceUplink)] } }

/-- The state that a command answers, or the state itself. -/
def after (c : Instr) (s : State) : State :=
  match exec c s with
  | .next t => t
  | .fault _ => s
  | .refused _ => s

/-- A report tick owed to every user, and an age tick owed to every user. -/
def owing (s : State) : State :=
  { s with tb := { s.tb with
    reportOwed := [.egressScheduler, .reliefController, .pathUnit, .peerView, .levelBuilder, .billingQueue]
    ageOwed := [.addressTable, .linkSupervisor, .peerView] } }

/-- A LEVEL of a peer with U0 UP that offers to lend. -/
def peerLevel : LevelFields :=
  { level := 1, u0 := .up, u1 := .down, lendOffer := true, lendCount := 0, faultLender := none, reliefLender := none
    solePath := false, lostNotices := false }

/-- A LIVE peer record that has stored that LEVEL. -/
def livePeer : PeerRecord := { state := .live, missed := 0, stored := some peerLevel }

/-- The station with LIVE peers 2 and 3. -/
def peered : State := { net with pv := { peers := [(2, livePeer), (3, livePeer)] } }

/-- A state with one notice waiting. -/
def told (s : State) (n : Notice) : State := { s with xc := { s.xc with notices := [n] } }

/-- A notice for station 1 from a sender. -/
def notice (k : Kind) (sender : Nat) (ws : List Word) : Notice := { kind := k, sender := sender, dest := 1, payload := ws }

/-- A 64-byte frame, untagged, between two single addresses, with its frame check. -/
def frame64 : List Byte :=
  withFrameCheck (beBytes 6 0x020000000002 ++ beBytes 6 0x020000000001 ++ beBytes 2 0x0800 ++ List.replicate 46 0)

/-! ## The spec's worked examples -/

/-- The tariffs of the table in section 10.1. -/
theorem test_tariffs_of_10_1 :
    decodeTariff [0, 0,0,0,0,0,4,5,0,0,0,0,0, 0xC] = some 4500000 ∧
    decodeTariff [0, 0,0,0,0,0,4,5,0,0,0,0,0, 0xF] = some 4500000 ∧
    decodeTariff [0, 0,0,0,0,0,0,0,0,0,0,0,0, 0xD] = some 0 ∧
    decodeTariff [0, 0,0,0,0,0,4,5,0,0,0,0,0, 0xD] = none ∧
    decodeTariff [0, 0,0,0,0,0,4,5,0xA,0,0,0,0, 0xC] = none ∧
    decodeTariff [1, 0,0,0,0,0,4,5,0,0,0,0,0, 0xC] = none ∧
    decodeTariff [0, 0,0,0,0,0,4,5,0,0,0,0,0, 7] = none := by decide

/-- The charges of section 10.7, methods 1 to 8. -/
theorem test_charges_of_10_7 : (List.range' 1 8).map (fun m => roundCharge m 6421944394453500000) =
    [64219444, 64219444, 64219444, 64219443, 64219444, 64219444, 64219443, 64219443] := by decide +kernel

/-- The negative tie of section 10.8. -/
theorem test_negative_tie_of_10_8 : (List.range' 1 8).map (fun m => roundCharge m (-6421944050000000000)) =
    [-64219441, -64219440, -64219440, -64219440, -64219441, -64219440, -64219441, -64219441] := by decide +kernel

/-- The credit below one micro-BU of section 10.9. -/
theorem test_small_credit_of_10_9 : (List.range' 1 8).map (fun m => roundCharge m (-2000000001)) =
    [0, 0, 0, 0, -1, 0, -1, -1] := by decide +kernel

/-- The merge example under R131: 3,000,000,000 and 2,000,000,000 admitted frames. -/
theorem test_merge_saturates : (Usage.merge { Usage.zero with admitted := 3000000000 } { Usage.zero with admitted := 2000000000 }) =
    { Usage.zero with admitted := 4294967295, saturated := true } := by decide

/-- Section 1.8: the station before F1, and the arrivals F1 (6 cells to A3) and F2 (36 cells to A3). -/
def burst : State :=
  { net with
    cfg := { settings with queueLimits := List.replicate 12 400, excessReserve := 2000 }
    rc := { net.rc with stages := [true, true, false, false, false], level := 2 }
    bm := { net.bm with freeCells := 2060, inUse := [(7, 30)], queueCells := [(6, 390)] }
    iu := { ports := [], arrivals :=
      [{ port := 16, kind := .uplink, tenant := 7, cls := 2, length := 1500, cells := 6, src := 2, dst := 4
         borrowed := false, flood := false, verdict := .forward, dests := [plain 1], body := [] },
       { port := 16, kind := .uplink, tenant := 7, cls := 2, length := 9000, cells := 36, src := 2, dst := 4
         borrowed := false, flood := false, verdict := .forward, dests := [plain 1], body := [] }] } }

/-- Section 1.8, F1: 396 cells in the queue, 36 in use, committed (here to port A1 in the place of A3). -/
theorem test_admission_of_F1 : let t := after (.admission 16) burst
    t.bm.freeCells = 2054 ∧ t.inUse 7 = 36 ∧ t.cellsOf 6 = 396 ∧
    t.bm.usageReports = [{ tenant := 7, length := 1500, excess := false }] := by decide +kernel

/-- Section 1.8, F2: the queue limit drops its only copy, and it is refused. -/
theorem test_refusal_of_F2 : let t := after (.admission 16) (after (.admission 16) burst)
    t.bm.freeCells = 2054 ∧ t.inUse 7 = 36 ∧ t.cellsOf 6 = 396 ∧ t.bm.refusals = [7] := by decide +kernel

/-- The station of section 11.6 at one of its events: 64 records from 57 on, the Rating Engine waiting at tenant 20. -/
def collected (h : HeadState) : State :=
  { net with
    bq := { net.bq with head := h, next := 121, records := (List.range' 57 64).map (fun n =>
      { station := 2, tenant := 1, first := 1, last := 1, number := n, committed := 1, excess := 0, lost := 0, admitted := 1
        refused := 0, method := 4, minus := false, magnitude := 0, inexact := false, saturated := false, unpriced := false
        merged := false }) }
    re := { state := .waiting 20 } }

/-- Section 11.6, event 4: the plain fetch of the showing collector removes record 57 and shows 58. -/
theorem test_plain_fetch_of_11_6 :
    let t := after .billFetchPlain (told (collected (.shown 4 0)) (notice .billFetch 4 [0]))
    t.bq.head = .shown 4 0 ∧ (t.bq.records.map BillRecord.number).take 1 = [58] ∧ t.bq.records.length = 63 ∧
    t.bq.slotsFreed = 1 := by decide +kernel

/-- Section 11.6, event 11: a repeat fetch from another collector is refused BUSY, and the head stays. -/
theorem test_busy_of_11_6 :
    let t := after .billFetchRepeat (told (collected (.shown 6 0)) (notice .billFetch 4 [1]))
    t.bq.head = .shown 6 0 ∧ t.xc.hand.map Hand.msg = some (.billRecord 4 .busy) := by decide +kernel

/-- Section 11.6, event 9: the tick that takes the show timer to the show limit makes the head FRESH. -/
theorem test_show_limit_of_11_6 :
    (after .showLimitLapse (owing (collected (.shown 4 2)))).bq.head = .fresh := by decide +kernel

/-- Section 7.10, event 3: station 1's claim 9 reads back as 3, and is lost to station 3's frame. -/
theorem test_claim_lost_of_7_10 :
    let s := { net with xc := { net.xc with hand := some { msg := .level, built := none } } }
    let t := after (.frameStart [.fill, .fill, .fill, .fill] .sync .sync (.data 3)) s
    claimOf 1 .level = 9 ∧ claimOf 3 (.borrow 1 .relief false) = 3 ∧ t.xc.rx = .inFrame [3] ∧ t.xc.attempts = 0 ∧
    t.xc.toDrive = none := by decide +kernel

/-- Section 2.8, events 3 and 4: station 0 disregards the claim of station 2 at an equal count, and station 2 yields. -/
theorem test_equal_counts_of_2_8 : announceWins 0 2 5 5 = false ∧ announceWins 2 0 5 5 = true ∧ announceWins 1 2 5 4 = true := by
  decide

/-- Section 4.10, event 9: the third fault within an age tick holds the port down, with its latch set. -/
theorem test_third_fault_of_4_10 :
    let s := net.setLink 17 { upLink with flaps := 2 }
    let l := (after (.signalLost 17) s).link 17
    l.state = .heldDown ∧ l.flaps = 3 ∧ l.latch = true := by decide +kernel

/-- Section 6.9: a measure of 400 sets C1, and it clears below 250. -/
theorem test_stages_of_6_9 :
    let marks := [400, 800, 1200, 1600, 2000]
    let one := evalStages 400 150 marks [false, false, false, false, false]
    one = [true, false, false, false, false] ∧ evalStages 250 150 marks one = one ∧ levelOf (evalStages 249 150 marks one) = 0 := by
  decide

/-- The check values of the two codes: CRC-32 and CRC-16 over the digits 1 to 9 in ASCII (public check values). -/
theorem test_check_values :
    crc32 [0x31, 0x32, 0x33, 0x34, 0x35, 0x36, 0x37, 0x38, 0x39] = 0xCBF43926 ∧
    crc16 [0x31, 0x32, 0x33, 0x34, 0x35, 0x36, 0x37, 0x38, 0x39] = 0x29B1 := by decide +kernel

/-- The renewal time of a hold of 1 is 1, the smallest (section 6.1). -/
theorem test_renew_time : ({ net with cfg := { settings with holdTime := 1 } }).renewTime = 1 ∧ net.renewTime = 2 := by decide

/-! ## A state and operands for each obligation with hypotheses -/

/-- A pending queue of one command. -/
def waiting (s : State) (c : Instr) : State := { s with pending := [c] }

theorem witness_StepTakesFrontCommand : (waiting net .fineTick).pending = [.fineTick] ∧ net.pending = [] := ⟨rfl, rfl⟩

theorem witness_EveryCommandRuns : (∀ straps signals, Instr.fineTick ≠ .reset straps signals) ∧ net.il.state ≠ .loading :=
  ⟨fun _ _ h => (nomatch h), by decide⟩

/-- The first 48 bytes of an image of a length with every setting zero. -/
def imageHead (length : Nat) : List Byte := beBytes 2 0x5A48 ++ beBytes 2 length ++ List.replicate 44 0

/-- A smallest image: 99 bytes, no tenant map entry and no tenant table entry, and four bytes where the check stands. -/
def image (length check : Nat) : List Byte := imageHead length ++ List.replicate 47 0 ++ leBytes 4 check

/-- The CRC-32 of those 95 bytes, in two halves. -/
theorem test_image_check : crc32 (imageHead 99 ++ List.replicate 47 0) = 820374345 := by
  have h : (imageHead 99).foldl crc32Byte 0xFFFFFFFF#32 = 2470998455#32 := by decide +kernel
  unfold crc32
  rw [List.foldl_append, h]
  decide +kernel

/-- The branches of the load: no image, a wrong word, a wrong length, wrong sections, a wrong check, and an image to accept. -/
theorem witness_ImageLoadEnds : State.reset.il.state = .loading ∧ ([] : List Byte).length < 4 ∧
    be16 (0 :: (image 99 0).tail) 0 ≠ 0x5A48 ∧ imageLength (image 98 0) = 98 ∧
    (imageLength (image 100 0 ++ [0]) = 100 ∧ 100 ≠ 99 + 4 * mapCount (image 100 0 ++ [0]) + 25 * tableCount (image 100 0 ++ [0])) ∧
    ((image 99 0).take (99 - 4) = imageHead 99 ++ List.replicate 47 0 ∧ leNat (((image 99 0).drop (99 - 4)).take 4) ≠ 820374345) ∧
    ((image 99 820374345).take (99 - 4) = imageHead 99 ++ List.replicate 47 0 ∧ (image 99 820374345).length = 99 ∧
      mapCount (image 99 820374345) = 0 ∧ tableCount (image 99 820374345) = 0 ∧
      leNat (((image 99 820374345).drop (99 - 4)).take 4) = 820374345) := by decide +kernel

theorem witness_TariffDecodes :
    999999999999 < 1000000000000 ∧ 0xF ∈ [0xA, 0xC, 0xE, 0xF] ∧ 0xB ∈ [0xB, 0xD] ∧
    (List.replicate 12 9).length = 12 ∧ (∃ d ∈ List.replicate 12 10, 9 < d) ∧
    (0xB = 0xB ∧ ∃ d ∈ List.replicate 12 1, d ≠ 0) := by decide

/-- Timers at each of their cases: port 0 at 2, port 1 at 1, port 2 stopped; a renew timer at 2, at 1 and stopped. -/
def ticking : State :=
  { net with
    es := { net.es with ports := [(0, { PortTx.reset with rxHold := some 2 }), (1, { PortTx.reset with rxHold := some 1 })] }
    rc := { net.rc with ports := [(0, { PortHold.reset with holding := true, renew := some 2 }),
                                  (1, { PortHold.reset with holding := true, renew := some 1 })] } }

theorem witness_FineTickCounts :
    net.tb.prescaler = some (254 + 2) ∧ { net with tb := { net.tb with prescaler := some 1 } }.tb.prescaler = some 1 ∧
    State.reset.tb.prescaler = none ∧
    { net with ls := { net.ls with window := some 4094 } }.ls.window = some 4094 ∧ 4094 < 4095 ∧
    { net with ls := { net.ls with window := some 4095 } }.ls.window = some 4095 ∧ State.reset.ls.window = none ∧
    (ticking.tx 0).rxHold = some (0 + 2) ∧ (ticking.tx 1).rxHold = some 1 ∧ (ticking.tx 2).rxHold = none ∧
    (ticking.hold 0).renew = some (0 + 2) ∧ (ticking.hold 1).renew = some 1 ∧ (ticking.hold 2).renew = none := by decide

theorem witness_TimeBaseDivides :
    (net.tb.prescaler = some 256 ∧ 0 < 256) ∧
    (let s := { net with tb := { net.tb with prescaler := some 0, prescalerDue := 1, t1 := some 1 } }
     0 < s.tb.prescalerDue ∧ s.tb.prescaler = some 0 ∧ s.tb.t1 = some (0 + 1)) ∧
    (let s := { net with tb := { net.tb with t1 := some 0, reportDue := 1, t2 := some 1 } }
     s.tb.reportOwed = [] ∧ 0 < s.tb.reportDue ∧ s.tb.t1 = some 0 ∧ s.tb.t2 = some (0 + 1)) ∧
    (let s := { net with tb := { net.tb with reportOwed := [.peerView], ageOwed := [.peerView] } }
     ReportUser.pathUnit ∉ s.tb.reportOwed ∧ s.tb.reportOwed ≠ [] ∧ AgeUser.addressTable ∉ s.tb.ageOwed ∧ s.tb.ageOwed ≠ []) ∧
    (let s := { net with tb := { net.tb with t2 := some 0, ageDue := 1, t3 := some 1 } }
     s.tb.ageOwed = [] ∧ 0 < s.tb.ageDue ∧ s.tb.t2 = some 0 ∧ s.tb.t3 = some (0 + 1)) := by decide

/-- Peer 2 at missed count 1 and peer 3 at 2, and an exclusion timer of 2. -/
def ticked : State :=
  owing { ticking with
    pv := { peers := [(2, { livePeer with missed := 1 }), (3, { livePeer with missed := 2 })] }
    pu := { ticking.pu with bindings := [(0, .replaceUplink), (1, .replacePeer 2)]
                            borrows := [(2, { BorrowRecord.reset with exclusion := 2 })] } }

theorem witness_ReportTickCountsAndReturns :
    ReportUser.egressScheduler ∈ ticked.tb.reportOwed ∧ (ticked.tx 2).rxHold = none ∧ (ticked.tx 0).rxHold ≠ none ∧
    min 256 ((ticked.tx 0).heldCount + 1) < ticked.cfg.heldLimit ∧
    (let s := ticked.setTx 0 { PortTx.reset with rxHold := some 2, heldCount := 1 }
     (s.tx 0).rxHold ≠ none ∧ s.cfg.heldLimit ≤ min 256 ((s.tx 0).heldCount + 1)) ∧
    ReportUser.peerView ∈ ticked.tb.reportOwed ∧ 2 ∈ ticked.peers ∧ 3 ∈ ticked.peers ∧ 0 ∈ ticked.peers ∧
    (ticked.peer 2).state = .live ∧ (ticked.peer 2).missed < 2 ∧ (ticked.peer 3).state = .live ∧ 2 ≤ (ticked.peer 3).missed ∧
    (ticked.peer 0).state ≠ .live ∧ ReportUser.pathUnit ∈ ticked.tb.reportOwed ∧
    ticked.binding 0 = .replaceUplink ∧ (ticked.link (ticked.homePort 0)).state = .up ∧
    (∀ i ∈ paths, (owing net).binding i = .replaceUplink → ((owing net).link ((owing net).homePort i)).state ≠ .up) ∧
    (let s := { owing peered with pu := { peered.pu with bindings := [] } }
     s.hasUnbound = true ∧ s.lender .fault = none ∧ s.candidate .fault = some 2) ∧ (owing peered).hasUnbound = false ∧
    (owing net).rc.level < net.cfg.withdrawLevel ∧
    (let high := { owing peered with rc := { peered.rc with level := 3 } }
     let lent := fun r sole => high.setLend 2 { reason := r, solePath := sole }
     high.cfg.withdrawLevel ≤ high.rc.level ∧ 2 ∈ high.peers ∧
     ((lent .relief false).lend 2).map LendRecord.reason = some .relief ∧ (lent .relief false).lend 3 = none ∧
     ((lent .fault false).lend 2).map LendRecord.solePath = some false ∧
     ((lent .fault true).lend 2).map LendRecord.solePath = some true ∧ (∀ k ∈ stations, high.lend k = none)) := by decide

theorem witness_ReportTickRequestsLevelShow :
    let at3 := owing { net with rc := { net.rc with level := 3 } }
    let full := { at3 with pu := { at3.pu with bindings := [(0, .split 2), (1, .split 2)] } }
    let shown := fun n => owing (collected (.shown 4 n))
    ReportUser.reliefController ∈ at3.tb.reportOwed ∧ at3.cfg.shedLevel ≤ at3.rc.level ∧ at3.splitCount < at3.cfg.maxShed ∧
    full.cfg.shedLevel ≤ full.rc.level ∧ full.cfg.maxShed ≤ full.splitCount ∧
    (owing net).rc.level < net.cfg.shedLevel ∧ (owing net).rc.level ≤ net.cfg.returnLevel ∧
    (let s := { owing net with rc := { net.rc with level := 2 }, cfg := { net.cfg with returnLevel := 1 } }
     s.rc.level < s.cfg.shedLevel ∧ s.cfg.returnLevel < s.rc.level) ∧
    ReportUser.levelBuilder ∈ at3.tb.reportOwed ∧ ReportUser.billingQueue ∈ (shown 1).tb.reportOwed ∧
    (shown 1).bq.head = .shown 4 1 ∧ 1 + 1 < (shown 1).cfg.showLimit ∧
    (shown 2).bq.head = .shown 4 2 ∧ (shown 2).cfg.showLimit ≤ 2 + 1 ∧
    (owing (collected .fresh)).bq.head = .fresh := by decide +kernel

/-- The key of tenant 7 and the source of frame64, LOCAL at port 0 at an age and mark. -/
def entryAt (p : Place) : Entry := { tenant := 7, addr := 0x020000000001, moves := 15, place := p }

/-- The way where that entry stands. -/
def wayOf : Nat := 4 * bucketOf 7 0x020000000001

/-- A state that holds that entry. -/
def holding (p : Place) : State := { net with tab := { net.tab with ways := [(wayOf, entryAt p)] } }

theorem witness_AgeTickAges :
    let s := fun a => owing (holding (.atPort 0 a .clear))
    AgeUser.addressTable ∈ (s 1).tb.ageOwed ∧ wayOf < 8192 ∧
    (Tab.find? (s 2).tab.ways wayOf = some (entryAt (.atPort 0 2 .clear)) ∧ net.cfg.ageLimit ≤ 2 + 1) ∧
    (Tab.find? (s 1).tab.ways wayOf = some (entryAt (.atPort 0 1 .clear)) ∧ ¬net.cfg.ageLimit ≤ 1 + 1) ∧
    AgeUser.linkSupervisor ∈ (owing net).tb.ageOwed ∧
    ((owing net).setLink 17 { upLink with state := .heldDown }).link 17 = { upLink with state := .heldDown } ∧
    ((owing net).link 0).state ≠ .heldDown ∧ AgeUser.peerView ∈ (owing net).tb.ageOwed ∧
    (let s := owing { net with pv := { peers := [(2, { livePeer with state := .stale })] } }
     2 ∈ s.peers ∧ (s.peer 2).state = .stale ∧ (s.peer 3).state ≠ .stale) := by decide +kernel

theorem witness_ReceiverReportsRecorded :
    net.il.state = .configured ∧ (net.link 2).state = .down ∧ (net.link 2).errors ≤ 255 ∧
    ((net.setLink 2 { upLink with state := .qualifying }).link 2).state = .qualifying ∧ State.reset.il.state ≠ .configured := by
  decide

/-- A port with a window end owed to it, in a link state with a number of window errors. -/
def window (l : PortLink) : State :=
  { net.setLink 2 l with ls := { (net.setLink 2 l).ls with windowOwed := [2] } }

/-- A port that its next good window brings UP, with that window's end owed to it. -/
def rising (s : State) (p : Nat) : State :=
  let z := s.setLink p { PortLink.reset with state := .qualifying, signal := true, good := 3 }
  { z with ls := { z.ls with windowOwed := [p] } }

/-- No uplink live: P0 to P3 toward peer 2, the fault lender, and P4 to P7 in a binding. -/
def borrowing (b : Binding) : State :=
  let z := peered.setLink 16 PortLink.reset
  { z with pu := { z.pu with
      solePath := true
      bindings := [(0, .replacePeer 2), (1, .replacePeer 2), (2, .replacePeer 2), (3, .replacePeer 2),
                   (4, b), (5, b), (6, b), (7, b)]
      borrows := [(2, { BorrowRecord.reset with state := .active .fault })] } }

theorem witness_WindowEndJudges :
    let at_ := fun (st : LinkState) (errors : Nat) => window { PortLink.reset with state := st, signal := true, errors := errors }
    let rises := fun (s : State) (p : Nat) => s.ls.windowOwed.contains p = true ∧ (s.link p).state = .qualifying ∧
      (s.link p).lossMark = false ∧ (s.link p).errors < s.cfg.errorLimit ∧ (s.link p).good < 256 ∧
      s.requiredStage p ≤ max (s.link p).stages (stagesReached ((s.link p).good + 1))
    (∀ st ∈ [LinkState.down, .qualifying, .up, .suspect, .heldDown], (at_ st 0).ls.windowOwed.contains 2 = true ∧
      ((at_ st 0).link 2).state = st) ∧
    ((at_ .down 2).link 2).errors < net.cfg.errorLimit ∧ net.cfg.errorLimit ≤ ((at_ .down 3).link 2).errors ∧
    ((window PortLink.reset).link 2).signal = false ∧
    (let l := (at_ .qualifying 0).link 2
     l.good < 256 ∧ max l.stages (stagesReached (l.good + 1)) < (at_ .qualifying 0).requiredStage 2) ∧
    (let s := { net with ls := { net.ls with windowDue := 1 } }
     s.ls.windowOwed = [] ∧ 0 < s.ls.windowDue) ∧
    (net.ls.windowOwed = [] ∧ net.ls.windowDue = 0) ∧ ((at_ .up 0).ls.windowOwed ≠ [] ∧ 3 ∉ (at_ .up 0).ls.windowOwed) ∧
    rises (rising net 2) 2 ∧ portKind 2 = .access ∧
    (let s := rising (borrowing .unbound) 17
     rises s 17 ∧ portKind 17 = .uplink ∧ s.binding 4 = .unbound ∧ s.homePort 4 = 17 ∧ (s.borrow 2).state.isActive = true ∧
     (after (.windowEnd 17) s).hasUnbound = false ∧ (after (.windowEnd 17) s).hasPathToward 2 = false ∧
     s.peerLive 2 = true ∧ s.crossLive 2 = true) ∧
    (let s := rising { borrowing .unbound with pu := { peered.pu with bindings := [], solePath := true } } 20
     rises s 20 ∧ portKind 20 = .cross ∧ s.hasUnbound = true ∧ s.lender .fault = none ∧
     (s.setLink 20 ((after (.windowEnd 20) s).link 20)).candidate .fault = some 2) ∧
    (rising net 20).hasUnbound = false := by decide +kernel

/-- A copy of frame 0 in flight on port 1, and one queued on port 0 in class 2. -/
def flying : State :=
  let f := { tenant := 7, length := 100, cells := 1, cls := 2, outstanding := 2, metered := true, transmitted := false
             body := [] : StoredFrame }
  { net with
    bm := { net.bm with freeCells := 24575, freeDescriptors := 8190, inUse := [(7, 1)], queueCells := [(2, 1), (6, 1)]
                        frames := [(0, f)], nextFrame := 1 }
    es := { queues := [(2, [{ frame := 0, port := 0, cls := 2, borrowed := false, flood := false }])]
            ports := [(0, { PortTx.reset with state := .held, rxHold := some 9 }),
                      (1, { PortTx.reset with
                        state := .sending (.copy { frame := 0, port := 1, cls := 2, borrowed := false, flood := false }) })] } }

/-- The same state with every stored frame at its last copy. -/
def lastCopy (s : State) : State :=
  { s with bm := { s.bm with frames := s.bm.frames.map (fun e : Nat × StoredFrame => (e.1, { e.2 with outstanding := 1 })) } }

/-- One path P0 in a binding toward peer 2, which lends for a reason, and the other paths as their uplinks are. -/
def withLender (r : Reason) (b : Binding) : State :=
  { peered with pu := { peered.pu with
      bindings := (0, b) :: peered.pu.bindings.tail
      borrows := [(2, { BorrowRecord.reset with state := .active r })] } }

/-- No uplink live, every path UNBOUND, and a fault request to peer 2. -/
def requesting : State :=
  let z := peered.setLink 16 PortLink.reset
  { z with pu := { z.pu with solePath := true, bindings := [], borrows := [(2, { BorrowRecord.reset with state := .requested .fault, timer := 2 })] } }

/-- A path toward the fault lender, whose upgrade waits, while U0 is live. -/
def upgrading : State :=
  let z := withLender .fault (.replacePeer 2)
  { z with pu := { z.pu with borrows := [(2, { BorrowRecord.reset with state := .active .fault, upgrade := true, timer := 2 })] } }

/-- Both uplinks UP, P0 HOME and P4 HOME. -/
def doubled : State :=
  let z := peered.setLink 17 upLink
  { z with pu := { z.pu with bindings := paths.map (fun i => (i, .home)) } }

theorem witness_FaultEffects :
    (net.il.state = .configured ∧ (net.link 16).state = .up) ∧
    (let s := window { upLink with state := .suspect, errors := 3 }
     s.ls.windowOwed.contains 2 = true ∧ (s.link 2).state = .suspect ∧ s.cfg.errorLimit ≤ (s.link 2).errors) ∧
    (let f := flying.tx 1
     f.inFlight.map Desc.frame = [0] ∧ (Tab.find? flying.bm.frames 0).map StoredFrame.outstanding = some 2) ∧
    ((Tab.find? (lastCopy (flying.setQueue 2 [])).bm.frames 0).map (fun f => (f.outstanding, f.metered, f.transmitted)) = some (1, true, false)) ∧
    (doubled.live 17 = true ∧ portKind 16 = .uplink) ∧ net.live 17 = false ∧
    ((withLender .fault (.replacePeer 2)).borrow 2).state = .active .fault ∧
    (((withLender .fault (.replacePeer 2)).borrow 2).upgrade = false ∧ (upgrading.borrow 2).upgrade = true ∧
      upgrading.lender .fault = some 2) ∧
    ((withLender .relief (.split 2)).lender .fault = none ∧ (withLender .relief (.split 2)).binding 0 = .split 2) ∧
    (peered.lender .fault = none ∧ (∀ i ∈ paths, ∀ k ∈ stations, peered.binding i ≠ .split k) ∧
      (peered.setLink 16 ((after (.signalLost 16) peered).link 16)).candidate .fault = some 2) ∧
    (portKind 18 = .cross ∧ (withLender .fault (.replacePeer 2)).peerOfPort 18 = 2 ∧
      ((withLender .fault (.replacePeer 2)).binding 0).toward = some 2) ∧
    (let t := after (.signalLost 18) (borrowing (.replacePeer 2))
     t.hasUnbound = true ∧ ((borrowing (.replacePeer 2)).setLink 18 (t.link 18)).candidate .fault = some 3) := by
  decide +kernel

/-- The premise of the path clauses holds at each of those states. -/
theorem witness_FaultEffects_paths : ∀ s ∈ [net, peered, doubled, withLender .fault (.replacePeer 2), upgrading,
    withLender .relief (.split 2), borrowing (.replacePeer 2), requesting], s.PathsSound := by
  unfold State.PathsSound State.PathsStill State.LinksStill State.recordsSound
  decide +kernel

/-- A port with a reception that is taken. -/
def taking (p : Nat) : State := net.setIntake p { PortIntake.reset with reception := .taken }

/-- A port with a reception that a fault has cut. -/
def cutting (p : Nat) : State := net.setIntake p { PortIntake.reset with reception := .cut }

theorem witness_ReceptionTakenOrCounted :
    ((net.setIntake 2 { PortIntake.reset with reception := .discarded }).intake 2).reception = .discarded ∧
    (cutting 0).intake 0 = { PortIntake.reset with reception := .cut } ∧ (net.intake 0).reception = .idle ∧
    ((taking 0).intake 0).reception = .taken ∧ frameCheckOk (withFrameCheck (beBytes 6 1)) = true ∧ (withFrameCheck (beBytes 6 1)).length < 64 ∧
    frameCheckOk (List.replicate 64 (0 : Byte)) = false ∧
    isGroup (addrAt (List.replicate 6 (0 : Byte) ++ List.replicate 6 0xFF) 6) = true ∧
    ((taking 18).intake 18).reception = .taken ∧ (18 ≤ 18 ∧ (headerBytes { origin := 3, tenant := 7, cls := 0, borrowed := false, flood := false }).take 6 ≠ [0x01, 0x80, 0xC2, 0x00, 0x00, 0x01]) ∧
    (readHeader (headerBytes { origin := 3, tenant := 7, cls := 0, borrowed := false, flood := false })).origin ≠ (taking 18).peerOfPort 18 ∧
    (let pfc := [0x01, 0x80, 0xC2, 0x00, 0x00, 0x01] ++ beBytes 6 0x020000000001 ++ beBytes 2 0x8808 ++ beBytes 2 0x0101
     pfc.take 6 = [0x01, 0x80, 0xC2, 0x00, 0x00, 0x01] ∧ be16 pfc 12 = 0x8808 ∧ be16 pfc (typeOffset pfc) = 0x8808 ∧
     be16 pfc (typeOffset pfc + 2) ≠ 1) := by
  decide +kernel

theorem witness_PlainArrivalRecorded :
    ((taking 0).intake 0).reception = .taken ∧ ((cutting 0).intake 0).reception = .cut ∧ 0 < 18 ∧ frame64.length = 64 ∧
    frameCheckOk frame64 = true ∧
    isGroup (addrAt frame64 6) = false ∧ be16 frame64 (typeOffset frame64) ≠ 0x8808 ∧
    (taking 0).tenantOf (.access 0) (tagOf frame64) = some 7 ∧ (taking 0).tenantOf (.access 5) (tagOf frame64) = none ∧
    (taking 17).tenantOf .spine (tagOf frame64) = none := by decide +kernel

theorem witness_CrossArrivalRecorded :
    let inner := frame64.take 60
    ((taking 18).intake 18).reception = .taken ∧ ((cutting 18).intake 18).reception = .cut ∧ 18 ≤ 18 ∧
    2 = (taking 18).peerOfPort 18 ∧ inner.length = 60 ∧ isGroup (addrAt inner 6) = false := by decide +kernel

theorem witness_HoldFramePauses :
    ((taking 0).intake 0).reception = .taken ∧ ((cutting 0).intake 0).reception = .cut ∧ isGroup 0 = false ∧ 1 ≤ 65535 ∧
    (taking 0).live 0 = true ∧ (taking 2).live 2 = false ∧
    (let s := (taking 0).setTx 0 { PortTx.reset with rxHold := some 9, state := .held }
     s.live 0 = true ∧ (s.tx 0).rxHold ≠ none ∧ (s.tx 0).state = .held ∧ (s.intake 0).reception = .taken) ∧
    ((taking 0).tx 0).rxHold = none ∧ (taking 0).live 0 = true ∧
    (((taking 0).setTx 0 { PortTx.reset with rxHold := some 9, state := .sending (.hold 0) }).tx 0).state ≠ .held := by
  decide

/-- The station with a fault borrow from no one: its paths are sound. -/
theorem witness_DestinationsSound : net.PathsSound ∧ Lookup.localAt 15 ≠ .miss ∧ 15 < 16 ∧ 2 ∈ net.peers := by
  refine ⟨?_, by decide, by decide, by decide⟩
  unfold State.PathsSound State.PathsStill State.LinksStill State.recordsSound
  decide

theorem witness_AdmissionRefuses :
    let s := after (.admission 16) burst
    (takeArrival 16 s.iu.arrivals).map (fun e => (e.1.cells, e.2)) = some (36, []) ∧
    s.queueLimit 1 2 < s.cellsOf (queueKey 1 2) + 36 ∧
    (let z := { burst with cfg := { burst.cfg with excessReserve := 24576 }, bm := { burst.bm with inUse := [(7, 40)] } }
     (z.tenant 7).share < z.inUse 7 + 6 ∧ z.bm.freeCells - 6 < z.cfg.excessReserve) := by decide +kernel

theorem witness_AdmissionAccounts :
    (takeArrival 16 burst.iu.arrivals).map (fun e => (e.1.port, e.1.cells, e.1.cls, e.1.dests)) = some (16, 6, 2, [plain 1]) ∧
    burst.cellsOf (queueKey 1 2) + 6 ≤ burst.queueLimit 1 2 ∧ 1 ≤ burst.bm.freeDescriptors ∧ 6 ≤ burst.bm.freeCells ∧
    burst.inUse 7 + 6 ≤ (burst.tenant 7).share ∧ burst.live 1 = true ∧ 2 ≤ 3 ∧ ([plain 1].map Dest.port).Nodup ∧
    (burst.setLink 1 PortLink.reset).live 1 = false ∧
    ((burst.setTx 1 { PortTx.reset with state := .sending (.hold 0) }).tx 1).state = .sending (.hold 0) := by decide +kernel

theorem witness_CopyEndReleases :
    (flying.tx 1).state = .sending (.copy { frame := 0, port := 1, cls := 2, borrowed := false, flood := false }) ∧
    (Tab.find? flying.bm.frames 0).map StoredFrame.outstanding = some 2 ∧
    (Tab.find? (lastCopy flying).bm.frames 0).map StoredFrame.outstanding = some 1 ∧ queueKey 1 2 < 64 ∧
    (let d : Desc := { frame := 0, port := 16, cls := 2, borrowed := false, flood := false }
     ((flying.setTx 16 { PortTx.reset with state := .sending (.copy d) }).tx 16).state = .sending (.copy d) ∧
     64 ≤ queueKey d.port d.cls ∧ queueKey d.port d.cls < 72) := by decide

theorem witness_SelectionByPriority :
    ((flying.setTx 0 { PortTx.reset with state := .sending (.hold 5) }).tx 0).state = .sending (.hold 5) ∧
    flying.live 0 = true ∧ (flying.tx 0).state = .held ∧ (flying.tx 0).pendingHold = none ∧
    (let z := flying.setTx 0 { PortTx.reset with pendingHold := some 5 }
     (z.tx 0).state = .idle ∧ (z.tx 0).pendingHold = some 5) ∧
    (let z := flying.setTx 0 PortTx.reset
     (z.tx 0).state = .idle ∧ (z.tx 0).pendingHold = none ∧ (∀ e < 4, 2 < e → z.queue (queueKey 0 e) = []) ∧
     z.queue (queueKey 0 2) = [{ frame := 0, port := 0, cls := 2, borrowed := false, flood := false }]) ∧
    (∀ e < 4, net.queue (queueKey 0 e) = []) ∧ flying.live 2 = false := by decide

theorem witness_HoldsEnd :
    let due := fun n st => net.setTx 0 { PortTx.reset with rxHold := some n, holdDue := true, state := st }
    ((due 1 .held).tx 0).holdDue = true ∧ ((due 1 .held).tx 0).rxHold = some 1 ∧ ((due 1 .held).tx 0).state = .held ∧
    ((due 1 (.sending (.hold 0))).tx 0).state = .sending (.hold 0) ∧ ((due 2 .held).tx 0).rxHold = some (0 + 2) ∧
    (let s := owing (flying.setTx 0 { PortTx.reset with state := .held, rxHold := some 9, heldCount := 1 })
     ReportUser.egressScheduler ∈ s.tb.reportOwed ∧ (s.tx 0).rxHold.isSome = true ∧
     s.cfg.heldLimit ≤ min 256 ((s.tx 0).heldCount + 1) ∧ (s.tx 1).rxHold.isSome = false ∧
     (s.queue 2).map Desc.frame = [0] ∧ (Tab.find? s.bm.frames 0).map StoredFrame.outstanding = some 2 ∧
     (Tab.find? (lastCopy s).bm.frames 0).map (fun f => (f.outstanding, f.metered, f.transmitted)) = some (1, true, false)) := by decide

/-- The invariants that steps keep hold at a CONFIGURED state with links UP, and a step answers there. -/
theorem witness_LinksKeptAndDeadPortsQuiet : (waiting net .fineTick).LinksSound ∧
    (waiting net .fineTick).DeadQuiet ∧ ∃ t, step (waiting net .fineTick) = .next t := by
  refine ⟨?_, ?_, _, rfl⟩
  · unfold State.LinksSound State.LinksStill; decide
  · unfold State.DeadQuiet; decide

theorem witness_BufferKept : (waiting flying (.copyTransmitted 1)).BufferLinked ∧ (waiting flying (.copyTransmitted 1)).BufferSound ∧
    ∃ t, step (waiting flying (.copyTransmitted 1)) = .next t := by
  refine ⟨by unfold State.BufferLinked; decide, ⟨by decide, fun n => ?_, fun q => ?_, by decide⟩, _, rfl⟩
  · by_cases h : n = 7
    · subst h; decide
    · have h' : 7 ≠ n := fun e => h e.symm
      simp [waiting, flying, State.inUse, Tab.read, Tab.find?, h']
  · by_cases h2 : q = 2
    · subst h2; decide
    · by_cases h6 : q = 6
      · subst h6; decide
      · have h2' : 2 ≠ q := fun e => h2 e.symm
        have h6' : 6 ≠ q := fun e => h6 e.symm
        simp [waiting, flying, State.cellsOf, State.copies, PortTx.inFlight, PortTx.reset, Tab.read, Tab.find?, queueKey, h2', h6']

/-- Another entry of the bucket of that key, with its own address. -/
def neighbour (n : Nat) (p : Place) : Entry := { tenant := 7, addr := BitVec.ofNat 48 n, moves := 0, place := p }

/-- The bucket of that key with its four ways in four places. -/
def bucketWith (a b c d : Place) : AddressTable :=
  { net.tab with ways := [(wayOf, neighbour 2 a), (wayOf + 1, neighbour 4 b), (wayOf + 2, neighbour 6 c), (wayOf + 3, neighbour 8 d)] }

theorem witness_LearnedIsFound :
    let x := fun (p : Place) => (holding p).tab
    let young : Place := .atPort 0 1 .clear
    let place := fun (y : AddressTable) (i : Nat) => (Tab.find? y.ways i).map Entry.place
    isGroup 0x020000000001 = false ∧
    (x young).findKey 7 0x020000000001 = some (wayOf, entryAt young) ∧
    (x (.atPeer 2)).findKey 7 0x020000000001 = some (wayOf, entryAt (.atPeer 2)) ∧
    net.tab.findKey 7 0x020000000001 = none ∧ 4 * bucketOf 7 0x020000000001 = wayOf ∧ Tab.find? net.tab.ways wayOf = none ∧
    (let y := bucketWith young (.retired .clear) (.atPeer 2) (.atPeer 3)
     y.findKey 7 0x020000000001 = none ∧ (∀ j < 4, (Tab.find? y.ways (wayOf + j)).isSome = true) ∧ place y (wayOf + 2) = some (.atPeer 2)) ∧
    (let y := bucketWith young (.atPort 1 2 .clear) (.atPort 2 2 .clear) (.retired .clear)
     y.findKey 7 0x020000000001 = none ∧ place y (wayOf + 1) = some (.atPort 1 2 .clear)) ∧
    (let y := bucketWith young young young (.retired .clear)
     y.findKey 7 0x020000000001 = none ∧ place y (wayOf + 3) = some (.retired .clear)) ∧
    (let y := bucketWith young young young young
     y.findKey 7 0x020000000001 = none ∧ ∀ j < 4, place y (wayOf + j) = some young) := by decide +kernel

theorem witness_AnnouncementDecided :
    let young : Place := .atPort 0 1 .clear
    let x := (holding young).tab
    let d := fun m => (m + 16 - 15) % 16
    let place := fun (y : AddressTable) (i : Nat) => (Tab.find? y.ways i).map Entry.place
    x.findKey 7 0x020000000001 = some (wayOf, entryAt young) ∧ 7 ≠ 0 ∧ isGroup 0x020000000001 = false ∧
    (entryAt young).moves ≤ 15 ∧
    d 0 = 1 ∧ d 6 = 7 ∧ d 7 = 8 ∧ d 15 = 0 ∧ d 14 = 15 ∧
    (holding (.atPeer 2)).tab.findKey 7 0x020000000001 = some (wayOf, entryAt (.atPeer 2)) ∧
    (holding (.retired .pending)).tab.findKey 7 0x020000000001 = some (wayOf, entryAt (.retired .pending)) ∧
    isGroup 0x010000000001 = true ∧ net.tab.findKey 7 0x020000000001 = none ∧ Tab.find? net.tab.ways wayOf = none ∧
    (let y := bucketWith young (.atPeer 2) (.atPeer 3) (.retired .clear)
     y.findKey 7 0x020000000001 = none ∧ (∀ j < 4, (Tab.find? y.ways (wayOf + j)).isSome = true) ∧ place y (wayOf + 1) = some (.atPeer 2)) ∧
    (let y := bucketWith young young young (.retired .clear)
     y.findKey 7 0x020000000001 = none ∧ (∀ j < 3, place y (wayOf + j) = some young) ∧ place y (wayOf + 3) = some (.retired .clear)) := by
  decide +kernel

theorem witness_MessageAppliedAndScanned :
    let m : AddressEntry := { tenant := 255, addr := 0x020000000001, moves := 15, forget := true }
    let s := told net (notice .address 2 ([m].flatMap addressEntryWords))
    s.il.state = .configured ∧ s.xc.notices = [notice .address 2 ([m].flatMap addressEntryWords)] ∧ 2 ≠ s.il.station ∧
    (notice .address 1 []).sender = s.il.station ∧ (m.tenant ≤ 255 ∧ m.moves ≤ 15) ∧
    (let z := { net with tab := { net.tab with scan := some 2047, scanDue := 1 } }
     0 < z.tab.scanDue ∧ z.tab.scan = some 2047) := by decide +kernel

theorem witness_AddressesSoundKept : (waiting (holding (.atPort 0 1 .clear)) .scanStep).AddressesSound ∧
    ∃ t, step (waiting (holding (.atPort 0 1 .clear)) .scanStep) = .next t := by
  refine ⟨?_, _, rfl⟩
  unfold State.AddressesSound
  decide +kernel

theorem witness_StageRule : settings.marks.length = 5 ∧ settings.marks.Pairwise (fun x y => x < y) ∧ 5 ≤ 5 := by decide

theorem witness_ChangeEventEvaluates :
    let c : Change := { measure := some 400, buffer := some 5, tenant := some (7, 41) }
    let s := { net with bm := { net.bm with changes := [c] } }
    let still : Change := { measure := none, buffer := none, tenant := none }
    let t := after .changeEvent s
    s.bm.changes = [c] ∧ levelOf (evalStages 400 s.cfg.hysteresis s.cfg.marks s.rc.stages) ≠ s.rc.level ∧
    t.rc.level ≠ s.rc.level ∧ (still.buffer = none ∧ still.tenant = none) ∧
    (after .changeEvent { net with bm := { net.bm with changes := [still] } }).rc.held = net.rc.held ∧
    (after .changeEvent { net with bm := { net.bm with changes := [still] } }).rc.level = net.rc.level ∧
    s.il.state = .configured ∧ t.rc.held = [7] ∧ s.rc.held = [] ∧ s.live 0 = true ∧ s.live 2 = false ∧ (s.hold 0).holding = false ∧
    t.rc.held.any (fun n => s.serves 0 n) = true ∧
    (let z := { (net.setHold 0 { PortHold.reset with holding := true, renew := some 2 }) with
       bm := { net.bm with changes := [{ still with buffer := some 0 }] }, rc := { (net.setHold 0 { PortHold.reset with holding := true, renew := some 2 }).rc with held := [7] } }
     (after .changeEvent z).rc.held ≠ z.rc.held ∧ (z.hold 0).holding = true ∧
     (after .changeEvent z).rc.held.any (fun n => z.serves 0 n) = false) ∧
    (let z := net.setHold 0 { holding := true, renew := some 1, renewDue := true }
     (z.hold 0).renewDue = true ∧ (z.hold 0).renew = some 1 ∧ (z.hold 0).holding = true) := by decide +kernel

theorem witness_LenderChosen : peered.candidate .fault = some 2 ∧ peered.candidate .relief = some 2 ∧ net.candidate .fault = none := by
  decide

/-- A BORROW from peer 2: FAULT for word 0 or 2, RELIEF for word 1. -/
def asked (s : State) (w : Word) : State := told s (notice .borrow 2 [w])

theorem witness_BorrowAnswered :
    let b := fun st => { peered with pu := { peered.pu with borrows := [(2, { BorrowRecord.reset with state := st })] } }
    (asked net 0).il.state = .configured ∧ (asked net 0).xc.notices = [notice .borrow 2 [0]] ∧ net.peerLive 2 = false ∧
    peered.peerLive 2 = true ∧ peered.crossLive 2 = true ∧ peered.anyUplink = true ∧ peered.lend 2 = none ∧
    (peered.setLink 16 PortLink.reset).anyUplink = false ∧
    (peered.setLend 2 { reason := .relief, solePath := false }).lend 2 = some { reason := .relief, solePath := false } ∧
    peered.rc.level < peered.cfg.lendLimit ∧
    (let z := { peered with rc := { peered.rc with level := 2 } }
     z.cfg.lendLimit ≤ z.rc.level) ∧
    ((b (.active .relief)).borrow 2).state = .active .relief ∧ ((b (.requested .relief)).borrow 2).state = .requested .relief ∧
    peered.il.station < 2 ∧ ¬ 2 ≤ peered.il.station ∧ 0 ≤ peered.il.station ∧ (peered.borrow 2).state = .none := by decide

theorem witness_GrantTaken :
    let s := fun (st : BorrowState) (up : Bool) (bs : Tab Binding) => told
      { peered with pu := { peered.pu with bindings := bs, borrows := [(2, { BorrowRecord.reset with state := st, upgrade := up })] } }
      (notice .grant 2 [0])
    (s .none false []).xc.notices = [notice .grant 2 [0]] ∧ 2 ∈ peered.peers ∧ (notice .grant 2 [0]).word.toNat = 0 ∧
    (notice .grant 2 [3]).word.toNat = 3 ∧ (notice .grant 2 [4]).word.toNat = 4 ∧
    (s (.requested .fault) false [(0, .home)]).hasUnbound = true ∧ (s (.active .fault) true [(0, .home)]).hasUnbound = true ∧
    (let z := s (.requested .relief) false peered.pu.bindings
     z.hasUnbound = false ∧ z.lowestHome = some 0) ∧
    (let z := s (.requested .relief) false (paths.map (fun i => (i, .replaceUplink)))
     z.hasUnbound = false ∧ z.lowestHome = none ∧ z.hasPathToward 2 = false ∧ z.peerLive 2 = true ∧ z.crossLive 2 = true) ∧
    ((s .none false []).borrow 2).state = .none ∧ ((s (.active .relief) false []).borrow 2).upgrade = false ∧
    (let z := told { peered with pu := { peered.pu with borrows := [(2, { BorrowRecord.reset with state := .requested .fault })] } } (notice .grant 2 [3])
     (z.lender .fault).isSome = true ∧ ((after .grantNotice z).lender .fault).isSome = false) := by decide +kernel

theorem witness_WithdrawAndReturnTaken :
    let s := told { peered with pu := { peered.pu with
        bindings := [(0, .split 2), (1, .home), (4, .replacePeer 2)]
        borrows := [(2, { BorrowRecord.reset with state := .active .relief })] } } (notice .withdraw 2 [1])
    s.il.state = .configured ∧ s.xc.notices = [notice .withdraw 2 [1]] ∧ (s.borrow 2).state ≠ .none ∧
    (s.borrow 2).state.isActive = true ∧ (peered.borrow 2).state = .none ∧
    (s.binding 0).toward = some 2 ∧ s.live (s.homePort 0) = true ∧ (s.binding 1).toward ≠ some 2 ∧
    (s.binding 4).toward = some 2 ∧ s.live (s.homePort 4) = false ∧ s.live (otherUplink (s.homePort 4)) = true ∧
    (told peered (notice .ret 2 [])).xc.notices = [notice .ret 2 []] := by decide

theorem witness_ShedAndReturnRequests :
    let s := { peered with pu := { peered.pu with shedDue := 1, returnDue := 1 } }
    let b := fun st => { s with pu := { s.pu with borrows := [(2, { BorrowRecord.reset with state := st })] } }
    0 < s.pu.shedDue ∧ (b (.active .relief)).activeRelief = some 2 ∧ s.lowestHome = some 0 ∧
    { s with pu := { s.pu with bindings := [] } }.lowestHome = none ∧
    s.activeRelief = none ∧ (b (.requested .relief)).requestedRelief = some 2 ∧ (b (.requested .relief)).activeRelief = none ∧
    s.requestedRelief = none ∧ s.candidate .relief = some 2 ∧ s.hasUnbound = false ∧ 0 < s.pu.returnDue ∧
    { s with pu := { s.pu with bindings := [(3, .split 2)] } }.highestSplit = some 3 ∧ s.highestSplit = none := by decide

theorem witness_TimersLapse :
    let b := fun st up n => owing (peered.setBorrow 2 { BorrowRecord.reset with state := st, upgrade := up, timer := n, exclusion := 1 })
    let unbound := fun (s : State) => { s with pu := { s.pu with bindings := [(0, .replacePeer 2)] } }
    let t := fun s => after (.reportTick .pathUnit) s
    let f := b (.requested .fault) false
    let u := b (.active .fault) true
    let kept := fun n => { u n with pu := { (u n).pu with bindings := (0, .replacePeer 2) :: (u n).pu.bindings.tail } }
    ReportUser.pathUnit ∈ (f 1).tb.reportOwed ∧ (2 : Fin 4).val ∈ (f 1).peers ∧ ((f 1).borrow 2).state = .requested .fault ∧
    (f 1).hasUnbound = false ∧ ((f 1).borrow 2).timer ≤ 1 ∧ ((f 2).borrow 2).timer = 0 + 2 ∧
    ((b (.requested .relief) false 2).borrow 2).state = .requested .relief ∧
    ((unbound (f 2)).hasUnbound = true ∧ (unbound (f 2)).lender .fault ≠ none) ∧
    ((b .none false 0).borrow 2).upgrade = false ∧
    ((u 1).borrow 2).upgrade = true ∧ ((u 1).borrow 2).state = .active .fault ∧ ((u 2).borrow 2).timer = 0 + 2 ∧
    ((u 1).hasPathToward 2 = false ∧ (t (u 1)).hasPathToward 2 = false) ∧
    ((unbound (u 1)).hasUnbound = true ∧ (unbound (u 2)).hasUnbound = true) ∧
    ((b .none false 0).borrow 2).exclusion = 1 ∧ (peered.borrow 2).exclusion ≠ 1 ∧ (1 : Fin 4).val ∉ peered.peers ∧
    ((kept 1).setLink 16 { upLink with state := .suspect }).hasUnbound = false ∧
    (t ((kept 1).setLink 16 { upLink with state := .suspect })).hasPathToward 2 = true ∧
    (t ((kept 2).setLink 16 { upLink with state := .suspect })).hasPathToward 2 = true := by decide +kernel

theorem witness_PeerStaleEnds :
    let s := fun m => owing (peered.setPeer 2 { livePeer with missed := m })
    ReportUser.peerView ∈ (s 2).tb.reportOwed ∧ (2 : Fin 4).val ∈ (s 2).peers ∧ ((s 2).peer 2).state = .live ∧ ((s 1).peer 2).missed < 2 ∧
    2 ≤ ((s 2).peer 2).missed ∧ (1 : Fin 4).val ∉ (s 2).peers ∧ ((s 2).peer 0).state ≠ .live ∧
    (((s 2).setBorrow 2 { BorrowRecord.reset with state := .active .relief }).borrow 2).state.isActive = true := by decide

theorem witness_PathsSoundKept : (waiting peered (.signalLost 16)).PathsSound ∧ ∃ t, step (waiting peered (.signalLost 16)) = .next t := by
  refine ⟨?_, _, rfl⟩
  unfold State.PathsSound State.PathsStill State.LinksStill State.recordsSound
  decide

/-- A RETURN for peer 2 in hand, after a number of failed attempts. -/
def inHand (attempts : Nat) : State :=
  { net with xc := { net.xc with hand := some { msg := .ret 2, built := none }, attempts := attempts } }

theorem witness_ClaimResolved :
    (inHand 2).il.state ≠ .loading ∧ (inHand 2).xc.toDrive = none ∧ (inHand 2).xc.hand = some { msg := .ret 2, built := none } ∧
    (inHand 2).xc.duplicate = false ∧ (inHand 2).xc.rx = .searching ∧ (inHand 2).xc.fillRun + 3 < 4 ∧ 4 ≤ (inHand 2).xc.fillRun + 4 ∧
    claimOf 1 (.ret 2) = 9 ∧ (8 : Word).toNat < (9 : Word).toNat ∧ (9 : Word).toNat < (10 : Word).toNat ∧ (inHand 2).xc.attempts < 3 := by
  decide

/-- The same station with the claim won and the rest of its frame to be driven. -/
def won (attempts : Nat) : State := after (.frameStart [.fill, .fill, .fill, .fill] .sync .sync (.data 9)) (inHand attempts)

theorem witness_AttemptFails :
    let h : Hand := { msg := .ret 2, built := none }
    (won 2).xc.hand = some h ∧ (won 2).xc.toDrive = some ((h.afterClaim 1).map .data) ∧
    (won 2).xc.rx = .inFrame [claimOf 1 h.msg] ∧ h.payload.length ≤ 48 ∧ 2 < (h.afterClaim 1).length ∧
    ((h.afterClaim 1).map LineWord.data)[2]? ≠ some .fill ∧ (won 2).xc.attempts < 3 ∧ 3 ≤ (won 3).xc.attempts := by
  decide +kernel

theorem witness_FrameSentEnds :
    let h : Hand := { msg := .ret 2, built := none }
    (won 0).il.state ≠ .loading ∧ (won 0).xc.hand = some h ∧ (won 0).xc.toDrive = some ((h.afterClaim 1).map .data) ∧
    (won 0).xc.rx = .inFrame [claimOf 1 h.msg] ∧ (won 0).xc.rxOwn = true ∧ h.payload.length ≤ 48 ∧ h.msg.kind ≠ .address ∧
    Msg.kind (.address []) = .address ∧ Tab.wf (won 0).tab.ways = true := by decide +kernel

theorem witness_FrameCarriesMessage :
    let h : Hand := { msg := .ret 1, built := none }
    let s := after (.frameAcquired []) net
    let mine := { s with xc := { s.xc with hand := some { msg := .status 4 net.statusReply, built := none } } }
    net.xc.toDrive = none ∧ net.xc.rx = .searching ∧ s.xc.toDrive = none ∧ s.xc.rx = .inFrame [] ∧ s.xc.rxOwn = false ∧
    s.il.state ≠ .loading ∧ h.msg.dest < 256 ∧ h.payload.length ≤ 48 ∧
    (let z := { s with xc := { s.xc with rx := .inFrame [9, 0] } }
     z.xc.rx = .inFrame [9, 0] ∧ [9, 0].length = 2 ∧ 48 < (49 : Word).toNat) ∧
    (kindOfCode (kindCode .ret) = some .ret ∧ lengthAllowed .ret 0 = true ∧ kindOfCode 255 = none) ∧
    checkWord [2, 3, 0] ≠ checkWord [2, 3, 0] + 1 ∧
    (Kind.level ≠ .status ∧ (9 : Word).toNat % 8 = s.il.station ∧ s.xc.duplicate = false ∧ mine.xc.hand.map (fun h => h.msg.kind) = some .status) ∧
    ((2 : Word).toNat % 8 ≤ 3 ∧ (2 : Word).toNat % 8 ≠ s.il.station ∧ (4 : Word).toNat % 8 = 4) ∧
    s.xc.notices.length < 16 ∧ s.il.state = .configured ∧ s.xc.lostNotices = false ∧
    { s with xc := { s.xc with notices := List.replicate 16 (notice .ret 2 []) } }.xc.notices.length = 16 := by decide +kernel

theorem witness_TransmitterTakesInOrder :
    (inHand 0).xc.hand ≠ none ∧ State.reset.il.state = .loading ∧
    (let s := { net with xc := { net.xc with duplicate := true, normal := [.ret 2, .status 4 net.statusReply] } }
     s.xc.hand = none ∧ s.xc.duplicate = true ∧ s.xc.normal = [.ret 2] ++ Msg.status 4 net.statusReply :: [] ∧
     (∀ x ∈ [Msg.ret 2], x.kind ≠ .status)) ∧
    net.xc.hand = none ∧ net.xc.duplicate = false ∧
    { net with xc := { net.xc with urgent := [.grant 2 .granted] } }.xc.urgent = [.grant 2 .granted] ∧
    { net with xc := { net.xc with normal := [.ret 2] } }.xc.normal = [.ret 2] ∧ net.xc.urgent = [] ∧ net.xc.normal = [] ∧
    { net with tab := { net.tab with outstanding := true } }.tab.outstanding = true ∧
    net.tab.outstanding = false ∧ Tab.wf (holding (.retired .pending)).tab.ways = true ∧
    (∀ e ∈ (holding (.retired .pending)).tab.ways, e.1 < 8192) ∧ (holding (.retired .pending)).tab.build < 8192 ∧
    (Tab.find? (holding (.retired .pending)).tab.ways wayOf).map Entry.mark = some .pending := by decide +kernel

theorem witness_LineSoundKept : (waiting (won 3) (.attemptFailed 0 .fill)).LineSound ∧
    ∃ t, step (waiting (won 3) (.attemptFailed 0 .fill)) = .next t := by
  refine ⟨?_, _, rfl⟩
  unfold State.LineSound
  decide +kernel

/-- A record with every number at the top of its range, and a reply. -/
theorem witness_FormatsRoundTrip :
    let r : BillRecord := { station := 3, tenant := 255, first := 65535, last := 65535, number := 4294967295
                            committed := 281474976710655, excess := 281474976710655, lost := 281474976710655
                            admitted := 4294967295, refused := 4294967295, method := 8, minus := true, magnitude := 2814749767106548
                            inexact := true, saturated := true, unpriced := false, merged := true }
    let x := net.statusReply
    peerLevel.level ≤ 5 ∧ peerLevel.lendCount ≤ 3 ∧ (∀ k < 4, some k = some 0 → k ≤ 3 ∧ k ≠ 2) ∧ 255 ≤ 255 ∧ 15 ≤ 15 ∧
    (r.station ≤ 3 ∧ r.tenant ≤ 255 ∧ r.first ≤ 65535 ∧ r.last ≤ 65535 ∧ r.number ≤ 4294967295 ∧ r.committed ≤ 281474976710655 ∧
      r.excess ≤ 281474976710655 ∧ r.lost ≤ 281474976710655 ∧ r.admitted ≤ 4294967295 ∧ r.refused ≤ 4294967295 ∧ r.method ≤ 8) ∧
    (x.clamped ≤ 65535 ∧ x.level ≤ 5 ∧ x.condition ≤ 8 ∧ x.ports.length = 21 ∧ (∀ y ∈ x.ports, y.stage ≤ 6) ∧
      x.lineErrors ≤ 4294967295 ∧ x.overruns ≤ 4294967295 ∧ x.skipped ≤ 4294967295 ∧ x.badSum ≤ 4294967295 ∧
      x.unclassSum ≤ 4294967295 ∧ x.depth ≤ 64 ∧ x.tenantsPending ≤ 255) := by decide +kernel

theorem witness_LevelStored :
    let s := told peered (notice .level 2 (levelWords peerLevel))
    s.il.state = .configured ∧ s.xc.notices = [notice .level 2 (levelWords peerLevel)] ∧
    readLevel 2 (levelWords peerLevel) = some peerLevel ∧ readLevel 2 [0xFFFF, 0x88] = none ∧
    peerLevel.faultLender ≠ some s.il.station ∧ (s.lend 2) = none ∧
    (let l := { peerLevel with faultLender := some 1 }
     readLevel 2 (levelWords l) = some l ∧ l.faultLender = some s.il.station) ∧
    (s.setLend 2 { reason := .fault, solePath := false }).lend 2 = some { reason := .fault, solePath := false } ∧
    ((s.setBorrow 2 { BorrowRecord.reset with exclusion := 4, noUplink := true }).borrow 2).noUplink = true ∧
    peerLevel.u0.isLive = true := by decide +kernel

theorem witness_StatusFetched :
    let s := told net (notice .statusFetch 7 [])
    s.il.state ≠ .loading ∧ s.xc.notices = [notice .statusFetch 7 []] ∧ s.replyWaits .status 7 = false ∧
    { s with xc := { s.xc with normal := [.status 7 net.statusReply] } }.replyWaits .status 7 = true := by decide +kernel

theorem witness_ReportsMetered :
    let s := { net with bm := { net.bm with usageReports := [{ tenant := 7, length := 64, excess := true }], refusals := [7]
                                            losses := [{ tenant := 7, length := 64 }] } }
    s.bm.usageReports = [{ tenant := 7, length := 64, excess := true }] ∧ s.bm.refusals = [7] ∧
    s.bm.losses = [{ tenant := 7, length := 64 }] := by decide

/-- An expiry of T3 that is due, with a pending set for tenant 255, in a state of the Rating Engine. -/
def closing (r : RateState) : State :=
  { net with
    tb := { net.tb with epochDue := 1, t3 := some 0 }
    re := { state := r }
    um := { net.um with pending := [(255, { usage := { Usage.zero with admitted := 1 }, first := 65534, last := 65535 })] } }

theorem witness_EpochCloses :
    0 < (closing .idle).tb.epochDue ∧ (closing (.computing 255)).re.state = .computing 255 ∧ (closing .idle).re.state = .idle ∧
    255 ∈ tenants ∧ (closing .idle).pendingSet 1 = none ∧
    (closing .idle).pendingSet 255 = some { usage := { Usage.zero with admitted := 1 }, first := 65534, last := 65535 } := by decide

theorem witness_MergeAdds :
    0 < (closing .idle).tb.epochDue ∧ (∀ m, (closing .idle).re.state ≠ .computing m) ∧ 255 ∈ tenants ∧
    (closing .idle).pendingSet 255 = some { usage := { Usage.zero with admitted := 1 }, first := 65534, last := 65535 } :=
  ⟨by decide, fun _ h => (nomatch h), by decide, by decide⟩

theorem witness_RatingWalks :
    let one : PendingSet := { usage := { Usage.zero with admitted := 1 }, first := 65534, last := 65535 }
    (closing (.stepping 254)).re.state = .stepping 254 ∧ (closing (.stepping 254)).pendingSet 254 = none ∧
    (closing (.stepping 255)).pendingSet 255 = some one ∧ one.usage.admitted ≠ 0 ∧
    (closing (.stepping 255)).bq.records.length < 64 ∧ 64 ≤ (collected .fresh).bq.records.length ∧
    ({ net with um := { net.um with pending := [(1, { usage := Usage.zero, first := 1, last := 1 })] } }.pendingSet 1).map
      (fun p : PendingSet => p.usage.allZero) = some true ∧
    (let s := { collected .fresh with bq := { (collected .fresh).bq with slotsFreed := 1 } }
     0 < s.bq.slotsFreed ∧ s.re.state = .waiting 20) ∧
    (let s := { closing (.waiting 255) with bq := { net.bq with slotsFreed := 1 } }
     0 < s.bq.slotsFreed ∧ s.re.state = .waiting 255 ∧ s.pendingSet 255 = some one ∧ one.usage.allZero = false ∧
     s.bq.records.length < 64) ∧ net.re.state = .idle := by decide +kernel

theorem witness_ComputationEnds :
    (closing (.computing 255)).re.state = .computing 255 ∧
    (closing (.computing 255)).pendingSet 255 = some { usage := { Usage.zero with admitted := 1 }, first := 65534, last := 65535 } ∧
    (closing (.computing 255)).um.heldCloses = 0 ∧
    0 < { closing (.computing 255) with um := { (closing (.computing 255)).um with heldCloses := 1 } }.um.heldCloses := by decide

theorem witness_RoundingMethods :
    (50000000000 : Int) - Int.tdiv 50000000000 100000000000 * 100000000000 ≠ 0 ∧
    (500000000001 : Int).tdiv 100000000000 = 5 ∧ (-100000000001 : Int).tdiv 100000000000 = -1 ∧
    (1000000000000 : Int) - Int.tdiv 1000000000000 100000000000 * 100000000000 = 0 := by decide

theorem witness_ChargeInBounds :
    let s := { closing (.computing 7) with um := { net.um with
      pending := [(7, { usage := { Usage.zero with committed := 281474976710655 }, first := 1, last := 1 })] } }
    s.re.state = .computing 7 ∧ (s.pendingSet 7).map (fun p => p.usage.committed) = some 281474976710655 ∧
    (s.tenant 7).rc ≤ 999999999999 ∧ (s.tenant 7).re ≤ 999999999999 ∧ (s.tenant 7).rd ≤ 999999999999 := by decide

theorem witness_FetchesAnswered :
    let s := fun h w => told (collected h) (notice .billFetch 4 [w])
    (s .fresh 0).il.state ≠ .loading ∧ (s .fresh 0).xc.notices = [notice .billFetch 4 [0]] ∧
    (s .fresh 0).replyWaits .billRecord 4 = false ∧ (told net (notice .billFetch 4 [0])).bq.records = [] ∧
    (s .fresh 0).bq.head = .fresh ∧ (s (.shown 6 1) 1).bq.head = .shown 6 1 ∧ 6 ≠ 4 ∧ (s (.shown 4 1) 1).bq.head = .shown 4 1 ∧
    (notice .billFetch 4 [1]).word.getLsbD 0 = true ∧ (notice .billFetch 4 [0]).word.getLsbD 0 = false ∧
    (s .fresh 0).bq.records.length = 64 ∧
    { s .fresh 0 with xc := { (s .fresh 0).xc with normal := [.billRecord 4 .none] } }.replyWaits .billRecord 4 = true := by
  decide +kernel

theorem witness_BillingKept : (waiting net .changeEvent).BillingSound ∧ (waiting net .changeEvent).MeterSound ∧
    (waiting net .changeEvent).StagesSound ∧ (∃ t, step (waiting net .changeEvent) = .next t) ∧
    (collected (.shown 4 2)).bq.records.length ≤ recordSlots ∧
    numbersRun (collected (.shown 4 2)).bq.next (collected (.shown 4 2)).bq.records = true := by
  refine ⟨⟨by decide, by decide, by decide, trivial, by decide, by decide, trivial⟩, ?_, ?_, ⟨_, rfl⟩, by decide, by decide +kernel⟩
  · unfold State.MeterSound; decide
  · unfold State.StagesSound; decide

theorem witness_CanonicalKept : (waiting flying (.copyTransmitted 1)).Canonical ∧
    ∃ t, step (waiting flying (.copyTransmitted 1)) = .next t := by
  refine ⟨?_, _, rfl⟩
  unfold State.Canonical
  decide

/-- R137's case of a freed slot taken before a close: the waiting tenant is COMPUTING, and the close is held. -/
theorem test_slot_freed_then_close :
    let s := { closing (.waiting 255) with bq := { net.bq with slotsFreed := 1 } }
    let t := after .epochClose (after .slotFreed s)
    (after .slotFreed s).re.state = .computing 255 ∧ t.re.state = .computing 255 ∧ t.um.heldCloses = 1 ∧
    t.um.epoch = s.um.epoch := by decide

/-- R121: of two peers that reach a missed count of 3 at one tick, neither is asked to lend in it. -/
theorem test_two_stale_at_one_tick :
    let s := owing { (borrowing (.replacePeer 2)) with pv := { peers := [(2, { livePeer with missed := 2 }), (3, { livePeer with missed := 2 })] } }
    let t := after (.reportTick .peerView) s
    (t.peer 2).state = .stale ∧ (t.peer 3).state = .stale ∧ (t.borrow 2).state = .none ∧ (t.borrow 3).state = .none ∧
    t.hasUnbound = true ∧ t.xc.urgent = [] := by decide +kernel

/-- R1, R2 and R24: a frame complete before the fault of its port is learned from after it, or counted if it is bad; one that was
cut short is discarded uncounted, whatever its frame check. -/
theorem test_learned_after_fault :
    let s := after (.signalLost 0) (taking 0)
    let ends := fun bytes early => after (.frameReception 0 { bytes := bytes, beforeFault := early }) s
    (ends frame64 true).tab.lookup 7 0x020000000001 = .localAt 0 ∧ ((ends (frame64.take 63) true).intake 0).bad = 1 ∧
    (ends frame64 false).tab.lookup 7 0x020000000001 = .miss ∧ ((ends frame64 false).iu.arrivals = []) ∧
    ((ends [0] false).intake 0).bad = 0 := by decide +kernel

end Sys2Proof.Tests
end

section
/-! The epoch close at the Usage Meter (Chapter 9): saturating sums as minima, the merge of two sets of usage, and the pending
sets that a close leaves. -/

namespace Sys2Proof.Machine

open Sys2Proof.Config

/-! ## Saturating sums -/

theorem satAdd_eq_min (largest v n : Nat) : satAdd largest v n = min largest (v + n) := by
  unfold satAdd
  split <;> omega

@[simp] theorem saturates_iff (largest v n : Nat) : saturates largest v n = true ↔ largest < v + n :=
  decide_eq_true_iff

/-! ## The merge (R131) -/

theorem Usage.merge_saturated_iff (p a : Usage) :
    (p.merge a).saturated = true ↔ p.saturated = true ∨ a.saturated = true ∨
      count48 < p.committed + a.committed ∨ count48 < p.excess + a.excess ∨ count48 < p.lost + a.lost ∨
      count32 < p.admitted + a.admitted ∨ count32 < p.refused + a.refused := by
  simp only [Usage.merge, Bool.or_eq_true, saturates_iff, or_assoc]

@[simp] theorem State.buildRecord_saturated (s : State) (n : Nat) (p : PendingSet) :
    (s.buildRecord n p).saturated = p.usage.saturated := rfl

/-! ## The pending sets after a close (R130, R131) -/

theorem State.closedSet_of_pending {s : State} {n : Nat} {p : PendingSet} (hp : s.pendingSet n = some p) :
    s.closedSet n = { usage := p.usage.merge (s.active n), first := p.first, last := s.um.epoch } := by
  simp only [State.closedSet, hp]

theorem State.pendingSet_closeEpoch (s : State) {n : Nat} (hn : n ∈ tenants) :
    s.closeEpoch.pendingSet n = some (s.closedSet n) :=
  (Tab.find?_map s.closedSet tenants n).trans (if_pos hn)

theorem State.isComputing_eq_false {s : State} (h : ∀ m, s.re.state ≠ .computing m) : s.isComputing = false := by
  cases hs : s.re.state with
  | computing m => exact absurd hs (h m)
  | idle | stepping _ | waiting _ => simp only [State.isComputing, hs]

theorem State.meterClose_of_not_computing {s : State} (h : ∀ m, s.re.state ≠ .computing m) :
    s.meterClose = s.closeEpoch := by
  simp only [State.meterClose, State.isComputing_eq_false h, Bool.false_eq_true, if_false]

/-- A close that is due and not held reads the sets as they stand: the time base, which it also counts down, holds none of them. -/
theorem State.pendingSet_takeEpoch {s : State} {n : Nat} (hdue : 0 < s.tb.epochDue)
    (hidle : ∀ m, s.re.state ≠ .computing m) (hn : n ∈ tenants) :
    s.takeEpoch.pendingSet n = some (s.closedSet n) := by
  rw [State.takeEpoch, if_pos hdue, State.meterClose_of_not_computing]
  · exact State.pendingSet_closeEpoch _ hn
  · exact hidle

/-- Settles O52: the tenant's pending set after the close is its `closedSet`, which a present set makes the merge. -/
theorem mergeAdds : Obligations.MergeAdds := by
  intro s n p hdue hidle hn hp a v
  have hclosed := State.pendingSet_takeEpoch hdue hidle hn
  rw [State.closedSet_of_pending hp] at hclosed
  exact ⟨s.takeEpoch, _, rfl, hclosed, rfl, rfl,
    satAdd_eq_min .., satAdd_eq_min .., satAdd_eq_min .., satAdd_eq_min .., satAdd_eq_min ..,
    Usage.merge_saturated_iff v a, State.buildRecord_saturated ..⟩

end Sys2Proof.Machine
end

section
/-! The charge of a record (Chapter 10): the signs of the quotient and the remainder, the two values a method chooses between,
the distance of a charge from its exact sum, and the bounds that follow for every record. -/

namespace Sys2Proof.Machine

open Sys2Proof.Config

/-! ## Quotient and remainder (R144) -/

theorem quotient_neg (x : Int) : quotient (-x) = -quotient x := Int.neg_tdiv ..

theorem remainder_neg (x : Int) : remainder (-x) = -remainder x := by
  simp only [remainder, quotient_neg]
  ring

theorem quotient_remainder_of_nonneg {x : Int} (hx : 0 ≤ x) :
    0 ≤ quotient x ∧ 0 ≤ remainder x ∧ remainder x < microBU := by
  have hq : quotient x = x / microBU := Int.tdiv_eq_ediv_of_nonneg hx
  simp only [remainder, hq, microBU]
  omega

theorem quotient_remainder_of_nonpos {x : Int} (hx : x ≤ 0) :
    quotient x ≤ 0 ∧ remainder x ≤ 0 ∧ -microBU < remainder x := by
  have h := quotient_remainder_of_nonneg (Int.neg_nonneg_of_nonpos hx)
  rw [quotient_neg, remainder_neg] at h
  omega

theorem natAbs_movedAway (x : Int) : (movedAway x).natAbs = (quotient x).natAbs + 1 := by
  unfold movedAway
  split
  next hneg =>
    have := (quotient_remainder_of_nonpos hneg.le).1
    omega
  next hpos =>
    have := (quotient_remainder_of_nonneg (not_lt.mp hpos)).1
    omega

/-! ## The two values of a charge (R144 to R146) -/

theorem roundCharge_of_exact {x : Int} (hr : remainder x = 0) (m : Nat) : roundCharge m x = quotient x :=
  if_neg fun h => h.1 hr

theorem roundCharge_of_inexact {x : Int} (hr : remainder x ≠ 0) (m : Nat) :
    roundCharge m x = if movesAway m x = true then movedAway x else quotient x := by
  simp only [roundCharge, hr, ne_eq, not_false_eq_true, true_and]

theorem halfMicroBU_natAbs : halfMicroBU.natAbs = 50000000000 := rfl

/-- Method 2 moves away above half, and at half when that makes the last digit even. -/
theorem movesAway_two (x : Int) : movesAway 2 x = true ↔
    50000000000 < (remainder x).natAbs ∨ (remainder x).natAbs = 50000000000 ∧ quotient x % 2 ≠ 0 := by
  have hodd : (quotient x).natAbs % 2 = 1 ↔ quotient x % 2 ≠ 0 := by omega
  simp only [movesAway, Bool.or_eq_true, Bool.and_eq_true, decide_eq_true_iff, beq_iff_eq, hodd]
  rw [halfMicroBU_natAbs]

/-- Method 2 as R145's table gives it: above, below and at half. -/
theorem roundCharge_two {x : Int} (hr : remainder x ≠ 0) : roundCharge 2 x =
    if 50000000000 < (remainder x).natAbs then movedAway x
    else if (remainder x).natAbs < 50000000000 then quotient x
    else if quotient x % 2 = 0 then quotient x else movedAway x := by
  simp only [roundCharge_of_inexact hr, movesAway_two]
  obtain hbelow | hhalf | habove := lt_trichotomy (remainder x).natAbs 50000000000
  · simp only [hbelow, hbelow.ne, hbelow.not_gt, false_and, or_false, if_true, if_false]
  · simp only [hhalf, lt_irrefl, true_and, false_or, if_false, ite_not]
  · simp only [habove, true_or, if_true]

theorem movesAway_eight (x : Int) : movesAway 8 x = true ↔
    (quotient x).natAbs % 10 = 0 ∨ (quotient x).natAbs % 10 = 5 := by
  simp only [movesAway, beq_iff_eq]
  omega

/-- A value that method 8 rounds has a last digit that is neither 0 nor 5: a quotient that ends so is moved on to a 1 or a 6. -/
theorem remainder_of_roundCharge_eight {x : Int}
    (h : (roundCharge 8 x).natAbs % 10 = 0 ∨ (roundCharge 8 x).natAbs % 10 = 5) : remainder x = 0 := by
  by_contra hr
  rw [roundCharge_of_inexact hr] at h
  split at h
  next hmove =>
    rw [natAbs_movedAway] at h
    rw [movesAway_eight] at hmove
    omega
  next hkeep => exact hkeep ((movesAway_eight x).mpr h)

/-- Settles O55: each method's row is its case of `movesAway`, at a remainder that is not 0. -/
theorem roundingMethods : Obligations.RoundingMethods := by
  intro x q r half away last
  refine ⟨roundCharge_of_exact, fun hr => ?_, remainder_of_roundCharge_eight⟩
  have hround := roundCharge_of_inexact (x := x) hr
  refine ⟨(hround 1).trans (if_congr decide_eq_true_iff rfl rfl), roundCharge_two hr,
    (hround 3).trans (if_congr decide_eq_true_iff rfl rfl), hround 4, hround 5,
    (hround 6).trans (if_congr decide_eq_true_iff rfl rfl), (hround 7).trans (if_congr decide_eq_true_iff rfl rfl),
    fun hlast => ?_, fun h0 h5 => ?_⟩
  · exact (hround 8).trans (if_pos ((movesAway_eight x).mpr hlast))
  · exact (hround 8).trans (if_neg fun h => ((movesAway_eight x).mp h).elim h0 h5)

/-! ## The bounds (R150) -/

/-- Whatever the method, a charge is less than one micro-BU away from its exact sum. -/
theorem roundCharge_near (m : Nat) (x : Int) :
    x - microBU < roundCharge m x * microBU ∧ roundCharge m x * microBU < x + microBU := by
  have hx : x = quotient x * microBU + remainder x := by simp only [remainder]; ring
  have hneg := quotient_remainder_of_nonpos (x := x)
  have hpos := quotient_remainder_of_nonneg (x := x)
  simp only [microBU] at hx hneg hpos ⊢
  by_cases hr : remainder x = 0
  · rw [roundCharge_of_exact hr]
    omega
  · rw [roundCharge_of_inexact hr, movedAway]
    split_ifs <;> omega

section Bounds

theorem priced_bounds {n r : Nat} (hn : n ≤ 281474976710655) (hr : r ≤ 999999999999) :
    0 ≤ (n : Int) * r ∧ (n : Int) * r ≤ 281474976710655 * 999999999999 :=
  ⟨by positivity, by exact_mod_cast Nat.mul_le_mul hn hr⟩

variable {u : Usage} {t : TenantSettings}
  (hc : u.committed ≤ 281474976710655) (he : u.excess ≤ 281474976710655) (hd : u.lost ≤ 281474976710655)
  (hrc : t.rc ≤ 999999999999) (hre : t.re ≤ 999999999999) (hrd : t.rd ≤ 999999999999)
include hc he hd hrc hre hrd

theorem exactSum_bounds : -(281474976710655 * 999999999999) ≤ exactSum u t ∧
    exactSum u t ≤ 2 * (281474976710655 * 999999999999) := by
  have hcommitted := priced_bounds hc hrc
  have hexcess := priced_bounds he hre
  have hlost := priced_bounds hd hrd
  unfold exactSum
  omega

theorem chargeOf_bounds : -2814749767106548 ≤ chargeOf u t ∧ chargeOf u t ≤ 5629499534213095 := by
  have hsum := exactSum_bounds hc he hd hrc hre hrd
  have hnear := roundCharge_near t.method (exactSum u t)
  unfold chargeOf
  simp only [microBU] at hnear
  split <;> omega

end Bounds

theorem chargeOf_of_invalid {t : TenantSettings} (u : Usage) (h : t.valid = false) : chargeOf u t = 0 := by
  simp only [chargeOf, h, Bool.false_eq_true, if_false]

/-! ## The record of a computation (R135, R148, R153) -/

@[simp] theorem State.buildRecord_minus_iff (s : State) (n : Nat) (p : PendingSet) :
    (s.buildRecord n p).minus = true ↔ chargeOf p.usage (s.tenant n) < 0 := decide_eq_true_iff

@[simp] theorem State.buildRecord_plus_iff (s : State) (n : Nat) (p : PendingSet) :
    (s.buildRecord n p).minus = false ↔ 0 ≤ chargeOf p.usage (s.tenant n) :=
  decide_eq_false_iff_not.trans not_lt

@[simp] theorem State.buildRecord_magnitude (s : State) (n : Nat) (p : PendingSet) :
    (s.buildRecord n p).magnitude = (chargeOf p.usage (s.tenant n)).natAbs := rfl

theorem State.buildRecord_charge_of_unpriced {s : State} {n : Nat} {p : PendingSet}
    (h : (s.buildRecord n p).unpriced = true) : chargeOf p.usage (s.tenant n) = 0 :=
  chargeOf_of_invalid p.usage (by simpa only [State.buildRecord, Bool.not_eq_true'] using h)

/-- The closes held during a computation leave the queue as the computation's record made it. -/
theorem State.computationEnd_records {s : State} {n : Nat} {p : PendingSet} (hs : s.re.state = .computing n)
    (hp : s.pendingSet n = some p) :
    s.computationEnd.bq.records = s.bq.records ++ [{ s.buildRecord n p with number := s.bq.next }] := by
  simp only [State.computationEnd, hs, hp, State.takeHeldCloses_frame, State.advance_frame, State.dropPending_bq,
    BillingQueue.append]

/-- Settles O56: the record is the one `buildRecord` makes, and its sign and magnitude are those of `chargeOf`. -/
theorem chargeInBounds : Obligations.ChargeInBounds := by
  intro s n p hs hp hc he hd hrc hre hrd
  obtain ⟨hlow, hhigh⟩ := chargeOf_bounds hc he hd hrc hre hrd
  have hunpriced := State.buildRecord_charge_of_unpriced (s := s) (n := n) (p := p)
  refine ⟨s.computationEnd, _, rfl, State.computationEnd_records hs hp, ?_⟩
  simp only [State.buildRecord_minus_iff, State.buildRecord_plus_iff, State.buildRecord_magnitude]
  refine ⟨by omega, by omega, by omega, fun h => ?_⟩
  have hzero := hunpriced h
  omega

end Sys2Proof.Machine
end

section
/-! The commands as one function: what each answers, and a step as the front command run on the state with the rest of the
queue. -/

namespace Sys2Proof.Machine

open Sys2Proof.Config

/-- The state a command answers. -/
def State.after (s : State) : Instr → State
  | .reset straps signals => s.resetWith straps signals
  | .imageLoadEnd bytes => s.endLoad bytes
  | .fineTick => s.fineTick
  | .prescalerOutput => s.prescalerOutput
  | .reportTick u => (s.reportTick u).takeFrame
  | .ageTick u => (s.ageTick u).takeFrame
  | .entryAgedOut w => (s.entryAgedOut w).takeFrame
  | .epochClose => s.takeEpoch
  | .windowEnd p => (s.takeWindowEnd p).takeFrame
  | .signalPresent p => s.signalFound p
  | .signalLost p => (s.signalGone p).takeFrame
  | .lineCodeError p => s.codeError p
  | .frameReception p frame => (s.receiveFrame p frame).takeFrame
  | .admission p => s.admitFrom p
  | .copyTransmitted p => s.copyEnds p
  | .holdFrameEnd p => s.holdEnds p
  | .receivedHoldTimerExpiry p => s.holdTick p
  | .heldLimitFlush p => (s.limitFlush p).takeFrame
  | .renewTimerExpiry p => s.renewTick p
  | .changeEvent => s.nextChange.takeFrame
  | .usageReport => s.takeUsage
  | .refusalReport => s.takeRefusal
  | .lossReport => s.takeLoss
  | .scanStep => s.scanTick.takeFrame
  | .peerStale k => (s.peerStale k).takeFrame
  | .showLimitLapse => s.showLapse.takeFrame
  | .requestTimeout k => (s.requestTimeout k).takeFrame
  | .upgradeTimeout k => (s.upgradeTimeout k).takeFrame
  | .exclusionExpiry k => (s.exclusionExpiry k).takeFrame
  | .shedRequest => s.takeShed.takeFrame
  | .returnRequest => s.takeReturn.takeFrame
  | .crosslineFrameReceived ws => (s.hear ws).takeFrame
  | .frameStart gap sync1 sync2 claim => (s.tryStart gap sync1 sync2 claim).takeFrame
  | .attemptFailed good read => (s.lineBreaks good read).takeFrame
  | .frameSent => s.driveOut.takeFrame
  | .levelNotice => s.process (fun n => n.isKind .level) (fun z n => z.levelFrom n.sender n.payload)
  | .addressNotice => s.process (fun n => n.isKind .address) State.actAddress
  | .borrowNotice => s.process (fun n => n.isKind .borrow) State.actBorrow
  | .grantNotice => s.process (fun n => n.isKind .grant) State.actGrant
  | .withdrawNotice => s.process (fun n => n.isKind .withdraw) State.actWithdraw
  | .returnNotice => s.process (fun n => n.isKind .ret) (fun z n => z.returnFrom n.sender)
  | .billFetchPlain => s.process (fun n => n.isKind .billFetch && !n.repeats) (fun z n => z.billFetch n.sender false)
  | .billFetchRepeat => s.process (fun n => n.isKind .billFetch && n.repeats) (fun z n => z.billFetch n.sender true)
  | .statusFetch => s.process (fun n => n.isKind .statusFetch) (fun z n => z.statusFetch n.sender)
  | .ratingStep => s.ratingStep
  | .computationEnd => s.computationEnd
  | .slotFreed => s.slotFreed
  | .frameAcquired gap => (s.hear (gap ++ [.sync, .sync])).takeFrame
  | .receptionBegins p => s.beginReception p

/-- Every command answers a next state: the one `after` gives. -/
theorem exec_eq_next (c : Instr) (s : State) : exec c s = .next (s.after c) := by
  cases c <;> rfl

theorem step_of_pending {s : State} {c : Instr} {rest : List Instr} (h : s.pending = c :: rest) :
    step s = exec c { s with pending := rest } := by
  simp only [step, h]

theorem step_of_idle {s : State} (h : s.pending = []) : step s = .next s := by
  simp only [step, h]

/-- What every command keeps, and what does not look at the queue of commands, every step keeps. -/
theorem step_keeps {P : State → Prop} (hqueue : ∀ s rest, P s → P { s with pending := rest })
    (hcommand : ∀ s c, P s → P (s.after c)) {s t : State} (hs : P s) (h : step s = .next t) : P t := by
  cases hp : s.pending with
  | nil =>
    rw [step_of_idle hp] at h
    cases h
    exact hs
  | cons c rest =>
    rw [step_of_pending hp, exec_eq_next] at h
    cases h
    exact hcommand _ c (hqueue s rest hs)

/-! ## The message processor -/

/-- Processing keeps what the removal of a notice, the act on it and the taking of a frame keep. -/
theorem State.process_keeps {P : State → Prop} {p : Notice → Bool} {act : State → Notice → State} {s : State} (hs : P s)
    (hremove : ∀ n rest, s.xc.notices = n :: rest → P s.removeNotice)
    (hact : ∀ n rest, s.xc.notices = n :: rest → p n = true → P s.removeNotice → P (act s.removeNotice n))
    (htake : ∀ z, P z → P z.takeFrame) : P (s.process p act) := by
  unfold State.process
  split
  · next n rest hn =>
    have hremoved := hremove n rest hn
    split
    · next hp =>
      refine htake _ ?_
      split
      · exact hact n rest hn hp hremoved
      · exact hremoved
    · exact hs
  · exact hs

/-- A value of the state that the removal of a notice, the act and the taking of a frame leave alone. -/
theorem State.process_eq {α : Type} (g : State → α) {p : Notice → Bool} {act : State → Notice → State} (s : State)
    (hremove : g s.removeNotice = g s) (hact : ∀ n, g (act s.removeNotice n) = g s.removeNotice)
    (htake : ∀ z : State, g z.takeFrame = g z) : g (s.process p act) = g s :=
  State.process_keeps (P := fun z => g z = g s) rfl (fun _ _ _ => hremove) (fun n _ _ _ h => (hact n).trans h)
    (fun z h => (htake z).trans h)

/-! ## Ticks, user by user -/

/-- A report tick changes nothing, or is its user's act on the state with the time base counted on. -/
theorem State.reportTick_cases (s : State) (u : ReportUser) :
    s.reportTick u = s ∨ ∃ tb, s.reportTick u = { s with tb := tb }.reportAct u := by
  unfold State.reportTick
  split
  · exact .inr ⟨_, rfl⟩
  · split
    · exact .inr ⟨_, rfl⟩
    · exact .inl rfl

theorem State.ageTick_cases (s : State) (u : AgeUser) :
    s.ageTick u = s ∨ ∃ tb, s.ageTick u = { s with tb := tb }.ageAct u := by
  unfold State.ageTick
  split
  · exact .inr ⟨_, rfl⟩
  · split
    · exact .inr ⟨_, rfl⟩
    · exact .inl rfl

/-- What the time base does not enter and every act keeps, a report tick keeps. -/
theorem State.reportTick_keeps {P : State → Prop} {u : ReportUser} (htb : ∀ (s : State) tb, P s → P { s with tb := tb })
    (hact : ∀ s : State, P s → P (s.reportAct u)) {s : State} (hs : P s) : P (s.reportTick u) := by
  obtain h | ⟨tb, h⟩ := s.reportTick_cases u
  · rwa [h]
  · rw [h]; exact hact _ (htb s tb hs)

theorem State.ageTick_keeps {P : State → Prop} {u : AgeUser} (htb : ∀ (s : State) tb, P s → P { s with tb := tb })
    (hact : ∀ s : State, P s → P (s.ageAct u)) {s : State} (hs : P s) : P (s.ageTick u) := by
  obtain h | ⟨tb, h⟩ := s.ageTick_cases u
  · rwa [h]
  · rw [h]; exact hact _ (htb s tb hs)

theorem State.reportTickIf_keeps {P : State → Prop} {u : ReportUser} (htb : ∀ (s : State) tb, P s → P { s with tb := tb })
    (hact : ∀ s : State, P s → P (s.reportAct u)) {s : State} (b : Bool) (hs : P s) : P (s.reportTickIf u b) := by
  unfold State.reportTickIf
  split
  · exact State.reportTick_keeps htb hact hs
  · exact hs

theorem State.entryAgedOut_keeps {P : State → Prop} (htb : ∀ (s : State) tb, P s → P { s with tb := tb })
    (hact : ∀ s : State, P s → P (s.ageAct .addressTable)) {s : State} (w : Nat) (hs : P s) : P (s.entryAgedOut w) := by
  unfold State.entryAgedOut
  split
  · exact State.ageTick_keeps htb hact hs
  · exact hs

/-- What every step of a fold keeps, the fold keeps. -/
theorem foldl_induct {β : Type} {P : State → Prop} {f : State → β → State} (h : ∀ s b, P s → P (f s b)) {s : State}
    (bs : List β) (hs : P s) : P (bs.foldl f s) := by
  induction bs generalizing s with
  | nil => exact hs
  | cons b bs ih => exact ih (h s b hs)

/-! ## The two statements about the machine -/

theorem State.reportTick_eq {α : Type} (g : State → α) (s : State) (u : ReportUser)
    (htb : ∀ (z : State) tb, g { z with tb := tb } = g z) (hact : ∀ z : State, g (z.reportAct u) = g z) :
    g (s.reportTick u) = g s :=
  State.reportTick_keeps (P := fun z => g z = g s) (fun z tb h => (htb z tb).trans h) (fun z h => (hact z).trans h) rfl

theorem State.ageTick_eq {α : Type} (g : State → α) (s : State) (u : AgeUser)
    (htb : ∀ (z : State) tb, g { z with tb := tb } = g z) (hact : ∀ z : State, g (z.ageAct u) = g z) :
    g (s.ageTick u) = g s :=
  State.ageTick_keeps (P := fun z => g z = g s) (fun z tb h => (htb z tb).trans h) (fun z h => (hact z).trans h) rfl

@[simp] theorem State.reportAct_frame (s : State) (u : ReportUser) :
    (s.reportAct u).il = s.il ∧ (s.reportAct u).cfg = s.cfg ∧ (s.reportAct u).pending = s.pending := by
  cases u <;> simp [State.reportAct]

@[simp] theorem State.ageAct_frame (s : State) (u : AgeUser) :
    (s.ageAct u).il = s.il ∧ (s.ageAct u).cfg = s.cfg ∧ (s.ageAct u).pending = s.pending := by
  cases u <;> simp [State.ageAct]

@[simp] theorem State.reportTick_frame (s : State) (u : ReportUser) :
    (s.reportTick u).il = s.il ∧ (s.reportTick u).cfg = s.cfg ∧ (s.reportTick u).pending = s.pending :=
  ⟨State.reportTick_eq State.il s u (fun _ _ => rfl) (by simp), State.reportTick_eq State.cfg s u (fun _ _ => rfl) (by simp),
    State.reportTick_eq State.pending s u (fun _ _ => rfl) (by simp)⟩

@[simp] theorem State.ageTick_frame (s : State) (u : AgeUser) :
    (s.ageTick u).il = s.il ∧ (s.ageTick u).cfg = s.cfg ∧ (s.ageTick u).pending = s.pending :=
  ⟨State.ageTick_eq State.il s u (fun _ _ => rfl) (by simp), State.ageTick_eq State.cfg s u (fun _ _ => rfl) (by simp),
    State.ageTick_eq State.pending s u (fun _ _ => rfl) (by simp)⟩

@[simp] theorem State.process_il (s : State) (p : Notice → Bool) (act : State → Notice → State)
    (h : ∀ (z : State) n, (act z n).il = z.il) : (s.process p act).il = s.il :=
  State.process_eq State.il s (by simp) (fun n => h _ n) (fun z => by simp)

@[simp] theorem State.process_cfg (s : State) (p : Notice → Bool) (act : State → Notice → State)
    (h : ∀ (z : State) n, (act z n).cfg = z.cfg) : (s.process p act).cfg = s.cfg :=
  State.process_eq State.cfg s (by simp) (fun n => h _ n) (fun z => by simp)

@[simp] theorem State.process_pending (s : State) (p : Notice → Bool) (act : State → Notice → State)
    (h : ∀ (z : State) n, (act z n).pending = z.pending) : (s.process p act).pending = s.pending :=
  State.process_eq State.pending s (by simp) (fun n => h _ n) (fun z => by simp)

theorem State.after_pending (s : State) (c : Instr) : (s.after c).pending = s.pending := by
  cases c <;> simp [State.after, State.resetWith]

theorem State.endLoad_of_ended {s : State} (b : List Byte) (h : s.il.state ≠ .loading) : s.endLoad b = s := if_neg h

/-- Once the load has ended only RESET changes the settings, the station number or the image state. -/
theorem State.after_fixed {s : State} {c : Instr} (hreset : ∀ straps signals, c ≠ .reset straps signals)
    (hended : s.il.state ≠ .loading) : (s.after c).cfg = s.cfg ∧ (s.after c).il = s.il := by
  cases c with
  | reset straps signals => exact absurd rfl (hreset straps signals)
  | imageLoadEnd bytes => simp only [State.after, State.endLoad_of_ended bytes hended, and_self]
  | _ => simp [State.after]

/-- Settles O1. -/
theorem stepTakesFrontCommand : Obligations.StepTakesFrontCommand :=
  ⟨fun _ _ _ h => step_of_pending h, fun _ h => step_of_idle h⟩

/-- Settles O2. -/
theorem everyCommandRuns : Obligations.EveryCommandRuns := by
  intro c s
  exact ⟨s.after c, exec_eq_next c s, s.after_pending c, State.after_fixed⟩

end Sys2Proof.Machine
end

section
/-! Every step keeps every table canonical: each named update does, and every operation is made of them. -/

namespace Sys2Proof.Machine

open Sys2Proof.Config

/-! ## One table -/

section Table

variable {α : Type}

/-- A table in its one canonical form, for a default that is not listed. -/
def Tab.Canon [DecidableEq α] (d : α) (t : Tab α) : Prop := Tab.wf t = true ∧ Tab.noDefault d t = true

theorem Tab.Canon.nil [DecidableEq α] {d : α} : Tab.Canon d [] := ⟨rfl, rfl⟩

theorem Tab.noDefault_iff [DecidableEq α] {d : α} {t : Tab α} : Tab.noDefault d t = true ↔ ∀ e ∈ t, e.2 ≠ d := by
  simp [Tab.noDefault]

theorem Tab.Canon.write [DecidableEq α] {d : α} {t : Tab α} (h : Tab.Canon d t) (k : Nat) (v : α) : Tab.Canon d (Tab.write d t k v) := by
  refine ⟨Tab.wf_write d k v h.1, Tab.noDefault_iff.2 fun e he => ?_⟩
  have hlisted := Tab.noDefault_iff.1 h.2
  unfold Tab.write at he
  split at he
  · exact hlisted e (List.mem_of_mem_filter he)
  · next hv =>
    obtain rfl | he := Tab.mem_put he
    · exact hv
    · exact hlisted e he

theorem Tab.wf_foldl_put {β : Type} (key : β → Nat) (val : β → α) (bs : List β) {t : Tab α} (h : Tab.wf t = true) :
    Tab.wf (bs.foldl (fun t b => Tab.put t (key b) (val b)) t) = true := by
  induction bs generalizing t with
  | nil => exact h
  | cons b bs ih => exact ih (Tab.wf_put _ _ h)

/-- A table made from a rising run of keys. -/
theorem Tab.wf_map {ks : List Nat} (f : Nat → α) (h : ks.Pairwise (· < ·)) : Tab.wf (ks.map fun k => (k, f k)) = true :=
  (Tab.wf_iff _).2 (List.pairwise_map.2 h)

end Table

/-- The tables of the Buffer Manager are canonical. -/
def BufferManager.Canonical (b : BufferManager) : Prop :=
  Tab.Canon 0 b.inUse ∧ Tab.Canon 0 b.queueCells ∧ Tab.wf b.frames = true

/-! ## The named updates -/

namespace State

variable {s : State}

theorem Canonical.setLink (h : s.Canonical) (p : Nat) (l : PortLink) : (s.setLink p l).Canonical :=
  ⟨Tab.Canon.write h.1 p l, h.2⟩

theorem Canonical.setIntake (h : s.Canonical) (p : Nat) (i : PortIntake) : (s.setIntake p i).Canonical := by
  obtain ⟨hls, hiu, hrest⟩ := h
  exact ⟨hls, Tab.Canon.write hiu p i, hrest⟩

theorem Canonical.withWays (h : s.Canonical) {x : AddressTable} (hx : Tab.wf s.tab.ways = true → Tab.wf x.ways = true) :
    ({ s with tab := x } : State).Canonical := by
  obtain ⟨hls, hiu, hways, hrest⟩ := h
  exact ⟨hls, hiu, hx hways, hrest⟩

/-- The Crossline Controller holds no table. -/
theorem Canonical.withLine (h : s.Canonical) (xc : CrosslineController) : ({ s with xc := xc } : State).Canonical := h

theorem Canonical.buffer (h : s.Canonical) : s.bm.Canonical := by
  obtain ⟨-, -, -, hinUse, hcells, hframes, -⟩ := h
  exact ⟨hinUse, hcells, hframes⟩

theorem Canonical.withBuffer (h : s.Canonical) {b : BufferManager} (hb : b.Canonical) :
    ({ s with bm := b } : State).Canonical := by
  obtain ⟨hls, hiu, hways, -, -, -, hrest⟩ := h
  obtain ⟨hinUse, hcells, hframes⟩ := hb
  exact ⟨hls, hiu, hways, hinUse, hcells, hframes, hrest⟩

theorem Canonical.setQueue (h : s.Canonical) (q : Nat) (ds : List Desc) : (s.setQueue q ds).Canonical := by
  obtain ⟨hls, hiu, hways, hinUse, hcells, hframes, hqueues, hrest⟩ := h
  exact ⟨hls, hiu, hways, hinUse, hcells, hframes, Tab.Canon.write hqueues q ds, hrest⟩

theorem Canonical.setTx (h : s.Canonical) (p : Nat) (x : PortTx) : (s.setTx p x).Canonical := by
  obtain ⟨hls, hiu, hways, hinUse, hcells, hframes, hqueues, htx, hrest⟩ := h
  exact ⟨hls, hiu, hways, hinUse, hcells, hframes, hqueues, Tab.Canon.write htx p x, hrest⟩

/-- The tables behind the Egress Scheduler's, in the order of the blocks. -/
def LaterTables (s : State) : Prop :=
  Tab.Canon .unbound s.pu.bindings ∧ Tab.Canon BorrowRecord.reset s.pu.borrows ∧ Tab.wf s.pu.lends = true ∧
    Tab.Canon PeerRecord.reset s.pv.peers ∧ Tab.Canon Usage.zero s.um.active ∧ Tab.wf s.um.pending = true

/-- The tables up to the Egress Scheduler's. -/
def EarlierTables (s : State) : Prop :=
  Tab.Canon PortLink.reset s.ls.ports ∧ Tab.Canon PortIntake.reset s.iu.ports ∧ Tab.wf s.tab.ways = true ∧ s.bm.Canonical ∧
    Tab.Canon [] s.es.queues ∧ Tab.Canon PortTx.reset s.es.ports

theorem canonical_iff : s.Canonical ↔ s.EarlierTables ∧
    (Tab.Canon 0 s.rc.tenantInUse ∧ Tab.Canon PortHold.reset s.rc.ports) ∧ s.LaterTables := by
  simp only [State.Canonical, EarlierTables, LaterTables, BufferManager.Canonical, Tab.Canon, and_assoc]

theorem Canonical.withRelief (h : s.Canonical) {r : ReliefController} (hinUse : Tab.Canon 0 r.tenantInUse)
    (hports : Tab.Canon PortHold.reset r.ports) : ({ s with rc := r } : State).Canonical := by
  obtain ⟨hearlier, -, hlater⟩ := canonical_iff.1 h
  exact canonical_iff.2 ⟨hearlier, ⟨hinUse, hports⟩, hlater⟩

theorem Canonical.relief (h : s.Canonical) : Tab.Canon 0 s.rc.tenantInUse ∧ Tab.Canon PortHold.reset s.rc.ports :=
  (canonical_iff.1 h).2.1

theorem Canonical.later (h : s.Canonical) : s.LaterTables := (canonical_iff.1 h).2.2

theorem Canonical.setHold (h : s.Canonical) (p : Nat) (x : PortHold) : (s.setHold p x).Canonical :=
  h.withRelief h.relief.1 (h.relief.2.write p x)

/-- A new Path Unit, Peer View and Usage Meter with canonical tables. -/
theorem Canonical.withLater (h : s.Canonical) {pu : PathUnit} {pv : PeerView} {um : UsageMeter}
    (hlater : LaterTables { s with pu := pu, pv := pv, um := um }) :
    ({ s with pu := pu, pv := pv, um := um } : State).Canonical := by
  obtain ⟨hearlier, hrelief, -⟩ := canonical_iff.1 h
  exact canonical_iff.2 ⟨hearlier, hrelief, hlater⟩

theorem Canonical.setBinding (h : s.Canonical) (i : Nat) (b : Binding) : (s.setBinding i b).Canonical := by
  obtain ⟨hbindings, hrest⟩ := h.later
  exact h.withLater ⟨hbindings.write i b, hrest⟩

theorem Canonical.setBorrow (h : s.Canonical) (k : Nat) (b : BorrowRecord) : (s.setBorrow k b).Canonical := by
  obtain ⟨hbindings, hborrows, hrest⟩ := h.later
  exact h.withLater ⟨hbindings, hborrows.write k b, hrest⟩

theorem Canonical.setLend (h : s.Canonical) (k : Nat) (l : LendRecord) : (s.setLend k l).Canonical := by
  obtain ⟨hbindings, hborrows, hlends, hrest⟩ := h.later
  exact h.withLater ⟨hbindings, hborrows, Tab.wf_put k l hlends, hrest⟩

theorem Canonical.dropLend (h : s.Canonical) (k : Nat) : (s.dropLend k).Canonical := by
  obtain ⟨hbindings, hborrows, hlends, hrest⟩ := h.later
  exact h.withLater ⟨hbindings, hborrows, Tab.wf_drop k hlends, hrest⟩

theorem Canonical.setPeer (h : s.Canonical) (k : Nat) (r : PeerRecord) : (s.setPeer k r).Canonical := by
  obtain ⟨hbindings, hborrows, hlends, hpeers, hrest⟩ := h.later
  exact h.withLater ⟨hbindings, hborrows, hlends, hpeers.write k r, hrest⟩

theorem Canonical.withMeter (h : s.Canonical) {um : UsageMeter} (hactive : Tab.Canon Usage.zero um.active)
    (hpending : Tab.wf um.pending = true) : ({ s with um := um } : State).Canonical := by
  obtain ⟨hbindings, hborrows, hlends, hpeers, -, -⟩ := h.later
  exact h.withLater ⟨hbindings, hborrows, hlends, hpeers, hactive, hpending⟩

theorem Canonical.meter (h : s.Canonical) : Tab.Canon Usage.zero s.um.active ∧ Tab.wf s.um.pending = true := by
  obtain ⟨-, -, -, -, hmeter⟩ := h.later
  exact hmeter

theorem Canonical.setActive (h : s.Canonical) (n : Nat) (u : Usage) : (s.setActive n u).Canonical :=
  h.withMeter (h.meter.1.write n u) h.meter.2

theorem Canonical.dropPending (h : s.Canonical) (n : Nat) : (s.dropPending n).Canonical :=
  h.withMeter h.meter.1 (Tab.wf_drop n h.meter.2)

theorem Canonical.each (h : s.Canonical) (ks : List Nat) {f : State → Nat → State}
    (hf : ∀ {z : State} k, z.Canonical → (f z k).Canonical) : (s.each ks f).Canonical :=
  foldl_induct (P := State.Canonical) (fun _ k hz => hf k hz) ks h

theorem Canonical.mapLinks (h : s.Canonical) (ps : List Nat) (f : PortLink → PortLink) : (s.mapLinks ps f).Canonical :=
  h.each ps fun p hz => hz.setLink p _

theorem Canonical.mapTx (h : s.Canonical) (ps : List Nat) (f : PortTx → PortTx) : (s.mapTx ps f).Canonical :=
  h.each ps fun p hz => hz.setTx p _

theorem Canonical.mapHolds (h : s.Canonical) (ps : List Nat) (f : PortHold → PortHold) : (s.mapHolds ps f).Canonical :=
  h.each ps fun p hz => hz.setHold p _

theorem Canonical.mapBorrows (h : s.Canonical) (ks : List Nat) (f : BorrowRecord → BorrowRecord) :
    (s.mapBorrows ks f).Canonical :=
  h.each ks fun k hz => hz.setBorrow k _

theorem Canonical.mapPeers (h : s.Canonical) (ks : List Nat) (f : PeerRecord → PeerRecord) : (s.mapPeers ks f).Canonical :=
  h.each ks fun k hz => hz.setPeer k _

theorem Canonical.rebind (h : s.Canonical) (is : List Nat) (f : Nat → Binding) : (s.rebind is f).Canonical :=
  h.each is fun i hz => hz.setBinding i _

end State

/-! ## The Address Table -/

theorem AddressTable.wf_learn {x : AddressTable} (h : Tab.wf x.ways = true) (n : Nat) (a : Addr) (p : Nat) :
    Tab.wf (x.learn n a p).ways = true := by
  unfold AddressTable.learn
  split
  · split
    · split <;> exact Tab.wf_put _ _ h
    · exact Tab.wf_put _ _ h
    · exact Tab.wf_put _ _ h
  · split
    · exact Tab.wf_put _ _ h
    · exact h

theorem AddressTable.wf_apply {x : AddressTable} (h : Tab.wf x.ways = true) (self k : Nat) (m : AddressEntry) :
    Tab.wf (x.apply self k m).ways = true := by
  unfold AddressTable.apply
  dsimp only
  split
  · exact h
  · split
    · split
      · split
        · split
          · exact Tab.wf_drop _ h
          · exact h
        all_goals exact h
      · split
        · exact Tab.wf_put _ _ h
        · exact Tab.wf_put _ _ h
        · split <;> exact Tab.wf_put _ _ h
    · split
      · exact h
      · split
        · exact Tab.wf_put _ _ h
        · exact h

theorem AddressTable.wf_applyAll {x : AddressTable} (h : Tab.wf x.ways = true) (self k : Nat) (ms : List AddressEntry) :
    Tab.wf (x.applyAll self k ms).ways = true := by
  unfold AddressTable.applyAll
  split
  · exact h
  · induction ms generalizing x with
    | nil => exact h
    | cons m ms ih => exact ih (AddressTable.wf_apply h self k m)

theorem AddressTable.wf_scanStep {x : AddressTable} (h : Tab.wf x.ways = true) : Tab.wf x.scanStep.ways = true := by
  unfold AddressTable.scanStep
  split
  · exact h
  · exact Tab.wf_filterMap _ h

theorem AddressTable.wf_buildContent {x y : AddressTable} {es : List AddressEntry} (h : Tab.wf x.ways = true)
    (hy : x.buildContent = some (es, y)) : Tab.wf y.ways = true := by
  unfold AddressTable.buildContent at hy
  split at hy
  · cases hy
  · split at hy
    · cases hy
    · cases hy
      exact Tab.wf_foldl_put _ _ _ h

/-! ## The Buffer Manager -/

theorem BufferManager.Canonical.sendChange {b : BufferManager} (h : b.Canonical) (c : Change) : (b.sendChange c).Canonical := by
  unfold BufferManager.sendChange
  split <;> exact h

theorem BufferManager.Canonical.giveBack {b : BufferManager} (h : b.Canonical) (q n : Nat) : (b.giveBack q n).Canonical := by
  obtain ⟨hinUse, hcells, hframes⟩ := h
  exact ⟨hinUse, hcells.write q _, hframes⟩

theorem BufferManager.Canonical.freeFrame {b : BufferManager} (h : b.Canonical) (id : Nat) (f : StoredFrame) :
    (b.freeFrame id f).Canonical := by
  obtain ⟨hinUse, hcells, hframes⟩ := h
  exact ⟨hinUse.write f.tenant _, hcells, Tab.wf_drop id hframes⟩

theorem BufferManager.Canonical.putFrame {b : BufferManager} (h : b.Canonical) (id : Nat) (f : StoredFrame) :
    ({ b with frames := Tab.put b.frames id f } : BufferManager).Canonical := by
  obtain ⟨hinUse, hcells, hframes⟩ := h
  exact ⟨hinUse, hcells, Tab.wf_put id f hframes⟩

theorem BufferManager.Canonical.release {b : BufferManager} (h : b.Canonical) (d : Desc) (o : ReleaseOutcome) :
    (b.release d o).Canonical := by
  unfold BufferManager.release
  split
  · exact h
  · refine BufferManager.Canonical.sendChange ?_ _
    split
    · exact (h.giveBack _ _).freeFrame _ _
    · exact (h.giveBack _ _).putFrame _ _

theorem Tab.Canon.foldl_write {β : Type} {t : Tab Nat} (h : Tab.Canon 0 t) (key : β → Nat) (n : Nat) (bs : List β) :
    Tab.Canon 0 (bs.foldl (fun q b => Tab.write 0 q (key b) (Tab.read 0 q (key b) + n)) t) := by
  induction bs generalizing t with
  | nil => exact h
  | cons b bs ih => exact ih (h.write _ _)

theorem BufferManager.Canonical.admitFrame {b : BufferManager} (h : b.Canonical) (a : Arrival) (ds : List Dest) (w : Decision) :
    (b.admitFrame a ds w).Canonical := by
  obtain ⟨hinUse, hcells, hframes⟩ := h
  refine BufferManager.Canonical.sendChange ⟨hinUse.write _ _, ?_, Tab.wf_put _ _ hframes⟩ _
  exact hcells.foldl_write _ _ ds

namespace State

variable {s : State}

/-! ## The Crossline: only ADDRESS content touches a table -/

theorem Canonical.askAddress (h : s.Canonical) : s.askAddress.Canonical := by
  unfold State.askAddress
  split
  · next hx =>
    exact h.withWays (AddressTable.wf_buildContent · hx)
  · exact h

theorem Canonical.takeFrame (h : s.Canonical) : s.takeFrame.Canonical := by
  unfold State.takeFrame
  split
  · exact h
  · split
    · split <;> exact h
    · split
      · exact h
      · split
        · exact h
        · split
          · exact h.askAddress
          · exact h

theorem Canonical.sendBorrow (h : s.Canonical) (k : Nat) (r : Reason) : (s.sendBorrow k r).Canonical := h

theorem Canonical.sendGrant (h : s.Canonical) (k : Nat) (r : GrantResult) : (s.sendGrant k r).Canonical := by
  unfold State.sendGrant
  split <;> exact h

theorem Canonical.sendWithdraw (h : s.Canonical) (k : Nat) (r : WithdrawReason) : (s.sendWithdraw k r).Canonical := h

theorem Canonical.sendReturn (h : s.Canonical) (k : Nat) : (s.sendReturn k).Canonical := h

theorem Canonical.queueNormal (h : s.Canonical) (m : Msg) : (s.queueNormal m).Canonical := h

theorem Canonical.queueLevel (h : s.Canonical) : s.queueLevel.Canonical := by
  unfold State.queueLevel
  split <;> exact h

theorem Canonical.ownerSent (h : s.Canonical) (x : Hand) : (s.ownerSent x).Canonical := by
  unfold State.ownerSent
  split
  · exact h.withWays (Tab.wf_filterMap _)
  · split
    · split <;> exact h
    · exact h
  all_goals exact h

theorem Canonical.ownerDiscarded (h : s.Canonical) (x : Hand) : (s.ownerDiscarded x).Canonical := by
  unfold State.ownerDiscarded
  split
  · exact h.withWays (Tab.wf_filterMap _)
  all_goals exact h

theorem Canonical.discardHand (h : s.Canonical) : s.discardHand.Canonical := by
  unfold State.discardHand
  split
  · exact h.ownerDiscarded _
  · exact h

theorem Canonical.failAttempt (h : s.Canonical) : s.failAttempt.Canonical := by
  unfold State.failAttempt
  dsimp only
  split
  · split
    · exact (h.withLine _).discardHand
    · exact h
  · exact h

theorem Canonical.offerNotice (h : s.Canonical) (n : Notice) : (s.offerNotice n).Canonical := by
  unfold State.offerNotice
  split
  · exact h
  · dsimp only
    split
    · exact h
    · exact (h.withLine _).queueLevel

theorem Canonical.filterFrame (h : s.Canonical) (sender h1 : Nat) (ws : List Word) : (s.filterFrame sender h1 ws).Canonical := by
  unfold State.filterFrame
  split
  · exact h
  · split
    · split
      · exact h.offerNotice _
      · exact h
    · exact h

theorem Canonical.noteDuplicate (h : s.Canonical) (sender h1 : Nat) : (s.noteDuplicate sender h1).Canonical := by
  unfold State.noteDuplicate
  split
  · dsimp only
    split
    · split
      · exact h
      · exact (h.withLine _).discardHand
    · exact h
  · exact h

theorem Canonical.frameComplete (h : s.Canonical) (ws : List Word) : (s.frameComplete ws).Canonical := by
  unfold State.frameComplete
  split
  · exact h
  · exact (h.noteDuplicate _ _).filterFrame _ _ _

theorem Canonical.takeFrameWord (h : s.Canonical) (ws : List Word) (w : Word) : (s.takeFrameWord ws w).Canonical := by
  unfold State.takeFrameWord
  dsimp only
  split
  · exact h
  · split
    · split
      · exact Canonical.frameComplete (by exact h) ws
      · exact h
    · exact h

theorem Canonical.rxWord (h : s.Canonical) (w : LineWord) : (s.rxWord w).Canonical := by
  unfold State.rxWord
  split
  · split <;> exact h
  · split <;> exact h
  · split
    · exact h
    · exact h
    · exact h.takeFrameWord _ _

theorem Canonical.rxWords (h : s.Canonical) (ws : List LineWord) : (s.rxWords ws).Canonical := by
  unfold State.rxWords
  split
  · exact h
  · exact foldl_induct (P := State.Canonical) (fun _ w hz => hz.rxWord w) ws h

theorem Canonical.resolveClaim (h : s.Canonical) (x : Hand) (w : LineWord) : (s.resolveClaim x w).Canonical := by
  unfold State.resolveClaim
  split
  · split
    · exact h
    · split
      · exact h
      · exact (h.withLine _).failAttempt
  · exact ((h.withLine _).rxWord .sync).failAttempt
  · exact ((h.withLine _).rxWord .fill).failAttempt

theorem Canonical.beginAttempt (h : s.Canonical) (x : Hand) : (s.beginAttempt x).Canonical := by
  unfold State.beginAttempt
  split <;> exact h

theorem Canonical.startFrame (h : s.Canonical) (x : Hand) (w1 w2 c : LineWord) : (s.startFrame x w1 w2 c).Canonical := by
  unfold State.startFrame
  have hbegun := h.beginAttempt x
  dsimp only
  split
  · exact (hbegun.rxWord w1).failAttempt
  · split
    · exact (Canonical.rxWord (by exact hbegun) w2).failAttempt
    · exact hbegun.resolveClaim _ c

theorem Canonical.hear (h : s.Canonical) (ws : List LineWord) : (s.hear ws).Canonical := by
  unfold State.hear
  split
  · exact h
  · exact h.rxWords ws

theorem Canonical.tryStart (h : s.Canonical) (gap : List LineWord) (w1 w2 c : LineWord) : (s.tryStart gap w1 w2 c).Canonical := by
  unfold State.tryStart
  split
  · exact h
  · dsimp only
    split
    · split
      · exact (h.rxWords gap).startFrame _ w1 w2 c
      · exact h.rxWords gap
    · exact h.rxWords gap

theorem Canonical.lineBreaks (h : s.Canonical) (good : Nat) (w : LineWord) : (s.lineBreaks good w).Canonical := by
  unfold State.lineBreaks
  split
  · split
    · exact ((h.withLine _).rxWords _).failAttempt
    · exact h
  · exact h

theorem Canonical.driveOut (h : s.Canonical) : s.driveOut.Canonical := by
  unfold State.driveOut
  split
  · exact Canonical.ownerSent (by exact h.rxWords _) _
  · exact h.rxWords _
  · exact h

/-! ## Egress -/

theorem Canonical.release (h : s.Canonical) (x : Desc) (o : ReleaseOutcome) : (s.release x o).Canonical :=
  h.withBuffer (h.buffer.release x o)

theorem Canonical.select (h : s.Canonical) (p : Nat) : (s.select p).Canonical := by
  unfold State.select
  dsimp only
  split
  · split
    · exact h
    · split
      · exact h.setTx p _
      · split
        · exact (h.setQueue _ _).setTx p _
        · exact h
    · split
      · exact h.setTx p _
      · exact h
  · exact h

theorem Canonical.holdRequest (h : s.Canonical) (p time : Nat) : (s.holdRequest p time).Canonical := by
  unfold State.holdRequest
  split
  · exact (h.setTx p _).select p
  · exact h

theorem Canonical.endHold (h : s.Canonical) (p : Nat) : (s.endHold p).Canonical := by
  unfold State.endHold
  dsimp only
  split
  · exact (h.setTx p _).select p
  · exact h.setTx p _
  · exact h.setTx p _

theorem Canonical.receivedHold (h : s.Canonical) (p time : Nat) : (s.receivedHold p time).Canonical := by
  unfold State.receivedHold
  split
  · split
    · split
      · exact h.endHold p
      · exact h
    · exact h.setTx p _
  · exact h

theorem Canonical.flushQueue (h : s.Canonical) (q : Nat) : (s.flushQueue q).Canonical :=
  foldl_induct (P := State.Canonical) (fun _ x hz => hz.release x .flushed) _ (h.setQueue q [])

theorem Canonical.flushQueues (h : s.Canonical) (p : Nat) : (s.flushQueues p).Canonical :=
  (((h.flushQueue _).flushQueue _).flushQueue _).flushQueue _

theorem Canonical.truncate (h : s.Canonical) (p : Nat) : (s.truncate p).Canonical := by
  unfold State.truncate
  split
  · exact h.release _ _
  all_goals exact h

theorem Canonical.linkLoss (h : s.Canonical) (p : Nat) : (s.linkLoss p).Canonical :=
  ((h.truncate p).flushQueues p).setTx p _

theorem Canonical.placeCopy (h : s.Canonical) (x : Desc) : (s.placeCopy x).Canonical := by
  unfold State.placeCopy
  split
  · exact (h.setQueue _ _).select _
  · exact h.release x _

theorem Canonical.admitArrival (h : s.Canonical) (a : Arrival) : (s.admitArrival a).Canonical := by
  unfold State.admitArrival
  dsimp only
  split
  · split <;> exact h
  · exact foldl_induct (P := State.Canonical) (fun _ x hz => hz.placeCopy x) _ (h.withBuffer (h.buffer.admitFrame ..))

/-! ## The Relief Controller -/

theorem Canonical.reofferLend (h : s.Canonical) : s.reofferLend.Canonical := by
  unfold State.reofferLend
  split
  · exact h
  · exact Canonical.queueLevel (by exact h)

theorem Canonical.compareHold (h : s.Canonical) (p : Nat) : (s.compareHold p).Canonical := by
  unfold State.compareHold
  dsimp only
  split
  · exact (h.setHold p _).holdRequest p _
  · split
    · exact (h.setHold p _).holdRequest p _
    · exact h

theorem Canonical.compareHolds (h : s.Canonical) : s.compareHolds.Canonical := h.each _ fun p hz => hz.compareHold p

theorem Canonical.holdFault (h : s.Canonical) (p : Nat) : (s.holdFault p).Canonical := (h.setHold p _).compareHolds

theorem Canonical.evaluateStages (h : s.Canonical) : s.evaluateStages.Canonical := by
  unfold State.evaluateStages
  dsimp only
  split
  · exact h
  · exact (Canonical.queueLevel (by exact h)).reofferLend

theorem Canonical.evaluateTenants (h : s.Canonical) : s.evaluateTenants.Canonical := by
  unfold State.evaluateTenants
  dsimp only
  split
  · exact h
  · exact Canonical.compareHolds (by exact h)

theorem Canonical.store (h : s.Canonical) (c : Change) : ({ s with rc := s.rc.store c } : State).Canonical := by
  refine h.withRelief ?_ h.relief.2
  unfold ReliefController.store
  dsimp only
  split
  · exact h.relief.1.write _ _
  · exact h.relief.1

theorem Canonical.takeChange (h : s.Canonical) (c : Change) : (s.takeChange c).Canonical := by
  unfold State.takeChange
  have hstages : (if c.measure.isSome then ({ s with rc := s.rc.store c } : State).evaluateStages
      else { s with rc := s.rc.store c }).Canonical := by
    split
    · exact (h.store c).evaluateStages
    · exact h.store c
  dsimp only
  split
  · exact hstages.evaluateTenants
  · exact hstages

theorem Canonical.shedDecision (h : s.Canonical) : s.shedDecision.Canonical := by
  unfold State.shedDecision
  repeat' split
  all_goals exact h

theorem Canonical.renewHold (h : s.Canonical) (p : Nat) : (s.renewHold p).Canonical := (h.setHold p _).holdRequest p _

/-! ## The Path Unit -/

theorem Canonical.replacePaths (h : s.Canonical) (e : Option Nat) (f : Nat → Binding → Bool) : (s.replacePaths e f).Canonical :=
  h.rebind _ _

theorem Canonical.bindUnbound (h : s.Canonical) (k : Nat) : (s.bindUnbound k).Canonical := h.rebind _ _

theorem Canonical.request (h : s.Canonical) (k : Nat) (r : Reason) : (s.request k r).Canonical := h.setBorrow k _

theorem Canonical.faultRequest (h : s.Canonical) : s.faultRequest.Canonical := by
  unfold State.faultRequest
  split
  · split
    · exact h.request _ _
    · exact h
  · exact h

theorem Canonical.abandonFault (h : s.Canonical) : s.abandonFault.Canonical := by
  unfold State.abandonFault
  split
  · exact h
  · exact h.mapBorrows _ _

theorem Canonical.freeRecord (h : s.Canonical) (k : Nat) : (s.freeRecord k).Canonical := by
  unfold State.freeRecord
  split
  · dsimp only
    split <;> exact h.setBorrow k _
  · exact h

theorem Canonical.settlePaths (h : s.Canonical) : s.settlePaths.Canonical :=
  ((h.each _ fun k hz => hz.freeRecord k).abandonFault).faultRequest

theorem Canonical.reportPaths (before : State) (h : s.Canonical) : (before.reportPaths s).Canonical := by
  unfold State.reportPaths
  have hlevel : (if before.pathReport = s.pathReport then s else s.queueLevel).Canonical := by
    split
    · exact h
    · exact h.queueLevel
  dsimp only
  split
  · exact hlevel
  · exact hlevel.reofferLend

theorem Canonical.upgrade (h : s.Canonical) (k : Nat) : (s.upgrade k).Canonical := h.setBorrow k _

theorem Canonical.moveSplit (h : s.Canonical) (u : Nat) : (s.moveSplit u).Canonical := by
  unfold State.moveSplit
  dsimp only
  split
  · exact h.rebind _ _
  · split
    · exact h.rebind _ _
    · split
      · exact h.rebind _ _
      · exact (h.rebind _ _).each _ fun k hz => hz.upgrade k

theorem Canonical.emptyLends (h : s.Canonical) : s.emptyLends.Canonical := h.each _ fun k hz => hz.dropLend k

theorem Canonical.pathsUplinkFault (h : s.Canonical) (u : Nat) : (s.pathsUplinkFault u).Canonical := by
  unfold State.pathsUplinkFault
  have hmoved := ((Canonical.replacePaths (s := s.setSole) h none (fun i b => b == .home && s.homePort i == u)).moveSplit
    u).replacePaths none (fun i b => b == .replaceUplink && otherUplink (s.homePort i) == u)
  refine Canonical.reportPaths s (Canonical.settlePaths ?_)
  split
  · exact hmoved
  · exact hmoved.emptyLends

theorem Canonical.pathsUplinkUp (h : s.Canonical) (u : Nat) : (s.pathsUplinkUp u).Canonical :=
  Canonical.reportPaths s (Canonical.rebind (s := s.setSole) h paths _).settlePaths

theorem Canonical.pathsCrossUp (h : s.Canonical) : s.pathsCrossUp.Canonical := Canonical.reportPaths s h.faultRequest

theorem Canonical.endArrangements (h : s.Canonical) (k : Nat) : (s.endArrangements k).Canonical := by
  unfold State.endArrangements
  refine Canonical.dropLend (Canonical.setBorrow ?_ k _) k
  split
  · exact h.replacePaths _ _
  · exact h

theorem Canonical.pathsPeerLost (h : s.Canonical) (k : Nat) : (s.pathsPeerLost k).Canonical :=
  Canonical.reportPaths s (h.endArrangements k).settlePaths

theorem Canonical.splitLowest (h : s.Canonical) (k : Nat) : (s.splitLowest k).Canonical := by
  unfold State.splitLowest
  split
  · exact h.setBinding _ _
  · exact h

theorem Canonical.loseLender (h : s.Canonical) (k : Nat) (noUplink : Bool) : (s.loseLender k noUplink).Canonical :=
  (h.replacePaths _ _).setBorrow k _

theorem Canonical.grantFrom (h : s.Canonical) (k : Nat) (g : GrantResult) : (s.grantFrom k g).Canonical := by
  unfold State.grantFrom
  dsimp only
  split
  · split
    · split
      · exact Canonical.reportPaths s ((h.setBorrow k _).bindUnbound k).settlePaths
      · exact Canonical.reportPaths s ((h.setBorrow k _).splitLowest k).settlePaths
    · exact Canonical.reportPaths s (h.setBorrow k _).settlePaths
  · split
    · split
      · exact Canonical.reportPaths s ((h.setBorrow k _).bindUnbound k).settlePaths
      · exact Canonical.reportPaths s (h.loseLender k _).settlePaths
    · exact h
  · split <;> exact h

theorem Canonical.withdrawFrom (h : s.Canonical) (k : Nat) (w : WithdrawReason) : (s.withdrawFrom k w).Canonical := by
  unfold State.withdrawFrom
  dsimp only
  split
  · exact Canonical.reportPaths s (h.loseLender k _).settlePaths
  · exact Canonical.reportPaths s (h.setBorrow k _).settlePaths
  · exact h

theorem Canonical.shed (h : s.Canonical) : s.shed.Canonical := by
  unfold State.shed
  split
  · exact Canonical.reportPaths s (h.splitLowest _).settlePaths
  · split
    · exact h
    · split
      · exact Canonical.reportPaths s (h.request _ _).settlePaths
      · exact h

theorem Canonical.giveBackPath (h : s.Canonical) : s.giveBackPath.Canonical := by
  unfold State.giveBackPath
  split
  · exact Canonical.reportPaths s (h.setBinding _ _).settlePaths
  · split
    · exact Canonical.reportPaths s (h.setBorrow _ _).settlePaths
    · exact h

theorem Canonical.lendFault (h : s.Canonical) (k : Nat) (sole : Bool) : (s.lendFault k sole).Canonical :=
  (h.setLend k _).sendGrant k _

theorem Canonical.lendRelief (h : s.Canonical) (k : Nat) : (s.lendRelief k).Canonical := (h.setLend k _).sendGrant k _

theorem Canonical.refuse (h : s.Canonical) (k : Nat) (r : Reason) (g : GrantResult) : (s.refuse k r g).Canonical := by
  unfold State.refuse
  refine Canonical.sendGrant ?_ k g
  split
  · exact h.dropLend k
  · exact h

theorem Canonical.answerRelief (h : s.Canonical) (k : Nat) : (s.answerRelief k).Canonical := by
  unfold State.answerRelief
  split
  · exact h.refuse _ _ _
  · split
    · exact h.refuse _ _ _
    · split
      · split
        · exact h.refuse _ _ _
        · exact (h.setBorrow k _).lendRelief k
      · exact h.lendRelief k

theorem Canonical.answerBorrow (h : s.Canonical) (k : Nat) (r : Reason) (sole : Bool) : (s.answerBorrow k r sole).Canonical := by
  unfold State.answerBorrow
  split
  · exact h.lendFault k sole
  · split
    · exact h.sendGrant k _
    · split
      · exact h.answerRelief k
      · exact h.refuse _ _ _
  · split
    · exact h.lendFault k sole
    · exact h.refuse _ _ _
  · split
    · exact h.answerRelief k
    · exact h.refuse _ _ _

theorem Canonical.borrowFrom (h : s.Canonical) (k : Nat) (r : Reason) (sole : Bool) : (s.borrowFrom k r sole).Canonical := by
  unfold State.borrowFrom
  split
  · exact Canonical.reportPaths s (h.answerBorrow k r sole)
  · exact h

theorem Canonical.returnFrom (h : s.Canonical) (k : Nat) : (s.returnFrom k).Canonical := Canonical.reportPaths s (h.dropLend k)

theorem Canonical.lendCheck (h : s.Canonical) (k : Nat) (l : LevelFields) : (s.lendCheck k l).Canonical := by
  unfold State.lendCheck
  extract_lets names checked record rejoined
  have hchecked : checked.Canonical := by
    unfold checked
    split
    · split
      · split
        · exact h.setLend k _
        · exact h
      · exact h.dropLend k
    · exact h
  refine Canonical.reportPaths s ?_
  unfold rejoined
  split
  · exact hchecked.setBorrow k _
  · exact hchecked

theorem Canonical.stagedReturn (h : s.Canonical) : s.stagedReturn.Canonical := by
  unfold State.stagedReturn
  split
  · exact h.setBinding _ _
  · exact h

theorem Canonical.withdrawOne (h : s.Canonical) : s.withdrawOne.Canonical := by
  unfold State.withdrawOne
  split
  · split
    · exact h.dropLend _
    · split
      · exact h.dropLend _
      · exact h
  · exact h

theorem Canonical.requestTick (h : s.Canonical) (k : Nat) : (s.requestTick k).Canonical := by
  unfold State.requestTick
  dsimp only
  split
  · split
    · exact h.setBorrow k _
    · split <;> exact h.setBorrow k _
    · exact h
  · split
    · exact h.setBorrow k _
    · exact h

theorem Canonical.pathTick (h : s.Canonical) : s.pathTick.Canonical := by
  have htimers : s.tickPaths.tickTimers.Canonical :=
    ((h.stagedReturn.faultRequest.withdrawOne).each _ fun k hz => hz.requestTick k).mapBorrows _ _
  exact Canonical.reportPaths s (htimers.each _ fun k hz => hz.freeRecord k).abandonFault

/-! ## The Link Supervisor -/

theorem Canonical.uplinkChanged (h : s.Canonical) (p : Nat) : (s.uplinkChanged p).Canonical := by
  unfold State.uplinkChanged
  split
  · exact h.queueLevel
  · exact h

theorem Canonical.faultReports (h : s.Canonical) (p : Nat) : (s.faultReports p).Canonical := by
  unfold State.faultReports
  split
  · obtain ⟨-, -, hways, -⟩ := id h
    exact (h.withWays (x := s.tab.retirePort p) (Tab.wf_filterMap _)).holdFault p
  · exact (h.pathsUplinkFault p).reofferLend.queueLevel
  · exact h.pathsPeerLost _

theorem Canonical.linkFault (h : s.Canonical) (p : Nat) : (s.linkFault p).Canonical :=
  (((h.setLink p _).setIntake p _).linkLoss p).faultReports p

theorem Canonical.upReports (h : s.Canonical) (p : Nat) : (s.upReports p).Canonical := by
  unfold State.upReports
  split
  · exact (h.select p).compareHolds
  · exact ((h.select p).pathsUplinkUp p).reofferLend.queueLevel
  · exact (h.select p).pathsCrossUp

theorem Canonical.judged (h : s.Canonical) (p : Nat) (bad : Bool) : (s.judged p bad).Canonical := by
  unfold State.judged
  dsimp only
  split
  · split
    · exact (h.setLink p _).uplinkChanged p
    · exact h
  · split
    · exact h.setLink p _
    · split
      · exact ((h.setLink p _).setLink p _).upReports p
      · exact h.setLink p _
  · split
    · exact (h.setLink p _).uplinkChanged p
    · exact h
  · split
    · exact h.linkFault p
    · exact (h.setLink p _).uplinkChanged p
  · exact h

theorem Canonical.judgeWindow (h : s.Canonical) (p : Nat) : (s.judgeWindow p).Canonical := (h.setLink p _).judged p _

theorem Canonical.takeWindowEnd (h : s.Canonical) (p : Nat) : (s.takeWindowEnd p).Canonical := by
  unfold State.takeWindowEnd
  split
  · exact Canonical.judgeWindow (by exact h) p
  · split
    · exact Canonical.judgeWindow (by exact h) p
    · exact h

theorem Canonical.signalGone (h : s.Canonical) (p : Nat) : (s.signalGone p).Canonical := by
  unfold State.signalGone
  dsimp only
  split
  · split
    · exact h.setLink p _
    · exact h.setLink p _
    · exact ((h.setLink p _).setLink p _).uplinkChanged p
    · exact (h.setLink p _).linkFault p
    · exact (h.setLink p _).linkFault p
  · exact h.setLink p _

theorem Canonical.codeError (h : s.Canonical) (p : Nat) : (s.codeError p).Canonical := by
  unfold State.codeError
  split
  · exact h.setLink p _
  · exact h

theorem Canonical.flapReset (h : s.Canonical) : s.flapReset.Canonical := by
  unfold State.flapReset
  dsimp only
  split
  · exact (h.mapLinks _ _).queueLevel
  · exact h.mapLinks _ _

/-! ## The frame path -/

theorem Canonical.controlFrame (h : s.Canonical) (p : Nat) (bs : List Byte) : (s.controlFrame p bs).Canonical := by
  unfold State.controlFrame
  split
  · exact h.receivedHold p _
  · exact h.setIntake p _

theorem Canonical.classify (h : s.Canonical) (p : Nat) (bs : List Byte) : (s.classify p bs).Canonical := by
  unfold State.classify
  split
  · exact h.setIntake p _
  · dsimp only
    split
    · obtain ⟨-, -, hways, -⟩ := id h
      exact h.withWays (fun hways => AddressTable.wf_learn hways _ _ _)
    · exact h

theorem Canonical.checkFrame (h : s.Canonical) (p : Nat) (bs : List Byte) : (s.checkFrame p bs).Canonical := by
  unfold State.checkFrame State.receiveCross State.receivePlain
  split
  · split
    · split
      · exact h.setIntake p _
      · exact h.controlFrame p bs
    · dsimp only
      split
      · exact h.setIntake p _
      · exact h
  · split
    · exact h.setIntake p _
    · split
      · exact h.controlFrame p bs
      · exact h.classify p bs

theorem Canonical.receiveFrame (h : s.Canonical) (p : Nat) (f : ReceivedFrame) : (s.receiveFrame p f).Canonical := by
  unfold State.receiveFrame
  have hidle := h.setIntake p { s.intake p with reception := .idle }
  dsimp only
  split
  · exact hidle.checkFrame p _
  · exact hidle
  · split
    · exact hidle.checkFrame p _
    · exact hidle
  · exact h

theorem Canonical.admitFrom (h : s.Canonical) (p : Nat) : (s.admitFrom p).Canonical := by
  unfold State.admitFrom
  split
  · exact Canonical.admitArrival (by exact h) _
  · exact h

theorem Canonical.copyEnds (h : s.Canonical) (p : Nat) : (s.copyEnds p).Canonical := by
  unfold State.copyEnds
  split
  · exact ((h.release _ _).setTx p _).select p
  all_goals exact h

theorem Canonical.holdEnds (h : s.Canonical) (p : Nat) : (s.holdEnds p).Canonical := by
  unfold State.holdEnds
  split
  · exact (h.setTx p _).select p
  all_goals exact h

theorem Canonical.holdTick (h : s.Canonical) (p : Nat) : (s.holdTick p).Canonical := by
  unfold State.holdTick
  dsimp only
  split
  · split
    · split
      · exact h.endHold p
      · exact h.setTx p _
    · exact h.setTx p _
  · exact h

/-! ## The Peer View and the notices -/

theorem Canonical.levelFrom (h : s.Canonical) (k : Nat) (ws : List Word) : (s.levelFrom k ws).Canonical := by
  unfold State.levelFrom State.storeLevel
  split
  · next l _ =>
    have hstored := (h.setPeer k (PeerRecord.store l)).lendCheck k l
    dsimp only
    split
    · obtain ⟨-, -, hways, -⟩ := id hstored
      exact hstored.withWays id
    · exact hstored
  · exact h

theorem Canonical.peerReportTick (h : s.Canonical) : s.peerReportTick.Canonical :=
  (h.mapPeers _ _).each _ fun k hz => hz.pathsPeerLost k

theorem Canonical.peerAgeTick (h : s.Canonical) (k : Nat) : (s.peerAgeTick k).Canonical := by
  unfold State.peerAgeTick
  split
  · obtain ⟨-, -, hways, -⟩ := id h
    exact (h.setPeer k _).withWays (Tab.wf_filterMap _)
  all_goals exact h

theorem Canonical.actAddress (h : s.Canonical) (n : Notice) : (s.actAddress n).Canonical := by
  exact h.withWays (fun hways => AddressTable.wf_applyAll hways _ _ _)

theorem Canonical.actGrant (h : s.Canonical) (n : Notice) : (s.actGrant n).Canonical := by
  unfold State.actGrant
  split
  · exact h.grantFrom _ _
  · exact h

theorem Canonical.process (h : s.Canonical) (p : Notice → Bool) {act : State → Notice → State}
    (hact : ∀ {z : State} n, z.Canonical → (act z n).Canonical) : (s.process p act).Canonical :=
  State.process_keeps h (fun _ _ _ => h) (fun n _ _ _ hz => hact n hz) (fun _ hz => hz.takeFrame)

theorem Canonical.showHead (h : s.Canonical) (c : Nat) : (s.showHead c).Canonical := by
  unfold State.showHead
  split <;> exact h

theorem Canonical.billFetch (h : s.Canonical) (c : Nat) (repeated : Bool) : (s.billFetch c repeated).Canonical := by
  unfold State.billFetch State.answerFetch
  split
  · exact h
  · split
    · exact h
    · split
      · exact h.showHead c
      · exact h.showHead c
      · split
        · split
          · exact h.showHead c
          · exact Canonical.showHead (by exact h) c
        · exact h

theorem Canonical.clearLatches (h : s.Canonical) : s.clearLatches.Canonical := (h.withLine _).mapLinks _ _

theorem Canonical.statusFetch (h : s.Canonical) (c : Nat) : (s.statusFetch c).Canonical := by
  unfold State.statusFetch
  split
  · exact h
  · exact h.clearLatches.queueNormal _

/-! ## The billing chain -/

theorem tenants_rising : tenants.Pairwise (· < ·) := List.pairwise_lt_range'

theorem Canonical.closeEpoch (h : s.Canonical) : s.closeEpoch.Canonical := by
  have hpending := Tab.wf_map s.closedSet tenants_rising
  unfold State.closeEpoch
  generalize tenants.map (fun n => (n, s.closedSet n)) = sets at hpending ⊢
  exact h.withMeter Tab.Canon.nil hpending

theorem Canonical.meterClose (h : s.Canonical) : s.meterClose.Canonical := by
  unfold State.meterClose
  split
  · exact h
  · exact h.closeEpoch

theorem Canonical.takeEpoch (h : s.Canonical) : s.takeEpoch.Canonical := by
  unfold State.takeEpoch
  split
  · exact Canonical.meterClose (by exact h)
  · exact h

theorem Canonical.takeCloses (h : s.Canonical) (n : Nat) : (s.takeCloses n).Canonical := by
  induction n generalizing s with
  | zero => exact h
  | succ n ih => exact ih h.closeEpoch

theorem Canonical.takeHeldCloses (h : s.Canonical) : s.takeHeldCloses.Canonical :=
  Canonical.takeCloses (by exact h) _

theorem Canonical.ratingStep (h : s.Canonical) : s.ratingStep.Canonical := by
  unfold State.ratingStep
  split
  · split
    · exact h
    · split
      · exact h.dropPending _
      · split <;> exact h
  all_goals exact h

theorem Canonical.computationEnd (h : s.Canonical) : s.computationEnd.Canonical := by
  unfold State.computationEnd
  split
  · split
    · exact Canonical.takeHeldCloses (s := State.advance _ _) (Canonical.dropPending (s := { s with bq := _ }) h _)
    · exact Canonical.takeHeldCloses (by exact h)
  all_goals exact h

theorem Canonical.slotFreed (h : s.Canonical) : s.slotFreed.Canonical := by
  unfold State.slotFreed
  split
  · dsimp only
    split
    · exact Canonical.ratingStep (by exact h)
    all_goals exact h
  · exact h

theorem Canonical.takeUsage (h : s.Canonical) : s.takeUsage.Canonical := by
  unfold State.takeUsage
  split
  · exact Canonical.setActive (by exact h) _ _
  · exact h

theorem Canonical.takeRefusal (h : s.Canonical) : s.takeRefusal.Canonical := by
  unfold State.takeRefusal
  split
  · exact Canonical.setActive (by exact h) _ _
  · exact h

theorem Canonical.takeLoss (h : s.Canonical) : s.takeLoss.Canonical := by
  unfold State.takeLoss
  split
  · exact Canonical.setActive (by exact h) _ _
  · exact h

/-! ## Ticks -/

theorem Canonical.windowTick (h : s.Canonical) : s.windowTick.Canonical := by
  unfold State.windowTick
  split
  · split <;> exact h
  · exact h

theorem Canonical.fineTick (h : s.Canonical) : s.fineTick.Canonical := by
  have hwindow : s.prescalerTick.windowTick.Canonical := Canonical.windowTick h
  unfold State.fineTick
  refine ((hwindow.mapTx _ _).mapHolds _ _).withWays fun hways => ?_
  unfold AddressTable.fineTick
  split <;> exact hways

theorem Canonical.reportAct (h : s.Canonical) (u : ReportUser) : (s.reportAct u).Canonical := by
  cases u with
  | egressScheduler => exact (h.mapTx _ _).each _ fun p hz => hz.flushQueues p
  | reliefController => exact h.shedDecision
  | pathUnit => exact h.pathTick
  | peerView => exact h.peerReportTick
  | levelBuilder => exact h.queueLevel
  | billingQueue => exact h

theorem Canonical.ageAct (h : s.Canonical) (u : AgeUser) : (s.ageAct u).Canonical := by
  cases u with
  | addressTable =>
    exact h.withWays (Tab.wf_filterMap _)
  | linkSupervisor => exact h.flapReset
  | peerView => exact h.each _ fun k hz => hz.peerAgeTick k

theorem Canonical.reportTick (h : s.Canonical) (u : ReportUser) : (s.reportTick u).Canonical :=
  State.reportTick_keeps (fun _ _ hz => hz) (fun _ hz => hz.reportAct u) h

theorem Canonical.ageTick (h : s.Canonical) (u : AgeUser) : (s.ageTick u).Canonical :=
  State.ageTick_keeps (fun _ _ hz => hz) (fun _ hz => hz.ageAct u) h

theorem Canonical.reportTickIf (h : s.Canonical) (u : ReportUser) (named : Bool) : (s.reportTickIf u named).Canonical :=
  State.reportTickIf_keeps (fun _ _ hz => hz) (fun _ hz => hz.reportAct u) named h

theorem Canonical.entryAgedOut (h : s.Canonical) (w : Nat) : (s.entryAgedOut w).Canonical :=
  State.entryAgedOut_keeps (fun _ _ hz => hz) (fun _ hz => hz.ageAct .addressTable) w h

theorem Canonical.prescalerOutput (h : s.Canonical) : s.prescalerOutput.Canonical := by
  unfold State.prescalerOutput
  split <;> exact h

theorem Canonical.renewTick (h : s.Canonical) (p : Nat) : (s.renewTick p).Canonical := by
  unfold State.renewTick
  dsimp only
  split
  · split
    · split
      · exact h.renewHold p
      · exact h.setHold p _
    · exact h.setHold p _
  · exact h

theorem Canonical.scanTick (h : s.Canonical) : s.scanTick.Canonical := by
  unfold State.scanTick
  split
  · obtain ⟨-, -, hways, -⟩ := id h
    exact h.withWays (fun hways => AddressTable.wf_scanStep hways)
  · exact h

theorem Canonical.nextChange (h : s.Canonical) : s.nextChange.Canonical := by
  unfold State.nextChange
  split
  · exact Canonical.takeChange (by exact h) _
  · exact h

theorem Canonical.takeShed (h : s.Canonical) : s.takeShed.Canonical := by
  unfold State.takeShed
  split
  · exact Canonical.shed (by exact h)
  · exact h

theorem Canonical.takeReturn (h : s.Canonical) : s.takeReturn.Canonical := by
  unfold State.takeReturn
  split
  · exact Canonical.giveBackPath (by exact h)
  · exact h

/-! ## The image and RESET -/

theorem Canonical.endLoad (h : s.Canonical) (b : List Byte) : (s.endLoad b).Canonical := by
  unfold State.endLoad
  split
  · split <;> exact h
  · exact h

theorem signalPorts_canon (signals : BitVec 21) : Tab.Canon PortLink.reset (signalPorts signals) := by
  refine ⟨Tab.wf_map _ (List.pairwise_lt_range.filter _), Tab.noDefault_iff.2 fun e he => ?_⟩
  obtain ⟨p, -, rfl⟩ := List.mem_map.1 he
  simp [PortLink.reset]

theorem reset_canonical : State.reset.Canonical := by
  unfold State.Canonical
  decide

theorem Canonical.resetWith (s : State) (straps : Nat) (signals : BitVec 21) : (s.resetWith straps signals).Canonical := by
  obtain ⟨-, hrest⟩ := reset_canonical
  exact ⟨signalPorts_canon signals, hrest⟩

/-! ## Every command -/

theorem Canonical.after (h : s.Canonical) (c : Instr) : (s.after c).Canonical := by
  cases c with
  | reset straps signals => exact Canonical.resetWith s straps signals
  | imageLoadEnd bytes => exact h.endLoad bytes
  | fineTick => exact h.fineTick
  | prescalerOutput => exact h.prescalerOutput
  | reportTick u => exact (h.reportTick u).takeFrame
  | ageTick u => exact (h.ageTick u).takeFrame
  | entryAgedOut w => exact (h.entryAgedOut w).takeFrame
  | epochClose => exact h.takeEpoch
  | windowEnd p => exact (h.takeWindowEnd p).takeFrame
  | signalPresent p => exact h.setLink p _
  | signalLost p => exact (h.signalGone p).takeFrame
  | lineCodeError p => exact h.codeError p
  | frameReception p f => exact (h.receiveFrame p f).takeFrame
  | admission p => exact h.admitFrom p
  | copyTransmitted p => exact h.copyEnds p
  | holdFrameEnd p => exact h.holdEnds p
  | receivedHoldTimerExpiry p => exact h.holdTick p
  | heldLimitFlush p => exact (h.reportTickIf _ _).takeFrame
  | renewTimerExpiry p => exact h.renewTick p
  | changeEvent => exact h.nextChange.takeFrame
  | usageReport => exact h.takeUsage
  | refusalReport => exact h.takeRefusal
  | lossReport => exact h.takeLoss
  | scanStep => exact h.scanTick.takeFrame
  | peerStale k => exact (h.reportTickIf _ _).takeFrame
  | showLimitLapse => exact (h.reportTickIf _ _).takeFrame
  | requestTimeout k => exact (h.reportTickIf _ _).takeFrame
  | upgradeTimeout k => exact (h.reportTickIf _ _).takeFrame
  | exclusionExpiry k => exact (h.reportTickIf _ _).takeFrame
  | shedRequest => exact h.takeShed.takeFrame
  | returnRequest => exact h.takeReturn.takeFrame
  | crosslineFrameReceived ws => exact (h.hear ws).takeFrame
  | frameStart gap w1 w2 c => exact (h.tryStart gap w1 w2 c).takeFrame
  | attemptFailed good w => exact (h.lineBreaks good w).takeFrame
  | frameSent => exact h.driveOut.takeFrame
  | levelNotice => exact h.process _ fun n hz => hz.levelFrom n.sender n.payload
  | addressNotice => exact h.process _ fun n hz => hz.actAddress n
  | borrowNotice => exact h.process _ fun n hz => hz.borrowFrom n.sender _ _
  | grantNotice => exact h.process _ fun n hz => hz.actGrant n
  | withdrawNotice => exact h.process _ fun n hz => hz.withdrawFrom n.sender _
  | returnNotice => exact h.process _ fun n hz => hz.returnFrom n.sender
  | billFetchPlain => exact h.process _ fun n hz => hz.billFetch n.sender false
  | billFetchRepeat => exact h.process _ fun n hz => hz.billFetch n.sender true
  | statusFetch => exact h.process _ fun n hz => hz.statusFetch n.sender
  | ratingStep => exact h.ratingStep
  | computationEnd => exact h.computationEnd
  | slotFreed => exact h.slotFreed
  | frameAcquired gap => exact (h.hear _).takeFrame
  | receptionBegins p => exact h.setIntake p _

end State

/-- Settles O59: every command keeps the tables canonical, and the queue of commands is none of them. -/
theorem canonicalKept : Obligations.CanonicalKept := fun _ _ hs hstep =>
  step_keeps (P := State.Canonical) (fun _ _ h => h) (fun _ c h => h.after c) hs hstep

end Sys2Proof.Machine
end

section
/-! What the operations leave alone within the two blocks that most of them touch: the Crossline Controller beside its transmit
queues, and the Relief Controller beside its lend offer and its port holds. -/

namespace Sys2Proof.Machine

open Sys2Proof.Config

/-! ## Beside the transmit queues -/

/-- The Crossline Controller without its transmit queues. -/
def CrosslineController.quiet (x : CrosslineController) : CrosslineController := { x with urgent := [], normal := [] }

/-- What changes the queues only. -/
theorem CrosslineController.eq_of_quiet {x y : CrosslineController} (h : y.quiet = x.quiet) :
    y = { x with urgent := y.urgent, normal := y.normal } :=
  congrArg (fun z : CrosslineController => { z with urgent := y.urgent, normal := y.normal }) h

@[simp] theorem CrosslineController.quiet_urgent (x : CrosslineController) (ms : List Msg) :
    { x with urgent := ms }.quiet = x.quiet := rfl

@[simp] theorem CrosslineController.quiet_normal (x : CrosslineController) (ms : List Msg) :
    { x with normal := ms }.quiet = x.quiet := rfl

@[simp] theorem State.each_quiet (s : State) (ks : List Nat) (f : State → Nat → State)
    (h : ∀ z k, (f z k).xc.quiet = z.xc.quiet) : (s.each ks f).xc.quiet = s.xc.quiet :=
  State.each_keeps (fun z => z.xc.quiet) f h s ks

@[simp] theorem State.queueUrgent_quiet (s : State) (m : Msg) :
    (s.queueUrgent m).xc.quiet = s.xc.quiet := by
  simp only [State.queueUrgent]
  all_goals simp

@[simp] theorem State.queueNormal_quiet (s : State) (m : Msg) :
    (s.queueNormal m).xc.quiet = s.xc.quiet := by
  simp only [State.queueNormal]
  all_goals simp

@[simp] theorem State.dropUrgent_quiet (s : State) (k : Kind) (peer : Nat) :
    (s.dropUrgent k peer).xc.quiet = s.xc.quiet := by
  simp only [State.dropUrgent]
  all_goals simp

@[simp] theorem State.dropReturn_quiet (s : State) (peer : Nat) :
    (s.dropReturn peer).xc.quiet = s.xc.quiet := by
  simp only [State.dropReturn]
  all_goals simp

@[simp] theorem State.sendBorrow_quiet (s : State) (k : Nat) (r : Reason) :
    (s.sendBorrow k r).xc.quiet = s.xc.quiet := by
  simp only [State.sendBorrow]
  all_goals simp

@[simp] theorem State.sendGrant_quiet (s : State) (k : Nat) (r : GrantResult) :
    (s.sendGrant k r).xc.quiet = s.xc.quiet := by
  simp only [State.sendGrant]
  repeat' split
  all_goals simp

@[simp] theorem State.sendWithdraw_quiet (s : State) (k : Nat) (r : WithdrawReason) :
    (s.sendWithdraw k r).xc.quiet = s.xc.quiet := by
  simp only [State.sendWithdraw]
  all_goals simp

@[simp] theorem State.sendReturn_quiet (s : State) (k : Nat) :
    (s.sendReturn k).xc.quiet = s.xc.quiet := by
  simp only [State.sendReturn]
  all_goals simp

@[simp] theorem State.queueLevel_quiet (s : State) :
    s.queueLevel.xc.quiet = s.xc.quiet := by
  simp only [State.queueLevel]
  repeat' split
  all_goals simp

@[simp] theorem State.reofferLend_quiet (s : State) :
    s.reofferLend.xc.quiet = s.xc.quiet := by
  simp only [State.reofferLend]
  repeat' split
  all_goals simp

@[simp] theorem State.evaluateStages_quiet (s : State) :
    s.evaluateStages.xc.quiet = s.xc.quiet := by
  simp only [State.evaluateStages]
  repeat' split
  all_goals simp

@[simp] theorem State.takeChange_quiet (s : State) (c : Change) :
    (s.takeChange c).xc.quiet = s.xc.quiet := by
  simp only [State.takeChange]
  repeat' split
  all_goals simp

@[simp] theorem State.request_quiet (s : State) (k : Nat) (r : Reason) :
    (s.request k r).xc.quiet = s.xc.quiet := by
  simp only [State.request]
  all_goals simp

@[simp] theorem State.faultRequest_quiet (s : State) :
    s.faultRequest.xc.quiet = s.xc.quiet := by
  simp only [State.faultRequest]
  repeat' split
  all_goals simp

@[simp] theorem State.freeRecord_quiet (s : State) (k : Nat) :
    (s.freeRecord k).xc.quiet = s.xc.quiet := by
  simp only [State.freeRecord]
  repeat' split
  all_goals simp

@[simp] theorem State.settlePaths_quiet (s : State) :
    s.settlePaths.xc.quiet = s.xc.quiet := by
  simp only [State.settlePaths]
  all_goals simp

@[simp] theorem State.reportPaths_quiet (b s : State) :
    (b.reportPaths s).xc.quiet = s.xc.quiet := by
  simp only [State.reportPaths]
  repeat' split
  all_goals simp

@[simp] theorem State.upgrade_quiet (s : State) (k : Nat) :
    (s.upgrade k).xc.quiet = s.xc.quiet := by
  simp only [State.upgrade]
  all_goals simp

@[simp] theorem State.moveSplit_quiet (s : State) (u : Nat) :
    (s.moveSplit u).xc.quiet = s.xc.quiet := by
  simp only [State.moveSplit]
  repeat' split
  all_goals simp

@[simp] theorem State.emptyLend_quiet (s : State) (k : Nat) :
    (s.emptyLend k).xc.quiet = s.xc.quiet := by
  simp only [State.emptyLend]
  all_goals simp

@[simp] theorem State.emptyLends_quiet (s : State) :
    s.emptyLends.xc.quiet = s.xc.quiet := by
  simp only [State.emptyLends]
  all_goals simp

@[simp] theorem State.pathsUplinkFault_quiet (s : State) (u : Nat) :
    (s.pathsUplinkFault u).xc.quiet = s.xc.quiet := by
  simp only [State.pathsUplinkFault]
  repeat' split
  all_goals simp

@[simp] theorem State.pathsUplinkUp_quiet (s : State) (u : Nat) :
    (s.pathsUplinkUp u).xc.quiet = s.xc.quiet := by
  simp only [State.pathsUplinkUp]
  all_goals simp

@[simp] theorem State.pathsCrossUp_quiet (s : State) :
    s.pathsCrossUp.xc.quiet = s.xc.quiet := by
  simp only [State.pathsCrossUp]
  all_goals simp

@[simp] theorem State.pathsPeerLost_quiet (s : State) (k : Nat) :
    (s.pathsPeerLost k).xc.quiet = s.xc.quiet := by
  simp only [State.pathsPeerLost]
  all_goals simp

@[simp] theorem State.grantFrom_quiet (s : State) (k : Nat) (g : GrantResult) :
    (s.grantFrom k g).xc.quiet = s.xc.quiet := by
  simp only [State.grantFrom]
  repeat' split
  all_goals simp

@[simp] theorem State.withdrawFrom_quiet (s : State) (k : Nat) (w : WithdrawReason) :
    (s.withdrawFrom k w).xc.quiet = s.xc.quiet := by
  simp only [State.withdrawFrom]
  repeat' split
  all_goals simp

@[simp] theorem State.shed_quiet (s : State) :
    s.shed.xc.quiet = s.xc.quiet := by
  simp only [State.shed]
  repeat' split
  all_goals simp

@[simp] theorem State.giveBackPath_quiet (s : State) :
    s.giveBackPath.xc.quiet = s.xc.quiet := by
  simp only [State.giveBackPath]
  repeat' split
  all_goals simp

@[simp] theorem State.lendFault_quiet (s : State) (k : Nat) (sole : Bool) :
    (s.lendFault k sole).xc.quiet = s.xc.quiet := by
  simp only [State.lendFault]
  all_goals simp

@[simp] theorem State.lendRelief_quiet (s : State) (k : Nat) :
    (s.lendRelief k).xc.quiet = s.xc.quiet := by
  simp only [State.lendRelief]
  all_goals simp

@[simp] theorem State.refuse_quiet (s : State) (k : Nat) (r : Reason) (g : GrantResult) :
    (s.refuse k r g).xc.quiet = s.xc.quiet := by
  simp only [State.refuse]
  repeat' split
  all_goals simp

@[simp] theorem State.answerRelief_quiet (s : State) (k : Nat) :
    (s.answerRelief k).xc.quiet = s.xc.quiet := by
  simp only [State.answerRelief]
  repeat' split
  all_goals simp

@[simp] theorem State.answerBorrow_quiet (s : State) (k : Nat) (r : Reason) (sole : Bool) :
    (s.answerBorrow k r sole).xc.quiet = s.xc.quiet := by
  simp only [State.answerBorrow]
  repeat' split
  all_goals simp

@[simp] theorem State.borrowFrom_quiet (s : State) (k : Nat) (r : Reason) (sole : Bool) :
    (s.borrowFrom k r sole).xc.quiet = s.xc.quiet := by
  simp only [State.borrowFrom]
  repeat' split
  all_goals simp

@[simp] theorem State.returnFrom_quiet (s : State) (k : Nat) :
    (s.returnFrom k).xc.quiet = s.xc.quiet := by
  simp only [State.returnFrom]
  all_goals simp

@[simp] theorem State.lendCheck_quiet (s : State) (k : Nat) (l : LevelFields) :
    (s.lendCheck k l).xc.quiet = s.xc.quiet := by
  simp only [State.lendCheck]
  repeat' split
  all_goals simp

@[simp] theorem State.withdrawLend_quiet (s : State) (k : Nat) :
    (s.withdrawLend k).xc.quiet = s.xc.quiet := by
  simp only [State.withdrawLend]
  all_goals simp

@[simp] theorem State.withdrawOne_quiet (s : State) :
    s.withdrawOne.xc.quiet = s.xc.quiet := by
  simp only [State.withdrawOne]
  repeat' split
  all_goals simp

@[simp] theorem State.requestTick_quiet (s : State) (k : Nat) :
    (s.requestTick k).xc.quiet = s.xc.quiet := by
  simp only [State.requestTick]
  repeat' split
  all_goals simp

@[simp] theorem State.tickPaths_quiet (s : State) :
    s.tickPaths.xc.quiet = s.xc.quiet := by
  simp only [State.tickPaths]
  all_goals simp

@[simp] theorem State.tickTimers_quiet (s : State) :
    s.tickTimers.xc.quiet = s.xc.quiet := by
  simp only [State.tickTimers]
  all_goals simp

@[simp] theorem State.pathTick_quiet (s : State) :
    s.pathTick.xc.quiet = s.xc.quiet := by
  simp only [State.pathTick]
  all_goals simp

@[simp] theorem State.uplinkChanged_quiet (s : State) (p : Nat) :
    (s.uplinkChanged p).xc.quiet = s.xc.quiet := by
  simp only [State.uplinkChanged]
  repeat' split
  all_goals simp

@[simp] theorem State.faultReports_quiet (s : State) (p : Nat) :
    (s.faultReports p).xc.quiet = s.xc.quiet := by
  simp only [State.faultReports]
  repeat' split
  all_goals simp

@[simp] theorem State.linkFault_quiet (s : State) (p : Nat) :
    (s.linkFault p).xc.quiet = s.xc.quiet := by
  simp only [State.linkFault]
  all_goals simp

@[simp] theorem State.upReports_quiet (s : State) (p : Nat) :
    (s.upReports p).xc.quiet = s.xc.quiet := by
  simp only [State.upReports]
  repeat' split
  all_goals simp

@[simp] theorem State.enterUp_quiet (s : State) (p : Nat) :
    (s.enterUp p).xc.quiet = s.xc.quiet := by
  simp only [State.enterUp]
  all_goals simp

@[simp] theorem State.judged_quiet (s : State) (p : Nat) (bad : Bool) :
    (s.judged p bad).xc.quiet = s.xc.quiet := by
  simp only [State.judged]
  repeat' split
  all_goals simp

@[simp] theorem State.judgeWindow_quiet (s : State) (p : Nat) :
    (s.judgeWindow p).xc.quiet = s.xc.quiet := by
  simp only [State.judgeWindow]
  all_goals simp

@[simp] theorem State.takeWindowEnd_quiet (s : State) (p : Nat) :
    (s.takeWindowEnd p).xc.quiet = s.xc.quiet := by
  simp only [State.takeWindowEnd]
  repeat' split
  all_goals simp

@[simp] theorem State.signalGone_quiet (s : State) (p : Nat) :
    (s.signalGone p).xc.quiet = s.xc.quiet := by
  simp only [State.signalGone]
  repeat' split
  all_goals simp

@[simp] theorem State.flapReset_quiet (s : State) :
    s.flapReset.xc.quiet = s.xc.quiet := by
  simp only [State.flapReset]
  repeat' split
  all_goals simp

@[simp] theorem State.storeLevel_quiet (s : State) (k : Nat) (l : LevelFields) :
    (s.storeLevel k l).xc.quiet = s.xc.quiet := by
  simp only [State.storeLevel]
  repeat' split
  all_goals simp

@[simp] theorem State.peerReportTick_quiet (s : State) :
    s.peerReportTick.xc.quiet = s.xc.quiet := by
  simp only [State.peerReportTick]
  all_goals simp

@[simp] theorem State.replyBill_quiet (s : State) (c : Nat) (r : BillReply) :
    (s.replyBill c r).xc.quiet = s.xc.quiet := by
  simp only [State.replyBill]
  all_goals simp

@[simp] theorem State.showHead_quiet (s : State) (c : Nat) :
    (s.showHead c).xc.quiet = s.xc.quiet := by
  simp only [State.showHead]
  repeat' split
  all_goals simp

@[simp] theorem State.answerFetch_quiet (s : State) (c : Nat) (repeated : Bool) :
    (s.answerFetch c repeated).xc.quiet = s.xc.quiet := by
  simp only [State.answerFetch]
  repeat' split
  all_goals simp

@[simp] theorem State.billFetch_quiet (s : State) (c : Nat) (repeated : Bool) :
    (s.billFetch c repeated).xc.quiet = s.xc.quiet := by
  simp only [State.billFetch]
  repeat' split
  all_goals simp

@[simp] theorem State.actBorrow_quiet (s : State) (n : Notice) :
    (s.actBorrow n).xc.quiet = s.xc.quiet := by
  simp only [State.actBorrow]
  repeat' split
  all_goals simp

@[simp] theorem State.actWithdraw_quiet (s : State) (n : Notice) :
    (s.actWithdraw n).xc.quiet = s.xc.quiet := by
  simp only [State.actWithdraw]
  all_goals simp

@[simp] theorem State.nextChange_quiet (s : State) :
    s.nextChange.xc.quiet = s.xc.quiet := by
  simp only [State.nextChange]
  repeat' split
  all_goals simp

@[simp] theorem State.takeShed_quiet (s : State) :
    s.takeShed.xc.quiet = s.xc.quiet := by
  simp only [State.takeShed]
  repeat' split
  all_goals simp

@[simp] theorem State.takeReturn_quiet (s : State) :
    s.takeReturn.xc.quiet = s.xc.quiet := by
  simp only [State.takeReturn]
  repeat' split
  all_goals simp

@[simp] theorem State.peerStale_quiet (s : State) (k : Nat) :
    (s.peerStale k).xc.quiet = s.xc.quiet := by
  simp only [State.peerStale, State.reportTickIf, State.reportTick, State.takeReport, State.reportAct]
  repeat' split
  all_goals simp

@[simp] theorem State.requestTimeout_quiet (s : State) (k : Nat) :
    (s.requestTimeout k).xc.quiet = s.xc.quiet := by
  simp only [State.requestTimeout, State.reportTickIf, State.reportTick, State.takeReport, State.reportAct]
  repeat' split
  all_goals simp

@[simp] theorem State.upgradeTimeout_quiet (s : State) (k : Nat) :
    (s.upgradeTimeout k).xc.quiet = s.xc.quiet := by
  simp only [State.upgradeTimeout, State.reportTickIf, State.reportTick, State.takeReport, State.reportAct]
  repeat' split
  all_goals simp

@[simp] theorem State.exclusionExpiry_quiet (s : State) (k : Nat) :
    (s.exclusionExpiry k).xc.quiet = s.xc.quiet := by
  simp only [State.exclusionExpiry, State.reportTickIf, State.reportTick, State.takeReport, State.reportAct]
  repeat' split
  all_goals simp

/-! ## Beside the lend offer -/

/-- The Relief Controller without its lend offer. -/
def ReliefController.offerless (r : ReliefController) : ReliefController := { r with lendOffer := false }

theorem ReliefController.eq_of_offerless {x y : ReliefController} (h : y.offerless = x.offerless) :
    y = { x with lendOffer := y.lendOffer } :=
  congrArg (fun z : ReliefController => { z with lendOffer := y.lendOffer }) h

@[simp] theorem ReliefController.offerless_lendOffer (r : ReliefController) (b : Bool) :
    { r with lendOffer := b }.offerless = r.offerless := rfl

@[simp] theorem State.each_offerless (s : State) (ks : List Nat) (f : State → Nat → State)
    (h : ∀ z k, (f z k).rc.offerless = z.rc.offerless) : (s.each ks f).rc.offerless = s.rc.offerless :=
  State.each_keeps (fun z => z.rc.offerless) f h s ks

@[simp] theorem State.reofferLend_offerless (s : State) :
    s.reofferLend.rc.offerless = s.rc.offerless := by
  simp only [State.reofferLend]
  repeat' split
  all_goals simp

@[simp] theorem State.reportPaths_offerless (b s : State) :
    (b.reportPaths s).rc.offerless = s.rc.offerless := by
  simp only [State.reportPaths]
  repeat' split
  all_goals simp

@[simp] theorem State.pathsUplinkFault_offerless (s : State) (u : Nat) :
    (s.pathsUplinkFault u).rc.offerless = s.rc.offerless := by
  simp only [State.pathsUplinkFault]
  repeat' split
  all_goals simp

@[simp] theorem State.pathsUplinkUp_offerless (s : State) (u : Nat) :
    (s.pathsUplinkUp u).rc.offerless = s.rc.offerless := by
  simp only [State.pathsUplinkUp]
  all_goals simp

@[simp] theorem State.pathsCrossUp_offerless (s : State) :
    s.pathsCrossUp.rc.offerless = s.rc.offerless := by
  simp only [State.pathsCrossUp]
  all_goals simp

@[simp] theorem State.pathsPeerLost_offerless (s : State) (k : Nat) :
    (s.pathsPeerLost k).rc.offerless = s.rc.offerless := by
  simp only [State.pathsPeerLost]
  all_goals simp

@[simp] theorem State.grantFrom_offerless (s : State) (k : Nat) (g : GrantResult) :
    (s.grantFrom k g).rc.offerless = s.rc.offerless := by
  simp only [State.grantFrom]
  repeat' split
  all_goals simp

@[simp] theorem State.withdrawFrom_offerless (s : State) (k : Nat) (w : WithdrawReason) :
    (s.withdrawFrom k w).rc.offerless = s.rc.offerless := by
  simp only [State.withdrawFrom]
  repeat' split
  all_goals simp

@[simp] theorem State.shed_offerless (s : State) :
    s.shed.rc.offerless = s.rc.offerless := by
  simp only [State.shed]
  repeat' split
  all_goals simp

@[simp] theorem State.giveBackPath_offerless (s : State) :
    s.giveBackPath.rc.offerless = s.rc.offerless := by
  simp only [State.giveBackPath]
  repeat' split
  all_goals simp

@[simp] theorem State.borrowFrom_offerless (s : State) (k : Nat) (r : Reason) (sole : Bool) :
    (s.borrowFrom k r sole).rc.offerless = s.rc.offerless := by
  simp only [State.borrowFrom]
  repeat' split
  all_goals simp

@[simp] theorem State.returnFrom_offerless (s : State) (k : Nat) :
    (s.returnFrom k).rc.offerless = s.rc.offerless := by
  simp only [State.returnFrom]
  all_goals simp

@[simp] theorem State.lendCheck_offerless (s : State) (k : Nat) (l : LevelFields) :
    (s.lendCheck k l).rc.offerless = s.rc.offerless := by
  simp only [State.lendCheck]
  repeat' split
  all_goals simp

@[simp] theorem State.pathTick_offerless (s : State) :
    s.pathTick.rc.offerless = s.rc.offerless := by
  simp only [State.pathTick]
  all_goals simp

@[simp] theorem State.storeLevel_offerless (s : State) (k : Nat) (l : LevelFields) :
    (s.storeLevel k l).rc.offerless = s.rc.offerless := by
  simp only [State.storeLevel]
  repeat' split
  all_goals simp

@[simp] theorem State.levelFrom_offerless (s : State) (k : Nat) (ws : List Word) :
    (s.levelFrom k ws).rc.offerless = s.rc.offerless := by
  simp only [State.levelFrom]
  repeat' split
  all_goals simp

@[simp] theorem State.peerReportTick_offerless (s : State) :
    s.peerReportTick.rc.offerless = s.rc.offerless := by
  simp only [State.peerReportTick]
  all_goals simp

@[simp] theorem State.actBorrow_offerless (s : State) (n : Notice) :
    (s.actBorrow n).rc.offerless = s.rc.offerless := by
  simp only [State.actBorrow]
  repeat' split
  all_goals simp

@[simp] theorem State.actGrant_offerless (s : State) (n : Notice) :
    (s.actGrant n).rc.offerless = s.rc.offerless := by
  simp only [State.actGrant]
  repeat' split
  all_goals simp

@[simp] theorem State.actWithdraw_offerless (s : State) (n : Notice) :
    (s.actWithdraw n).rc.offerless = s.rc.offerless := by
  simp only [State.actWithdraw]
  all_goals simp

@[simp] theorem State.takeShed_offerless (s : State) :
    s.takeShed.rc.offerless = s.rc.offerless := by
  simp only [State.takeShed]
  repeat' split
  all_goals simp

@[simp] theorem State.takeReturn_offerless (s : State) :
    s.takeReturn.rc.offerless = s.rc.offerless := by
  simp only [State.takeReturn]
  repeat' split
  all_goals simp

@[simp] theorem State.peerStale_offerless (s : State) (k : Nat) :
    (s.peerStale k).rc.offerless = s.rc.offerless := by
  simp only [State.peerStale, State.reportTickIf, State.reportTick, State.takeReport, State.reportAct]
  repeat' split
  all_goals simp

@[simp] theorem State.requestTimeout_offerless (s : State) (k : Nat) :
    (s.requestTimeout k).rc.offerless = s.rc.offerless := by
  simp only [State.requestTimeout, State.reportTickIf, State.reportTick, State.takeReport, State.reportAct]
  repeat' split
  all_goals simp

@[simp] theorem State.upgradeTimeout_offerless (s : State) (k : Nat) :
    (s.upgradeTimeout k).rc.offerless = s.rc.offerless := by
  simp only [State.upgradeTimeout, State.reportTickIf, State.reportTick, State.takeReport, State.reportAct]
  repeat' split
  all_goals simp

@[simp] theorem State.exclusionExpiry_offerless (s : State) (k : Nat) :
    (s.exclusionExpiry k).rc.offerless = s.rc.offerless := by
  simp only [State.exclusionExpiry, State.reportTickIf, State.reportTick, State.takeReport, State.reportAct]
  repeat' split
  all_goals simp

/-! ## Beside the lend offer and the port holds -/

/-- The Relief Controller without its port holds. -/
def ReliefController.portless (r : ReliefController) : ReliefController := { r with ports := [] }

@[simp] theorem State.setHold_portless (s : State) (p : Nat) (h : PortHold) :
    (s.setHold p h).rc.offerless.portless = s.rc.offerless.portless := rfl

@[simp] theorem State.each_portless (s : State) (ks : List Nat) (f : State → Nat → State)
    (h : ∀ z k, (f z k).rc.offerless.portless = z.rc.offerless.portless) :
    (s.each ks f).rc.offerless.portless = s.rc.offerless.portless :=
  State.each_keeps (fun z => z.rc.offerless.portless) f h s ks

@[simp] theorem State.mapHolds_portless (s : State) (ps : List Nat) (f : PortHold → PortHold) :
    (s.mapHolds ps f).rc.offerless.portless = s.rc.offerless.portless :=
  State.each_portless s ps _ fun z p => State.setHold_portless z p _

@[simp] theorem State.compareHold_portless (s : State) (p : Nat) :
    (s.compareHold p).rc.offerless.portless = s.rc.offerless.portless := by
  simp only [State.compareHold]
  repeat' split
  all_goals simp

@[simp] theorem State.compareHolds_portless (s : State) :
    s.compareHolds.rc.offerless.portless = s.rc.offerless.portless := by
  simp only [State.compareHolds]
  all_goals simp

@[simp] theorem State.holdFault_portless (s : State) (p : Nat) :
    (s.holdFault p).rc.offerless.portless = s.rc.offerless.portless := by
  simp only [State.holdFault]
  all_goals simp

@[simp] theorem State.renewHold_portless (s : State) (p : Nat) :
    (s.renewHold p).rc.offerless.portless = s.rc.offerless.portless := by
  simp only [State.renewHold]
  all_goals simp

@[simp] theorem State.faultReports_portless (s : State) (p : Nat) :
    (s.faultReports p).rc.offerless.portless = s.rc.offerless.portless := by
  simp only [State.faultReports]
  repeat' split
  all_goals simp

@[simp] theorem State.linkFault_portless (s : State) (p : Nat) :
    (s.linkFault p).rc.offerless.portless = s.rc.offerless.portless := by
  simp only [State.linkFault]
  all_goals simp

@[simp] theorem State.upReports_portless (s : State) (p : Nat) :
    (s.upReports p).rc.offerless.portless = s.rc.offerless.portless := by
  simp only [State.upReports]
  repeat' split
  all_goals simp

@[simp] theorem State.enterUp_portless (s : State) (p : Nat) :
    (s.enterUp p).rc.offerless.portless = s.rc.offerless.portless := by
  simp only [State.enterUp]
  all_goals simp

@[simp] theorem State.judged_portless (s : State) (p : Nat) (bad : Bool) :
    (s.judged p bad).rc.offerless.portless = s.rc.offerless.portless := by
  simp only [State.judged]
  repeat' split
  all_goals simp

@[simp] theorem State.judgeWindow_portless (s : State) (p : Nat) :
    (s.judgeWindow p).rc.offerless.portless = s.rc.offerless.portless := by
  simp only [State.judgeWindow]
  all_goals simp

@[simp] theorem State.takeWindowEnd_portless (s : State) (p : Nat) :
    (s.takeWindowEnd p).rc.offerless.portless = s.rc.offerless.portless := by
  simp only [State.takeWindowEnd]
  repeat' split
  all_goals simp

@[simp] theorem State.signalGone_portless (s : State) (p : Nat) :
    (s.signalGone p).rc.offerless.portless = s.rc.offerless.portless := by
  simp only [State.signalGone]
  repeat' split
  all_goals simp

@[simp] theorem State.fineTick_portless (s : State) :
    s.fineTick.rc.offerless.portless = s.rc.offerless.portless := by
  simp only [State.fineTick]
  all_goals simp

@[simp] theorem State.renewTick_portless (s : State) (p : Nat) :
    (s.renewTick p).rc.offerless.portless = s.rc.offerless.portless := by
  simp only [State.renewTick]
  repeat' split
  all_goals simp

end Sys2Proof.Machine
end

section
/-! The word level of the Crossline, walked once: whatever is closed under the few things the line can do to a state is kept by
every command of Machine/Line.lean. -/

namespace Sys2Proof.Machine

open Sys2Proof.Config

/-- What the Crossline Controller holds apart from its receiver: the queues, the frame in hand with its attempts, and the
notices. -/
def CrosslineController.held (x : CrosslineController) : List Msg × List Msg × Option Hand × Nat × List Notice :=
  (x.urgent, x.normal, x.hand, x.attempts, x.notices)

/-- What the line can do to a state: move the receiver, offer a notice that the filter has accepted, end the frame in hand as sent
or discarded, count a failed attempt, fix the contents of a LEVEL, and let a frame be taken. -/
structure State.LineClosed (P : State → Prop) : Prop where
  receiver : ∀ {s : State} {x : CrosslineController}, x.held = s.xc.held → P s → P { s with xc := x }
  notice : ∀ {s : State} {n : Notice}, s.accepts n.kind n.sender n.dest = true → P s → P (s.offerNotice n)
  discard : ∀ {s : State}, P s → P s.discardHand
  retry : ∀ {s : State} {h : Hand}, s.xc.hand = some h → s.xc.attempts + 1 < 4 → P s →
    P { s with xc := { s.xc with attempts := s.xc.attempts + 1 } }
  sent : ∀ {s : State} (h : Hand), P s → P (s.ownerSent h).emptyHand
  built : ∀ {s : State} (h : Hand), P s → P { s with xc := { s.xc with hand := some h } }
  take : ∀ {s : State}, P s → P s.takeFrame

namespace State.LineClosed

variable {P : State → Prop} (hP : State.LineClosed P) {s : State}
include hP

theorem failAttempt (h : P s) : P s.failAttempt := by
  unfold State.failAttempt
  dsimp only
  split
  · next x hx =>
    split
    · exact hP.discard (by exact hP.receiver rfl h)
    · next hfew =>
      exact hP.receiver (s := { s with xc := { s.xc with attempts := s.xc.attempts + 1 } }) rfl
        (hP.retry hx (Nat.lt_of_not_le hfew) h)
  · exact hP.receiver rfl h

theorem lineError (h : P s) : P s.lineError := hP.receiver rfl h

theorem setRx (h : P s) (r : RxState) (n : Nat) : P (s.setRx r n) := hP.receiver rfl h

theorem filterFrame (h : P s) (sender h1 : Nat) (ws : List Word) : P (s.filterFrame sender h1 ws) := by
  unfold State.filterFrame
  split
  · exact hP.lineError h
  · split
    · split
      · next haccepts => exact hP.notice haccepts h
      · exact h
    · exact hP.lineError h

theorem noteDuplicate (h : P s) (sender h1 : Nat) : P (s.noteDuplicate sender h1) := by
  unfold State.noteDuplicate
  have hmarked : P { s with xc := { s.xc with duplicate := true } } := hP.receiver rfl h
  split
  · dsimp only
    split
    · split
      · exact hmarked
      · exact hP.discard hmarked
    · exact hmarked
  · exact h

theorem frameComplete (h : P s) (ws : List Word) : P (s.frameComplete ws) := by
  unfold State.frameComplete
  split
  · exact hP.receiver rfl h
  · exact hP.filterFrame (hP.noteDuplicate h _ _) _ _ _

theorem frameFails (h : P s) (r : RxState) (n : Nat) : P (s.frameFails r n) :=
  hP.lineError (hP.setRx (by exact hP.receiver rfl h) r n)

theorem takeFrameWord (h : P s) (ws : List Word) (w : Word) : P (s.takeFrameWord ws w) := by
  unfold State.takeFrameWord
  dsimp only
  split
  · exact hP.frameFails h _ _
  · split
    · split
      · exact hP.frameComplete (hP.setRx h _ _) ws
      · exact hP.frameFails h _ _
    · exact hP.setRx h _ _

theorem rxWord (h : P s) (w : LineWord) : P (s.rxWord w) := by
  unfold State.rxWord
  split
  · split <;> exact hP.receiver rfl h
  · split <;> exact hP.receiver rfl h
  · split
    · exact hP.receiver rfl (hP.frameFails h .oneSync 0)
    · exact hP.frameFails h _ _
    · exact hP.takeFrameWord h _ _

theorem rxWords (h : P s) (ws : List LineWord) : P (s.rxWords ws) := by
  unfold State.rxWords
  split
  · exact h
  · exact foldl_induct (P := P) (fun _ w hz => hP.rxWord hz w) ws h

theorem resolveClaim (h : P s) (x : Hand) (w : LineWord) : P (s.resolveClaim x w) := by
  unfold State.resolveClaim
  split
  · split
    · exact hP.receiver rfl h
    · split
      · exact hP.receiver rfl h
      · exact hP.failAttempt (by exact hP.receiver rfl h)
  · exact hP.failAttempt (hP.rxWord (by exact hP.receiver rfl h) _)
  · exact hP.failAttempt (hP.rxWord (by exact hP.receiver rfl h) _)

theorem beginAttempt (h : P s) (x : Hand) : P (s.beginAttempt x) := by
  unfold State.beginAttempt
  split
  · exact hP.receiver (s := { s with xc := { s.xc with hand := some { x with built := some s.levelFields } } }) rfl
      (hP.built _ h)
  · exact h

theorem startFrame (h : P s) (x : Hand) (w1 w2 c : LineWord) : P (s.startFrame x w1 w2 c) := by
  unfold State.startFrame
  have hbegun := hP.beginAttempt h x
  dsimp only
  split
  · exact hP.failAttempt (hP.rxWord hbegun w1)
  · split
    · exact hP.failAttempt (hP.rxWord (hP.setRx hbegun _ _) w2)
    · exact hP.resolveClaim hbegun _ c

theorem hear (h : P s) (ws : List LineWord) : P (s.hear ws) := by
  unfold State.hear
  split
  · exact h
  · exact hP.rxWords h ws

theorem tryStart (h : P s) (gap : List LineWord) (w1 w2 c : LineWord) : P (s.tryStart gap w1 w2 c) := by
  unfold State.tryStart
  have hheard := hP.rxWords h gap
  split
  · exact h
  · dsimp only
    split
    · split
      · exact hP.startFrame hheard _ w1 w2 c
      · exact hheard
    · exact hheard

theorem lineBreaks (h : P s) (good : Nat) (w : LineWord) : P (s.lineBreaks good w) := by
  unfold State.lineBreaks
  split
  · split
    · exact hP.failAttempt (hP.rxWords (by exact hP.receiver rfl h) _)
    · exact h
  · exact h

theorem driveOut (h : P s) : P s.driveOut := by
  unfold State.driveOut
  split
  · exact hP.sent _ (by exact hP.receiver rfl (hP.rxWords h _))
  · exact hP.receiver rfl (hP.rxWords h _)
  · exact h

end State.LineClosed

end Sys2Proof.Machine
end

section
/-! The queues of the Crossline Controller: what a queued message does to a queue, that every operation keeps both queues in
order, and that every step keeps the whole controller sound. -/

namespace Sys2Proof.Machine

open Sys2Proof.Config

/-! ## One queue (R112) -/

/-- The key of a message: its kind and destination (R112). -/
def Msg.key (m : Msg) : Kind × Nat := (m.kind, m.dest)

theorem Msg.sameKey_iff (m n : Msg) : m.sameKey n = true ↔ m.key = n.key := by
  simp [Msg.sameKey, Msg.key]

theorem placeMsg_keys (m : Msg) (ms : List Msg) :
    (placeMsg m ms).map Msg.key = if m.key ∈ ms.map Msg.key then ms.map Msg.key else ms.map Msg.key ++ [m.key] := by
  induction ms with
  | nil => rfl
  | cons n ns ih =>
    by_cases h : n.sameKey m = true
    · have hkey := (Msg.sameKey_iff n m).1 h
      simp [placeMsg, h, hkey]
    · have hkey : m.key ≠ n.key := fun hk => h ((Msg.sameKey_iff n m).2 hk.symm)
      simp only [placeMsg, h, Bool.false_eq_true, if_false, List.map_cons, ih, List.mem_cons, hkey, false_or]
      split <;> rfl

theorem mem_placeMsg {m x : Msg} {ms : List Msg} (h : x ∈ placeMsg m ms) : x = m ∨ x ∈ ms := by
  induction ms with
  | nil => simpa [placeMsg] using h
  | cons n ns ih =>
    unfold placeMsg at h
    split at h
    · obtain rfl | h := List.mem_cons.1 h
      · exact .inl rfl
      · exact .inr (List.mem_cons_of_mem _ h)
    · obtain rfl | h := List.mem_cons.1 h
      · exact .inr (List.mem_cons_self ..)
      · exact (ih h).imp_right (List.mem_cons_of_mem _)

/-- A queue in order: at most one message of a key, and every message of the queue's urgency. -/
def QueueOf (u : Nat) (ms : List Msg) : Prop := (ms.map Msg.key).Nodup ∧ ∀ m ∈ ms, m.urgency = u

theorem QueueOf.place {u : Nat} {ms : List Msg} (h : QueueOf u ms) {m : Msg} (hm : m.urgency = u) :
    QueueOf u (placeMsg m ms) := by
  refine ⟨?_, fun x hx => ?_⟩
  · rw [placeMsg_keys]
    split
    · exact h.1
    · next hnew =>
      exact List.nodup_append.2 ⟨h.1, List.nodup_singleton _, fun x hx y hy => by
        rw [List.mem_singleton.1 hy]
        exact fun hxy => hnew (hxy ▸ hx)⟩
  · obtain rfl | hx := mem_placeMsg hx
    · exact hm
    · exact h.2 x hx

theorem QueueOf.sublist {u : Nat} {ms ns : List Msg} (h : QueueOf u ms) (hsub : ns.Sublist ms) : QueueOf u ns :=
  ⟨h.1.sublist (hsub.map _), fun m hm => h.2 m (hsub.subset hm)⟩

theorem takeFirst_sublist {p : Msg → Bool} {ms rest : List Msg} {m : Msg} (h : takeFirst p ms = some (m, rest)) :
    rest.Sublist ms := by
  induction ms generalizing rest with
  | nil => cases h
  | cons n ns ih =>
    unfold takeFirst at h
    split at h
    · cases h
      exact List.sublist_cons_self ..
    · split at h
      · next hrest =>
        cases h
        exact (ih hrest).cons_cons n
      · cases h

/-! ## Both queues -/

namespace State

/-- Both transmit queues in order (R112). -/
def Queued (s : State) : Prop := QueueOf 0 s.xc.urgent ∧ QueueOf 1 s.xc.normal

variable {s : State}

theorem Queued.of_xc {z : State} (h : s.Queued) (hxc : z.xc = s.xc) : z.Queued := by
  unfold Queued
  rwa [hxc]

/-! ### Operations that queue nothing -/

theorem Queued.setLink (h : s.Queued) (p : Nat) (l : PortLink) : (s.setLink p l).Queued := h

theorem Queued.setIntake (h : s.Queued) (p : Nat) (i : PortIntake) : (s.setIntake p i).Queued := h

theorem Queued.setBinding (h : s.Queued) (i : Nat) (b : Binding) : (s.setBinding i b).Queued := h

theorem Queued.setBorrow (h : s.Queued) (k : Nat) (b : BorrowRecord) : (s.setBorrow k b).Queued := h

theorem Queued.setLend (h : s.Queued) (k : Nat) (l : LendRecord) : (s.setLend k l).Queued := h

theorem Queued.dropLend (h : s.Queued) (k : Nat) : (s.dropLend k).Queued := h

theorem Queued.setPeer (h : s.Queued) (k : Nat) (r : PeerRecord) : (s.setPeer k r).Queued := h

theorem Queued.rebind (h : s.Queued) (is : List Nat) (f : Nat → Binding) : (s.rebind is f).Queued :=
  h.of_xc (by simp)

theorem Queued.replacePaths (h : s.Queued) (e : Option Nat) (f : Nat → Binding → Bool) : (s.replacePaths e f).Queued :=
  h.of_xc (by simp)

theorem Queued.bindUnbound (h : s.Queued) (k : Nat) : (s.bindUnbound k).Queued :=
  h.of_xc (by simp)

theorem Queued.abandonFault (h : s.Queued) : s.abandonFault.Queued :=
  h.of_xc (by simp)

theorem Queued.endArrangements (h : s.Queued) (k : Nat) : (s.endArrangements k).Queued :=
  h.of_xc (by simp)

theorem Queued.splitLowest (h : s.Queued) (k : Nat) : (s.splitLowest k).Queued :=
  h.of_xc (by simp)

theorem Queued.loseLender (h : s.Queued) (k : Nat) (noUplink : Bool) : (s.loseLender k noUplink).Queued :=
  h.of_xc (by simp)

theorem Queued.stagedReturn (h : s.Queued) : s.stagedReturn.Queued :=
  h.of_xc (by simp)

theorem Queued.mapBorrows (h : s.Queued) (ks : List Nat) (f : BorrowRecord → BorrowRecord) : (s.mapBorrows ks f).Queued :=
  h.of_xc (by simp)

theorem Queued.mapPeers (h : s.Queued) (ks : List Nat) (f : PeerRecord → PeerRecord) : (s.mapPeers ks f).Queued :=
  h.of_xc (by simp)

theorem Queued.mapLinks (h : s.Queued) (ps : List Nat) (f : PortLink → PortLink) : (s.mapLinks ps f).Queued :=
  h.of_xc (by simp)

theorem Queued.select (h : s.Queued) (p : Nat) : (s.select p).Queued :=
  h.of_xc (by simp)

theorem Queued.compareHolds (h : s.Queued) : s.compareHolds.Queued :=
  h.of_xc (by simp)

theorem Queued.holdFault (h : s.Queued) (p : Nat) : (s.holdFault p).Queued :=
  h.of_xc (by simp)

theorem Queued.evaluateTenants (h : s.Queued) : s.evaluateTenants.Queued :=
  h.of_xc (by simp)

theorem Queued.linkLoss (h : s.Queued) (p : Nat) : (s.linkLoss p).Queued :=
  h.of_xc (by simp)

theorem Queued.each (h : s.Queued) (ks : List Nat) {f : State → Nat → State}
    (hf : ∀ {z : State} k, z.Queued → (f z k).Queued) : (s.each ks f).Queued :=
  State.each_induct State.Queued f ks (fun _ k _ hz => hf k hz) s h

/-! ### Messages -/

theorem Queued.queueUrgent (h : s.Queued) {m : Msg} (hm : m.urgency = 0) : (s.queueUrgent m).Queued := ⟨h.1.place hm, h.2⟩

theorem Queued.queueNormal (h : s.Queued) {m : Msg} (hm : m.urgency = 1) : (s.queueNormal m).Queued := ⟨h.1, h.2.place hm⟩

theorem Queued.dropUrgent (h : s.Queued) (k : Kind) (peer : Nat) : (s.dropUrgent k peer).Queued :=
  ⟨h.1.sublist List.filter_sublist, h.2⟩

theorem Queued.dropReturn (h : s.Queued) (peer : Nat) : (s.dropReturn peer).Queued :=
  ⟨h.1, h.2.sublist List.filter_sublist⟩

theorem Queued.sendBorrow (h : s.Queued) (k : Nat) (r : Reason) : (s.sendBorrow k r).Queued := h.queueUrgent rfl

theorem Queued.sendGrant (h : s.Queued) (k : Nat) (r : GrantResult) : (s.sendGrant k r).Queued := by
  unfold State.sendGrant
  refine Queued.queueUrgent ?_ rfl
  split
  · exact h.dropUrgent _ _
  · exact h

theorem Queued.sendWithdraw (h : s.Queued) (k : Nat) (r : WithdrawReason) : (s.sendWithdraw k r).Queued :=
  (h.dropUrgent _ _).queueUrgent rfl

theorem Queued.sendReturn (h : s.Queued) (k : Nat) : (s.sendReturn k).Queued := h.queueNormal rfl

theorem Queued.queueLevel (h : s.Queued) : s.queueLevel.Queued := by
  unfold State.queueLevel
  split
  · exact h.queueNormal rfl
  · exact h

theorem Queued.replyBill (h : s.Queued) (c : Nat) (r : BillReply) : (s.replyBill c r).Queued := h.queueNormal rfl

/-! ### Operations that queue messages -/

theorem Queued.reofferLend (h : s.Queued) : s.reofferLend.Queued := by
  unfold State.reofferLend
  split
  · exact h
  · exact Queued.queueLevel (by exact h)

theorem Queued.evaluateStages (h : s.Queued) : s.evaluateStages.Queued := by
  unfold State.evaluateStages
  dsimp only
  split
  · exact h
  · exact (Queued.queueLevel (by exact h)).reofferLend

theorem Queued.takeChange (h : s.Queued) (c : Change) : (s.takeChange c).Queued := by
  unfold State.takeChange
  have hstages : (if c.measure.isSome then ({ s with rc := s.rc.store c } : State).evaluateStages
      else { s with rc := s.rc.store c }).Queued := by
    split
    · exact Queued.evaluateStages (by exact h)
    · exact h
  dsimp only
  split
  · exact hstages.evaluateTenants
  · exact hstages

theorem Queued.request (h : s.Queued) (k : Nat) (r : Reason) : (s.request k r).Queued :=
  ((h.setBorrow k _).sendBorrow k r).dropReturn k

theorem Queued.faultRequest (h : s.Queued) : s.faultRequest.Queued := by
  unfold State.faultRequest
  split
  · split
    · exact h.request _ _
    · exact h
  · exact h

theorem Queued.freeRecord (h : s.Queued) (k : Nat) : (s.freeRecord k).Queued := by
  unfold State.freeRecord
  split
  · dsimp only
    split
    · exact (h.setBorrow k _).sendReturn k
    · exact h.setBorrow k _
  · exact h

theorem Queued.settlePaths (h : s.Queued) : s.settlePaths.Queued :=
  ((h.each _ fun k hz => hz.freeRecord k).abandonFault).faultRequest

theorem Queued.reportPaths (before : State) (h : s.Queued) : (before.reportPaths s).Queued := by
  unfold State.reportPaths
  have hlevel : (if before.pathReport = s.pathReport then s else s.queueLevel).Queued := by
    split
    · exact h
    · exact h.queueLevel
  dsimp only
  split
  · exact hlevel
  · exact hlevel.reofferLend

theorem Queued.upgrade (h : s.Queued) (k : Nat) : (s.upgrade k).Queued := (h.setBorrow k _).sendBorrow k _

theorem Queued.moveSplit (h : s.Queued) (u : Nat) : (s.moveSplit u).Queued := by
  unfold State.moveSplit
  dsimp only
  split
  · exact h.rebind _ _
  · split
    · exact h.rebind _ _
    · split
      · exact h.rebind _ _
      · exact (h.rebind _ _).each _ fun k hz => hz.upgrade k

theorem Queued.emptyLends (h : s.Queued) : s.emptyLends.Queued :=
  h.each _ fun k hz => (hz.dropLend k).sendWithdraw k _

theorem Queued.pathsUplinkFault (h : s.Queued) (u : Nat) : (s.pathsUplinkFault u).Queued := by
  unfold State.pathsUplinkFault
  have hmoved := ((Queued.replacePaths (s := s.setSole) h none (fun i b => b == .home && s.homePort i == u)).moveSplit
    u).replacePaths none (fun i b => b == .replaceUplink && otherUplink (s.homePort i) == u)
  refine Queued.reportPaths s (Queued.settlePaths ?_)
  split
  · exact hmoved
  · exact hmoved.emptyLends

theorem Queued.pathsUplinkUp (h : s.Queued) (u : Nat) : (s.pathsUplinkUp u).Queued :=
  Queued.reportPaths s (Queued.rebind (s := s.setSole) h paths _).settlePaths

theorem Queued.pathsCrossUp (h : s.Queued) : s.pathsCrossUp.Queued := Queued.reportPaths s h.faultRequest

theorem Queued.pathsPeerLost (h : s.Queued) (k : Nat) : (s.pathsPeerLost k).Queued :=
  Queued.reportPaths s (h.endArrangements k).settlePaths

theorem Queued.grantFrom (h : s.Queued) (k : Nat) (g : GrantResult) : (s.grantFrom k g).Queued := by
  unfold State.grantFrom
  dsimp only
  split
  · split
    · split
      · exact Queued.reportPaths s ((h.setBorrow k _).bindUnbound k).settlePaths
      · exact Queued.reportPaths s ((h.setBorrow k _).splitLowest k).settlePaths
    · exact Queued.reportPaths s (h.setBorrow k _).settlePaths
  · split
    · split
      · exact Queued.reportPaths s ((h.setBorrow k _).bindUnbound k).settlePaths
      · exact Queued.reportPaths s (h.loseLender k _).settlePaths
    · exact h
  · split
    · exact h.sendReturn k
    · exact h

theorem Queued.withdrawFrom (h : s.Queued) (k : Nat) (w : WithdrawReason) : (s.withdrawFrom k w).Queued := by
  unfold State.withdrawFrom
  dsimp only
  split
  · exact Queued.reportPaths s (h.loseLender k _).settlePaths
  · exact Queued.reportPaths s (h.setBorrow k _).settlePaths
  · exact h

theorem Queued.shed (h : s.Queued) : s.shed.Queued := by
  unfold State.shed
  split
  · exact Queued.reportPaths s (h.splitLowest _).settlePaths
  · split
    · exact h
    · split
      · exact Queued.reportPaths s (h.request _ _).settlePaths
      · exact h

theorem Queued.giveBackPath (h : s.Queued) : s.giveBackPath.Queued := by
  unfold State.giveBackPath
  split
  · exact Queued.reportPaths s (h.setBinding _ _).settlePaths
  · split
    · exact Queued.reportPaths s (h.setBorrow _ _).settlePaths
    · exact h

theorem Queued.lendFault (h : s.Queued) (k : Nat) (sole : Bool) : (s.lendFault k sole).Queued :=
  (h.setLend k _).sendGrant k _

theorem Queued.lendRelief (h : s.Queued) (k : Nat) : (s.lendRelief k).Queued := (h.setLend k _).sendGrant k _

theorem Queued.refuse (h : s.Queued) (k : Nat) (r : Reason) (g : GrantResult) : (s.refuse k r g).Queued := by
  unfold State.refuse
  refine Queued.sendGrant ?_ k g
  split
  · exact h.dropLend k
  · exact h

theorem Queued.answerRelief (h : s.Queued) (k : Nat) : (s.answerRelief k).Queued := by
  unfold State.answerRelief
  split
  · exact h.refuse _ _ _
  · split
    · exact h.refuse _ _ _
    · split
      · split
        · exact h.refuse _ _ _
        · exact (h.setBorrow k _).lendRelief k
      · exact h.lendRelief k

theorem Queued.answerBorrow (h : s.Queued) (k : Nat) (r : Reason) (sole : Bool) : (s.answerBorrow k r sole).Queued := by
  unfold State.answerBorrow
  split
  · exact h.lendFault k sole
  · split
    · exact h.sendGrant k _
    · split
      · exact h.answerRelief k
      · exact h.refuse _ _ _
  · split
    · exact h.lendFault k sole
    · exact h.refuse _ _ _
  · split
    · exact h.answerRelief k
    · exact h.refuse _ _ _

theorem Queued.borrowFrom (h : s.Queued) (k : Nat) (r : Reason) (sole : Bool) : (s.borrowFrom k r sole).Queued := by
  unfold State.borrowFrom
  split
  · exact Queued.reportPaths s (h.answerBorrow k r sole)
  · exact h

theorem Queued.returnFrom (h : s.Queued) (k : Nat) : (s.returnFrom k).Queued := Queued.reportPaths s (h.dropLend k)

theorem Queued.lendCheck (h : s.Queued) (k : Nat) (l : LevelFields) : (s.lendCheck k l).Queued := by
  unfold State.lendCheck
  extract_lets names checked record rejoined
  have hchecked : checked.Queued := by
    unfold checked
    split
    · split
      · split
        · exact h.setLend k _
        · exact h
      · exact h.dropLend k
    · exact h
  refine Queued.reportPaths s ?_
  unfold rejoined
  split
  · exact hchecked.setBorrow k _
  · exact hchecked

theorem Queued.withdrawOne (h : s.Queued) : s.withdrawOne.Queued := by
  unfold State.withdrawOne
  split
  · split
    · exact (h.dropLend _).sendWithdraw _ _
    · split
      · exact (h.dropLend _).sendWithdraw _ _
      · exact h
  · exact h

theorem Queued.requestTick (h : s.Queued) (k : Nat) : (s.requestTick k).Queued := by
  unfold State.requestTick
  dsimp only
  split
  · split
    · exact h.setBorrow k _
    · split
      · exact (h.setBorrow k _).sendBorrow k _
      · exact h.setBorrow k _
    · exact h
  · split
    · exact h.setBorrow k _
    · exact h

theorem Queued.pathTick (h : s.Queued) : s.pathTick.Queued := by
  have htimers : s.tickPaths.tickTimers.Queued :=
    ((h.stagedReturn.faultRequest.withdrawOne).each _ fun k hz => hz.requestTick k).mapBorrows _ _
  exact Queued.reportPaths s (htimers.each _ fun k hz => hz.freeRecord k).abandonFault

theorem Queued.uplinkChanged (h : s.Queued) (p : Nat) : (s.uplinkChanged p).Queued := by
  unfold State.uplinkChanged
  split
  · exact h.queueLevel
  · exact h

theorem Queued.faultReports (h : s.Queued) (p : Nat) : (s.faultReports p).Queued := by
  unfold State.faultReports
  split
  · exact Queued.holdFault (by exact h) p
  · exact (h.pathsUplinkFault p).reofferLend.queueLevel
  · exact h.pathsPeerLost _

theorem Queued.linkFault (h : s.Queued) (p : Nat) : (s.linkFault p).Queued :=
  (((h.setLink p _).setIntake p _).linkLoss p).faultReports p

theorem Queued.upReports (h : s.Queued) (p : Nat) : (s.upReports p).Queued := by
  unfold State.upReports
  split
  · exact (h.select p).compareHolds
  · exact ((h.select p).pathsUplinkUp p).reofferLend.queueLevel
  · exact (h.select p).pathsCrossUp

theorem Queued.judged (h : s.Queued) (p : Nat) (bad : Bool) : (s.judged p bad).Queued := by
  unfold State.judged
  dsimp only
  split
  · split
    · exact (h.setLink p _).uplinkChanged p
    · exact h
  · split
    · exact h.setLink p _
    · split
      · exact ((h.setLink p _).setLink p _).upReports p
      · exact h.setLink p _
  · split
    · exact (h.setLink p _).uplinkChanged p
    · exact h
  · split
    · exact h.linkFault p
    · exact (h.setLink p _).uplinkChanged p
  · exact h

theorem Queued.judgeWindow (h : s.Queued) (p : Nat) : (s.judgeWindow p).Queued := (h.setLink p _).judged p _

theorem Queued.takeWindowEnd (h : s.Queued) (p : Nat) : (s.takeWindowEnd p).Queued := by
  unfold State.takeWindowEnd
  split
  · exact Queued.judgeWindow (by exact h) p
  · split
    · exact Queued.judgeWindow (by exact h) p
    · exact h

theorem Queued.signalGone (h : s.Queued) (p : Nat) : (s.signalGone p).Queued := by
  unfold State.signalGone
  dsimp only
  split
  · split
    · exact h.setLink p _
    · exact h.setLink p _
    · exact ((h.setLink p _).setLink p _).uplinkChanged p
    · exact (h.setLink p _).linkFault p
    · exact (h.setLink p _).linkFault p
  · exact h.setLink p _

theorem Queued.flapReset (h : s.Queued) : s.flapReset.Queued := by
  unfold State.flapReset
  dsimp only
  split
  · exact (h.mapLinks _ _).queueLevel
  · exact h.mapLinks _ _

theorem Queued.peerReportTick (h : s.Queued) : s.peerReportTick.Queued :=
  (h.mapPeers _ _).each _ fun k hz => hz.pathsPeerLost k

theorem Queued.showHead (h : s.Queued) (c : Nat) : (s.showHead c).Queued := by
  unfold State.showHead
  split <;> exact Queued.replyBill (by exact h) c _

theorem Queued.billFetch (h : s.Queued) (c : Nat) (repeated : Bool) : (s.billFetch c repeated).Queued := by
  unfold State.billFetch State.answerFetch
  split
  · exact h
  · split
    · exact h.replyBill c _
    · split
      · exact h.showHead c
      · exact h.showHead c
      · split
        · split
          · exact h.showHead c
          · exact Queued.showHead (by exact h) c
        · exact h.replyBill c _

theorem Queued.nextChange (h : s.Queued) : s.nextChange.Queued := by
  unfold State.nextChange
  split
  · exact Queued.takeChange (by exact h) _
  · exact h

theorem Queued.takeShed (h : s.Queued) : s.takeShed.Queued := by
  unfold State.takeShed
  split
  · exact Queued.shed (by exact h)
  · exact h

theorem Queued.takeReturn (h : s.Queued) : s.takeReturn.Queued := by
  unfold State.takeReturn
  split
  · exact Queued.giveBackPath (by exact h)
  · exact h

end State


/-! ## The whole controller -/

namespace State

variable {s : State}

theorem lineSound_iff : s.LineSound ↔
    s.Queued ∧ s.xc.notices.length ≤ 16 ∧ s.xc.attempts ≤ 3 ∧ (s.xc.hand = none → s.xc.attempts = 0) := by
  simp only [LineSound, Queued, QueueOf, and_assoc]
  rfl

theorem LineSound.queued (h : s.LineSound) : s.Queued := (lineSound_iff.1 h).1

/-- What keeps the queues in order and touches nothing else of the controller keeps it sound. -/
theorem LineSound.of_quiet {z : State} (h : s.LineSound) (hquiet : z.xc.quiet = s.xc.quiet) (hqueued : z.Queued) :
    z.LineSound := by
  obtain ⟨-, hrest⟩ := lineSound_iff.1 h
  refine lineSound_iff.2 ⟨hqueued, ?_⟩
  rwa [CrosslineController.eq_of_quiet hquiet]

theorem LineSound.inHand {z : State} (h : s.LineSound) (hqueued : z.Queued) (hnotices : z.xc.notices = s.xc.notices) (m : Msg) :
    (z.inHand m).LineSound := by
  obtain ⟨-, hfew, -⟩ := lineSound_iff.1 h
  exact lineSound_iff.2 ⟨hqueued, (congrArg List.length hnotices).trans_le hfew, Nat.zero_le _, fun hnone => nomatch hnone⟩

theorem LineSound.takeFrame (h : s.LineSound) : s.takeFrame.LineSound := by
  obtain ⟨hurgents, hnormals⟩ := h.queued
  unfold State.takeFrame
  split
  · exact h
  · split
    · split
      · next m rest hfirst =>
        exact h.inHand (z := { s with xc := { s.xc with normal := rest } })
          ⟨hurgents, hnormals.sublist (takeFirst_sublist hfirst)⟩ rfl _
      · exact h
    · split
      · next m rest hurgent =>
        rw [hurgent] at hurgents
        exact h.inHand (z := { s with xc := { s.xc with urgent := rest } })
          ⟨hurgents.sublist (List.sublist_cons_self ..), hnormals⟩ rfl _
      · split
        · next m rest hnormal =>
          rw [hnormal] at hnormals
          exact h.inHand (z := { s with xc := { s.xc with normal := rest } })
            ⟨hurgents, hnormals.sublist (List.sublist_cons_self ..)⟩ rfl _
        · split
          · unfold State.askAddress
            split
            · exact h.inHand h.queued rfl _
            · exact h
          · exact h

theorem LineSound.offerNotice (h : s.LineSound) (n : Notice) : (s.offerNotice n).LineSound := by
  obtain ⟨hqueues, hnotices, hattempts⟩ := lineSound_iff.1 h
  unfold State.offerNotice
  split
  · next hfew =>
    refine lineSound_iff.2 ⟨hqueues, ?_, hattempts⟩
    rw [List.length_append]
    exact hfew
  · have hroom : (s.xc.notices.dropLast ++ [n]).length ≤ 16 := by
      rw [List.length_append, List.length_dropLast, List.length_singleton]
      omega
    have hlost : ({ s with xc := { s.xc with
        notices := s.xc.notices.dropLast ++ [n], overruns := bump s.xc.overruns, overrunLatch := true, lostNotices := true
        lostAgain := true } } : State).LineSound := lineSound_iff.2 ⟨hqueues, hroom, hattempts⟩
    dsimp only
    split
    · exact hlost
    · exact hlost.of_quiet (by simp) hlost.queued.queueLevel

theorem LineSound.emptyHand (h : s.LineSound) : s.emptyHand.LineSound := by
  obtain ⟨hqueues, hnotices, -⟩ := lineSound_iff.1 h
  exact lineSound_iff.2 ⟨hqueues, hnotices, Nat.zero_le _, fun _ => rfl⟩

theorem LineSound.ownerSent (h : s.LineSound) (x : Hand) : (s.ownerSent x).LineSound := by
  unfold State.ownerSent
  split
  · exact h
  · split
    · split <;> exact h
    · exact h
  all_goals exact h

theorem LineSound.discardHand (h : s.LineSound) : s.discardHand.LineSound := by
  unfold State.discardHand
  split
  · refine LineSound.emptyHand (h.of_quiet (by simp) (h.queued.of_xc (by simp)))
  · exact h

theorem lineClosed_lineSound : State.LineClosed State.LineSound where
  receiver := fun {s x} hheld h => by
    simp only [CrosslineController.held, Prod.mk.injEq] at hheld
    obtain ⟨hurgent, hnormal, hhand, hattempts, hnotices⟩ := hheld
    rw [lineSound_iff] at h ⊢
    simpa only [Queued, hurgent, hnormal, hhand, hattempts, hnotices] using h
  notice := fun _ h => h.offerNotice _
  discard := LineSound.discardHand
  retry := fun hhand hfew h => by
    obtain ⟨hqueues, hnotices, -⟩ := lineSound_iff.1 h
    refine lineSound_iff.2 ⟨hqueues, hnotices, Nat.le_of_lt_succ hfew, fun hnone => ?_⟩
    exact absurd (hhand.symm.trans hnone) (by simp)
  sent := fun x h => (h.ownerSent x).emptyHand
  built := fun _ h => by
    obtain ⟨hqueues, hnotices, hattempts, -⟩ := lineSound_iff.1 h
    exact lineSound_iff.2 ⟨hqueues, hnotices, hattempts, fun hnone => nomatch hnone⟩
  take := LineSound.takeFrame

theorem LineSound.removeNotice (h : s.LineSound) : s.removeNotice.LineSound := by
  obtain ⟨hqueues, hnotices, hattempts⟩ := lineSound_iff.1 h
  exact lineSound_iff.2 ⟨hqueues, List.length_tail.trans_le ((Nat.sub_le _ 1).trans hnotices), hattempts⟩

theorem LineSound.process (h : s.LineSound) (p : Notice → Bool) {act : State → Notice → State}
    (hact : ∀ {z : State} n, z.LineSound → (act z n).LineSound) : (s.process p act).LineSound :=
  State.process_keeps h (fun _ _ _ => h.removeNotice) (fun n _ _ _ hz => hact n hz) (fun _ hz => hz.takeFrame)

theorem LineSound.levelFrom (h : s.LineSound) (k : Nat) (ws : List Word) : (s.levelFrom k ws).LineSound := by
  unfold State.levelFrom State.storeLevel
  split
  · next l _ =>
    have hstored := (h.queued.setPeer k (PeerRecord.store l)).lendCheck k l
    dsimp only
    split
    · exact h.of_quiet (by simp) (by exact hstored)
    · exact h.of_quiet (by simp) hstored
  · exact lineClosed_lineSound.lineError h

theorem LineSound.actGrant (h : s.LineSound) (n : Notice) : (s.actGrant n).LineSound := by
  unfold State.actGrant
  split
  · exact h.of_quiet (by simp) (h.queued.grantFrom _ _)
  · exact lineClosed_lineSound.lineError h

theorem LineSound.clearLatches (h : s.LineSound) : s.clearLatches.LineSound := by
  refine LineSound.of_quiet (s := { s with xc := { s.xc with lineFault := false, overrunLatch := false } }) h ?_ ?_
  · simp [State.clearLatches]
  · exact Queued.mapLinks (by exact h.queued) _ _

theorem LineSound.statusFetch (h : s.LineSound) (c : Nat) : (s.statusFetch c).LineSound := by
  unfold State.statusFetch
  split
  · exact h
  · exact h.clearLatches.of_quiet (by simp) (h.clearLatches.queued.queueNormal rfl)

theorem LineSound.reportAct (h : s.LineSound) (u : ReportUser) : (s.reportAct u).LineSound := by
  cases u with
  | egressScheduler => exact h.of_quiet (by simp [State.reportAct]) (h.queued.of_xc (by simp [State.reportAct]))
  | reliefController => exact h.of_quiet (by simp [State.reportAct]) (h.queued.of_xc (by simp [State.reportAct]))
  | pathUnit => exact h.of_quiet (by simp [State.reportAct]) h.queued.pathTick
  | peerView => exact h.of_quiet (by simp [State.reportAct]) h.queued.peerReportTick
  | levelBuilder => exact h.of_quiet (by simp [State.reportAct]) h.queued.queueLevel
  | billingQueue => exact h

theorem LineSound.ageAct (h : s.LineSound) (u : AgeUser) : (s.ageAct u).LineSound := by
  cases u with
  | addressTable => exact h
  | linkSupervisor => exact h.of_quiet (by simp [State.ageAct]) h.queued.flapReset
  | peerView => exact h.of_quiet (by simp [State.ageAct]) (h.queued.of_xc (by simp [State.ageAct]))

theorem LineSound.reportTickIf (h : s.LineSound) (u : ReportUser) (named : Bool) : (s.reportTickIf u named).LineSound :=
  State.reportTickIf_keeps (fun _ _ hz => hz) (fun _ hz => hz.reportAct u) named h

theorem LineSound.after (h : s.LineSound) (c : Instr) : (s.after c).LineSound := by
  have hreset : State.reset.LineSound := by
    simp [State.LineSound, State.reset]
  have same : ∀ {z : State}, z.xc = s.xc → z.LineSound := fun hxc =>
    h.of_quiet (congrArg CrosslineController.quiet hxc) (h.queued.of_xc hxc)
  have quietly : ∀ {z : State}, z.xc.quiet = s.xc.quiet → z.Queued → z.takeFrame.LineSound := fun hquiet hqueued =>
    (h.of_quiet hquiet hqueued).takeFrame
  cases c with
  | reset straps signals => exact hreset
  | imageLoadEnd | fineTick | prescalerOutput | epochClose | signalPresent | lineCodeError | admission | copyTransmitted
  | holdFrameEnd | receivedHoldTimerExpiry | renewTimerExpiry | usageReport | refusalReport | lossReport | ratingStep
  | computationEnd | slotFreed | receptionBegins => exact same (by simp [State.after])
  | windowEnd p => exact quietly (by simp) (h.queued.takeWindowEnd p)
  | signalLost p => exact quietly (by simp) (h.queued.signalGone p)
  | frameReception | scanStep => exact (same (by simp)).takeFrame
  | changeEvent => exact quietly (by simp) h.queued.nextChange
  | shedRequest => exact quietly (by simp) h.queued.takeShed
  | returnRequest => exact quietly (by simp) h.queued.takeReturn
  | reportTick u => exact (State.reportTick_keeps (fun _ _ hz => hz) (fun _ hz => hz.reportAct u) h : LineSound _).takeFrame
  | ageTick u => exact (State.ageTick_keeps (fun _ _ hz => hz) (fun _ hz => hz.ageAct u) h : LineSound _).takeFrame
  | entryAgedOut w =>
    exact (State.entryAgedOut_keeps (fun _ _ hz => hz) (fun _ hz => hz.ageAct .addressTable) w h : LineSound _).takeFrame
  | heldLimitFlush | peerStale | showLimitLapse | requestTimeout | upgradeTimeout | exclusionExpiry =>
    exact (h.reportTickIf _ _).takeFrame
  | crosslineFrameReceived ws => exact (lineClosed_lineSound.hear h ws).takeFrame
  | frameAcquired gap => exact (lineClosed_lineSound.hear h _).takeFrame
  | frameStart gap w1 w2 c => exact (lineClosed_lineSound.tryStart h gap w1 w2 c).takeFrame
  | attemptFailed good w => exact (lineClosed_lineSound.lineBreaks h good w).takeFrame
  | frameSent => exact (lineClosed_lineSound.driveOut h).takeFrame
  | levelNotice => exact h.process _ fun n hz => hz.levelFrom _ _
  | grantNotice => exact h.process _ fun n hz => hz.actGrant n
  | statusFetch => exact h.process _ fun n hz => hz.statusFetch _
  | addressNotice => exact h.process _ fun n hz => hz
  | borrowNotice => exact h.process _ fun n hz => hz.of_quiet (by simp) (hz.queued.borrowFrom _ _ _)
  | withdrawNotice => exact h.process _ fun n hz => hz.of_quiet (by simp) (hz.queued.withdrawFrom _ _)
  | returnNotice => exact h.process _ fun n hz => hz.of_quiet (by simp) (hz.queued.returnFrom _)
  | billFetchPlain => exact h.process _ fun n hz => hz.of_quiet (by simp) (hz.queued.billFetch _ _)
  | billFetchRepeat => exact h.process _ fun n hz => hz.of_quiet (by simp) (hz.queued.billFetch _ _)

end State

/-- Settles O46. -/
theorem lineSoundKept : Obligations.LineSoundKept := fun _ _ hs hstep =>
  step_keeps (P := State.LineSound) (fun _ _ h => h) (fun _ c h => h.after c) hs hstep

end Sys2Proof.Machine
end

section
/-! The address table (Chapter 2): what finding a key says, what each operation does to a sound table, and that every step keeps
the table sound. -/

namespace Sys2Proof

/-- In a canonical table, being listed is being read. -/
theorem Tab.mem_iff_find? {α : Type} {t : Tab α} (hw : Tab.wf t = true) (k : Nat) (v : α) :
    (k, v) ∈ t ↔ Tab.find? t k = some v := ⟨Tab.find?_of_mem hw, Tab.mem_of_find?⟩

theorem Tab.nodup_of_wf {α : Type} {t : Tab α} (hw : Tab.wf t = true) : t.Nodup :=
  ((Tab.wf_iff t).1 hw).imp fun hlt hab => absurd (congrArg Prod.fst hab) (Nat.ne_of_lt hlt)

end Sys2Proof

namespace Sys2Proof.Machine

open Sys2Proof.Config

/-! ## Finding a key -/

theorem mem_waysOf {i b : Nat} : i ∈ waysOf b ↔ i / 4 = b := by
  simp only [waysOf, List.mem_cons, List.not_mem_nil, or_false]
  omega

theorem Entry.hasKey_iff (e : Entry) (t : Nat) (a : Addr) : e.hasKey t a = true ↔ e.tenant = t ∧ e.addr = a := by
  simp [Entry.hasKey]

theorem eq_some_of_orElse {α : Type} {o : Option α} {f : Unit → Option α} {v : α} (h : o.orElse f = some v) :
    o = some v ∨ f () = some v := by
  cases o with
  | none => exact .inr h
  | some w => exact .inl h

namespace AddressTable

variable {x : AddressTable} {t i j : Nat} {a : Addr} {e : Entry}

theorem find?_of_findKey (h : x.findKey t a = some (i, e)) :
    Tab.find? x.ways i = some e ∧ e.tenant = t ∧ e.addr = a ∧ i / 4 = bucketOf t a := by
  obtain ⟨w, hw, hfound⟩ := List.exists_of_findSome?_eq_some h
  split at hfound
  · next f hf =>
    split at hfound
    · next hkey =>
      cases hfound
      obtain ⟨htenant, haddr⟩ := (Entry.hasKey_iff _ _ _).1 hkey
      exact ⟨hf, htenant, haddr, mem_waysOf.1 hw⟩
    · cases hfound
  · cases hfound

theorem findKey_eq_none (h : x.findKey t a = none) (hi : i / 4 = bucketOf t a) (hfound : Tab.find? x.ways i = some e) :
    ¬(e.tenant = t ∧ e.addr = a) := by
  have hnone := List.findSome?_eq_none_iff.1 h i (mem_waysOf.2 hi)
  simp only [hfound] at hnone
  split at hnone
  · cases hnone
  · next hkey => exact fun hk => hkey ((Entry.hasKey_iff _ _ _).2 hk)

/-! ### The ways of a bucket -/

theorem bucket_of_freeIn {b : Nat} (h : x.freeIn b = some i) : i / 4 = b := mem_waysOf.1 (List.mem_of_find?_eq_some h)

theorem bucket_of_firstIn {b : Nat} {p : Entry → Bool} (h : x.firstIn b p = some i) : i / 4 = b :=
  mem_waysOf.1 (List.mem_of_find?_eq_some h)

theorem bucket_of_oldLocal {b : Nat} (h : x.oldLocal b = some i) : i / 4 = b := by
  unfold oldLocal at h
  split at h
  · exact bucket_of_firstIn h
  · cases h

theorem bucket_of_victim {b : Nat} (h : x.victim b = some i) : i / 4 = b := by
  obtain h | h := eq_some_of_orElse h
  · exact bucket_of_freeIn h
  obtain h | h := eq_some_of_orElse h
  · exact bucket_of_firstIn h
  obtain h | h := eq_some_of_orElse h
  · exact bucket_of_oldLocal h
  · exact bucket_of_firstIn h

end AddressTable

/-! ## A sound table -/

/-- What `AddressesSound` says of one entry. -/
def Entry.GoodAt (st : Nat) (outstanding : Bool) (i : Nat) (e : Entry) : Prop :=
  i / 4 = bucketOf e.tenant e.addr ∧ isGroup e.addr = false ∧ e.moves ≤ 15 ∧ e.place.inRange st = true ∧
    (e.mark = .inFrame → outstanding = true)

/-- What `AddressesSound` says of the table, read way by way. -/
structure AddressTable.Sound (st : Nat) (x : AddressTable) : Prop where
  wf : Tab.wf x.ways = true
  good : ∀ {i e}, Tab.find? x.ways i = some e → e.GoodAt st x.outstanding i
  unique : ∀ {i j e f}, Tab.find? x.ways i = some e → Tab.find? x.ways j = some f → e.tenant = f.tenant → e.addr = f.addr → i = j

theorem AddressTable.sound_iff (st : Nat) (x : AddressTable) : x.Sound st ↔
    Tab.wf x.ways = true ∧ (∀ e ∈ x.ways, e.2.GoodAt st x.outstanding e.1) ∧
      (x.ways.map (fun e => (e.2.tenant, e.2.addr))).Nodup := by
  constructor
  · rintro ⟨hwf, hgood, hunique⟩
    refine ⟨hwf, fun e he => hgood (Tab.find?_of_mem hwf he), ?_⟩
    refine (List.nodup_map_iff_inj_on (Tab.nodup_of_wf hwf)).2 fun e he f hf hkey => ?_
    have hfe := Tab.find?_of_mem hwf he
    have hff := Tab.find?_of_mem hwf hf
    have hway : e.1 = f.1 := hunique hfe hff (congrArg Prod.fst hkey) (congrArg Prod.snd hkey)
    rw [hway, hff] at hfe
    exact Prod.ext hway (Option.some.inj hfe.symm)
  · rintro ⟨hwf, hgood, hunique⟩
    have hinj := (List.nodup_map_iff_inj_on (Tab.nodup_of_wf hwf)).1 hunique
    refine ⟨hwf, fun he => hgood _ (Tab.mem_of_find? he), fun he hf htenant haddr => ?_⟩
    exact congrArg Prod.fst (hinj _ (Tab.mem_of_find? he) _ (Tab.mem_of_find? hf) (Prod.ext htenant haddr))

theorem State.addressesSound_iff (s : State) : s.AddressesSound ↔
    s.tab.Sound s.il.station ∧ ∀ n ∈ s.xc.notices, n.kind = .address → n.sender ≤ 3 := by
  simp only [State.AddressesSound, AddressTable.sound_iff, Entry.GoodAt, and_assoc]

namespace AddressTable.Sound

variable {st : Nat} {x : AddressTable} {i : Nat} {e f : Entry}

/-- A way gets an entry whose key no other way holds. -/
theorem setWay (h : x.Sound st) (hf : f.GoodAt st x.outstanding i)
    (hother : ∀ {j g}, j ≠ i → Tab.find? x.ways j = some g → ¬(g.tenant = f.tenant ∧ g.addr = f.addr)) :
    (x.setWay i f).Sound st where
  wf := Tab.wf_put i f h.wf
  good := fun {j g} hg => by
    rw [AddressTable.setWay, Tab.find?_put] at hg
    split at hg
    · next hj =>
      cases hg
      exact hj ▸ hf
    · exact h.good hg
  unique := fun {j k g g'} hg hg' htenant haddr => by
    rw [AddressTable.setWay, Tab.find?_put] at hg hg'
    split at hg <;> split at hg'
    · next hj hk => exact hj.trans hk.symm
    · next hj hk =>
      cases hg
      exact absurd ⟨htenant.symm, haddr.symm⟩ (hother hk hg')
    · next hj hk =>
      cases hg'
      exact absurd ⟨htenant, haddr⟩ (hother hj hg)
    · exact h.unique hg hg' htenant haddr

/-- A way gets another entry of its own key. -/
theorem rewrite (h : x.Sound st) (he : Tab.find? x.ways i = some e) (htenant : f.tenant = e.tenant) (haddr : f.addr = e.addr)
    (hmoves : f.moves ≤ 15) (hplace : f.place.inRange st = true) (hmark : f.mark = .inFrame → x.outstanding = true) :
    (x.setWay i f).Sound st := by
  obtain ⟨hbucket, hgroup, -⟩ := h.good he
  refine h.setWay ⟨?_, ?_, hmoves, hplace, hmark⟩ fun hj hg ⟨hgt, hga⟩ => ?_
  · rwa [htenant, haddr]
  · rwa [haddr]
  · exact hj (h.unique hg he (hgt.trans htenant) (hga.trans haddr))

/-- A way of its bucket gets an entry whose key the table does not hold. -/
theorem insert (h : x.Sound st) (hnew : x.findKey f.tenant f.addr = none) (hf : f.GoodAt st x.outstanding i) :
    (x.setWay i f).Sound st := by
  refine h.setWay hf fun _ hg hkey => ?_
  obtain ⟨hbucket, -⟩ := h.good hg
  refine AddressTable.findKey_eq_none hnew ?_ hg hkey
  rw [hbucket, hkey.1, hkey.2]

theorem freeWay (h : x.Sound st) (i : Nat) : (x.freeWay i).Sound st where
  wf := Tab.wf_drop i h.wf
  good := fun hg => by
    rw [AddressTable.freeWay, Tab.find?_drop] at hg
    split at hg
    · cases hg
    · exact h.good hg
  unique := fun hg hg' => by
    rw [AddressTable.freeWay, Tab.find?_drop] at hg hg'
    split at hg
    · cases hg
    · split at hg'
      · cases hg'
      · exact h.unique hg hg'

theorem skip (h : x.Sound st) : x.skip.Sound st := ⟨h.wf, h.good, h.unique⟩

/-- Every way is freed or gets another good entry of its own key; another frame may be outstanding from then on. -/
theorem filterMap (h : x.Sound st) {y : AddressTable} (g : Nat → Entry → Option Entry)
    (hy : y.ways = Tab.filterMap g x.ways)
    (hg : ∀ {i e f}, e.GoodAt st x.outstanding i → g i e = some f →
      f.tenant = e.tenant ∧ f.addr = e.addr ∧ f.GoodAt st y.outstanding i) : y.Sound st := by
  have hread : ∀ {i f}, Tab.find? y.ways i = some f →
      ∃ e, Tab.find? x.ways i = some e ∧ f.tenant = e.tenant ∧ f.addr = e.addr ∧ f.GoodAt st y.outstanding i := by
    intro i f hf
    rw [hy, Tab.find?_filterMap g h.wf] at hf
    obtain ⟨e, he, hef⟩ := Option.bind_eq_some_iff.1 hf
    exact ⟨e, he, hg (h.good he) hef⟩
  refine ⟨hy ▸ Tab.wf_filterMap g h.wf, fun hf => ?_, fun hf hf' htenant haddr => ?_⟩
  · obtain ⟨e, -, -, -, hgood⟩ := hread hf
    exact hgood
  · obtain ⟨e, he, hte, hae, -⟩ := hread hf
    obtain ⟨e', he', hte', hae', -⟩ := hread hf'
    exact h.unique he he' (hte.symm.trans (htenant.trans hte')) (hae.symm.trans (haddr.trans hae'))

end AddressTable.Sound

/-! ## The operations on a sound table -/

theorem nextMoves_le (m : Nat) : nextMoves m ≤ 15 := Nat.le_of_lt_succ (Nat.mod_lt _ (by decide))

namespace AddressTable.Sound

variable {st : Nat} {x : AddressTable}

theorem learn (h : x.Sound st) (t : Nat) {a : Addr} {p : Nat} (ha : isGroup a = false) (hp : p < 16) :
    (x.learn t a p).Sound st := by
  have hport : (Place.atPort p 0 .pending).inRange st = true := decide_eq_true hp
  unfold AddressTable.learn
  split
  · next i e hfound =>
    obtain ⟨hway, -⟩ := AddressTable.find?_of_findKey hfound
    obtain ⟨-, -, hmoves, hplace, hmark⟩ := h.good hway
    split
    · next q age m hlocal =>
      split
      · next hq =>
        refine h.rewrite hway rfl rfl hmoves (by rw [hq]; exact hport) fun hm => hmark ?_
        simpa only [Entry.mark, hlocal] using hm
      · exact h.rewrite hway rfl rfl (nextMoves_le _) hport nofun
    · exact h.rewrite hway rfl rfl (nextMoves_le _) hport nofun
    · exact h.rewrite hway rfl rfl (nextMoves_le _) hport nofun
  · next hnew =>
    split
    · next i hi => exact h.insert hnew ⟨AddressTable.bucket_of_victim hi, ha, Nat.zero_le _, hport, nofun⟩
    · exact h.skip

theorem apply (h : x.Sound st) {k : Nat} (hk : k ≤ 3) (hother : k ≠ st) {m : AddressEntry} (hm : m.moves ≤ 15) :
    (x.apply st k m).Sound st := by
  have hpeer : (Place.atPeer k).inRange st = true := by
    simp [Place.inRange, hk, hother]
  unfold AddressTable.apply
  split
  · exact h
  · next hkept =>
    have hgroup : isGroup m.addr = false := by
      simpa using fun hg => hkept (.inr hg)
    split
    · next i e hfound =>
      obtain ⟨hway, -⟩ := AddressTable.find?_of_findKey hfound
      obtain ⟨-, -, hmoves, hplace, -⟩ := h.good hway
      split
      · split
        · split
          · exact h.freeWay i
          · exact h
        all_goals exact h
      · split
        · exact h.rewrite hway rfl rfl hm hpeer nofun
        · exact h.rewrite hway rfl rfl hm hpeer nofun
        · next q age mark hlocal =>
          split
          · exact h.rewrite hway rfl rfl hm hpeer nofun
          · rw [hlocal] at hplace
            exact h.rewrite hway rfl rfl hmoves hplace nofun
    · next hnew =>
      split
      · exact h
      · dsimp only
        split
        · next i hi =>
          refine h.insert hnew ⟨?_, hgroup, hm, hpeer, nofun⟩
          obtain hi | hi := eq_some_of_orElse hi
          · exact AddressTable.bucket_of_freeIn hi
          · exact AddressTable.bucket_of_firstIn hi
        · exact h.skip

theorem applyAll (h : x.Sound st) {k : Nat} (hk : k ≤ 3) {ms : List AddressEntry} (hms : ∀ m ∈ ms, m.moves ≤ 15) :
    (x.applyAll st k ms).Sound st := by
  unfold AddressTable.applyAll
  split
  · exact h
  · next hother =>
    induction ms generalizing x with
    | nil => exact h
    | cons m ms ih =>
      exact ih (h.apply hk hother (hms m (List.mem_cons_self ..))) fun n hn => hms n (List.mem_cons_of_mem _ hn)

theorem ageTick (h : x.Sound st) (limit : Nat) : (x.ageTick limit).Sound st := by
  refine h.filterMap _ rfl fun {i e f} hgood hf => ?_
  obtain ⟨hbucket, hgroup, hmoves, hplace, hmark⟩ := hgood
  cases hf
  cases hp : e.place with
  | atPort q age m =>
    rw [hp] at hplace
    simp only [Entry.mark, hp] at hmark
    simp only [Entry.ageTick, hp]
    split
    · exact ⟨rfl, rfl, hbucket, hgroup, hmoves, rfl, nofun⟩
    · exact ⟨rfl, rfl, hbucket, hgroup, hmoves, hplace, hmark⟩
  | atPeer k | retired m =>
    have hsame : e.ageTick limit = e := by simp only [Entry.ageTick, hp]
    rw [hsame]
    exact ⟨rfl, rfl, hbucket, hgroup, hmoves, hplace, hmark⟩

theorem retirePort (h : x.Sound st) (p : Nat) : (x.retirePort p).Sound st := by
  refine h.filterMap _ rfl fun {i e f} hgood hf => ?_
  obtain ⟨hbucket, hgroup, hmoves, hplace, hmark⟩ := id hgood
  cases hf
  split
  · split
    · exact ⟨rfl, rfl, hbucket, hgroup, hmoves, rfl, nofun⟩
    · exact ⟨rfl, rfl, hgood⟩
  all_goals exact ⟨rfl, rfl, hgood⟩

theorem freePeer (h : x.Sound st) (k : Nat) : (x.freePeer k).Sound st := by
  refine h.filterMap _ rfl fun {i e f} hgood hf => ?_
  have hkept : f = e := by
    split at hf
    · split at hf
      · cases hf
      · exact (Option.some.inj hf).symm
    all_goals exact (Option.some.inj hf).symm
  rw [hkept]
  exact ⟨rfl, rfl, hgood⟩

theorem scanStep (h : x.Sound st) : x.scanStep.Sound st := by
  unfold AddressTable.scanStep
  split
  · exact h
  · refine h.filterMap _ rfl fun {i e f} hgood hf => ?_
    obtain ⟨hbucket, hgroup, hmoves, hplace, -⟩ := id hgood
    cases hf
    split
    · unfold Entry.scanMark
      split
      · next q age hlocal =>
        rw [hlocal] at hplace
        exact ⟨rfl, rfl, hbucket, hgroup, hmoves, hplace, nofun⟩
      all_goals exact ⟨rfl, rfl, hgood⟩
    · exact ⟨rfl, rfl, hgood⟩

end AddressTable.Sound

/-! ### Marks -/

@[simp] theorem Entry.setMark_tenant (e : Entry) (m : Mark) : (e.setMark m).tenant = e.tenant := by
  unfold Entry.setMark
  split <;> rfl

@[simp] theorem Entry.setMark_addr (e : Entry) (m : Mark) : (e.setMark m).addr = e.addr := by
  unfold Entry.setMark
  split <;> rfl

@[simp] theorem Entry.setMark_moves (e : Entry) (m : Mark) : (e.setMark m).moves = e.moves := by
  unfold Entry.setMark
  split <;> rfl

theorem Entry.setMark_inRange {e : Entry} {st : Nat} (h : e.place.inRange st = true) (m : Mark) :
    (e.setMark m).place.inRange st = true := by
  unfold Entry.setMark
  split
  · next hp => rwa [hp] at h
  · rfl
  · exact h

theorem Entry.setMark_mark (e : Entry) (m : Mark) : (e.setMark m).mark = m ∨ (e.setMark m).mark = .clear := by
  unfold Entry.setMark
  split
  · exact .inl rfl
  · exact .inl rfl
  · next hp => exact .inr (by simp only [Entry.mark, hp])

/-- Another mark makes a good entry good for a frame outstanding or not, as the mark asks. -/
theorem Entry.GoodAt.setMark {st i : Nat} {b c : Bool} {e : Entry} (h : e.GoodAt st b i) {m : Mark}
    (hm : m = .inFrame → c = true) : (e.setMark m).GoodAt st c i := by
  obtain ⟨hbucket, hgroup, hmoves, hplace, -⟩ := h
  refine ⟨by simpa using hbucket, by simpa using hgroup, by simpa using hmoves, Entry.setMark_inRange hplace m, fun hmark => ?_⟩
  obtain heq | heq := e.setMark_mark m
  · exact hm (heq ▸ hmark)
  · rw [heq] at hmark
    cases hmark

theorem Entry.GoodAt.other {st i : Nat} {b c : Bool} {e : Entry} (h : e.GoodAt st b i) (hm : e.mark = .inFrame → c = true) :
    e.GoodAt st c i := by
  obtain ⟨hbucket, hgroup, hmoves, hplace, -⟩ := h
  exact ⟨hbucket, hgroup, hmoves, hplace, hm⟩

namespace AddressTable.Sound

variable {st : Nat} {x : AddressTable}

theorem sent (h : x.Sound st) : x.sent.Sound st := by
  refine h.filterMap _ rfl fun {i e f} hgood hf => ?_
  split at hf
  · split at hf
    · cases hf
    · cases hf
      exact ⟨e.setMark_tenant _, e.setMark_addr _, hgood.setMark nofun⟩
  · next hmark =>
    cases hf
    exact ⟨rfl, rfl, hgood.other fun hm => absurd hm hmark⟩

theorem discarded (h : x.Sound st) : x.discarded.Sound st := by
  refine h.filterMap _ rfl fun {i e f} hgood hf => ?_
  cases hf
  split
  · exact ⟨e.setMark_tenant _, e.setMark_addr _, hgood.setMark nofun⟩
  · next hmark => exact ⟨rfl, rfl, hgood.other fun hm => absurd hm hmark⟩

theorem mem_taken {e : Nat × Entry} (h : e ∈ x.taken) : e ∈ x.ways := by
  have he := List.mem_of_mem_filter (List.mem_of_mem_take h)
  obtain he | he := List.mem_append.1 he
  · exact List.mem_of_mem_filter he
  · exact List.mem_of_mem_filter he

/-- Marking listed ways one after another keeps the table sound, while a frame is outstanding. -/
theorem markAll (h : x.Sound st) (hout : x.outstanding = true) {es : Tab Entry}
    (hes : ∀ e ∈ es, ∃ f, Tab.find? x.ways e.1 = some f ∧ f.tenant = e.2.tenant ∧ f.addr = e.2.addr ∧
      e.2.GoodAt st true e.1) :
    ({ x with ways := es.foldl (fun t e => Tab.put t e.1 (e.2.setMark .inFrame)) x.ways } : AddressTable).Sound st := by
  induction es generalizing x with
  | nil => exact h
  | cons e es ih =>
    obtain ⟨f, hf, hft, hfa, hgood⟩ := hes e (List.mem_cons_self ..)
    obtain ⟨-, -, hmoves, hplace, -⟩ := hgood.setMark (m := .inFrame) (c := true) fun _ => rfl
    have hput := h.rewrite (f := e.2.setMark .inFrame) hf (by simp [hft]) (by simp [hfa]) hmoves hplace fun _ => hout
    refine ih hput hout fun g hg => ?_
    obtain ⟨f', hf', hft', hfa', hgood'⟩ := hes g (List.mem_cons_of_mem _ hg)
    by_cases hway : g.1 = e.1
    · refine ⟨e.2.setMark .inFrame, ?_, ?_, ?_, hgood'⟩
      · rw [AddressTable.setWay, hway, Tab.find?_put_same]
      all_goals
        rw [hway, hf] at hf'
        cases hf'
        simp [← hft, ← hfa, hft', hfa']
    · exact ⟨f', (Tab.find?_put_ne _ _ hway).trans hf', hft', hfa', hgood'⟩

theorem buildContent (h : x.Sound st) {ms : List AddressEntry} {y : AddressTable} (hy : x.buildContent = some (ms, y)) :
    y.Sound st := by
  unfold AddressTable.buildContent at hy
  split at hy
  · cases hy
  · split at hy
    · cases hy
    · cases hy
      have hmarked : ({ x with outstanding := true } : AddressTable).Sound st :=
        ⟨h.wf, fun he => (h.good he).other fun _ => rfl, h.unique⟩
      have hall := hmarked.markAll rfl (es := x.taken) fun e he => by
        have hfound := Tab.find?_of_mem h.wf (mem_taken he)
        exact ⟨e.2, hfound, rfl, rfl, hmarked.good hfound⟩
      exact ⟨hall.wf, hall.good, hall.unique⟩

end AddressTable.Sound

/-! ## Every step -/

theorem readAddressEntries_moves {ws : List Word} {m : AddressEntry} (h : m ∈ readAddressEntries ws) : m.moves ≤ 15 := by
  induction ws using readAddressEntries.induct with
  | case1 w0 w1 w2 w3 ws ih =>
    rw [readAddressEntries] at h
    obtain rfl | h := List.mem_cons.1 h
    · exact Nat.le_of_lt_succ (Nat.mod_lt _ (by decide))
    · exact ih h
  | case2 ws hshort =>
    rw [readAddressEntries] at h
    · cases h
    · exact hshort

theorem State.mem_offerNotice {s : State} {n m : Notice} (h : m ∈ (s.offerNotice n).xc.notices) : m ∈ s.xc.notices ∨ m = n := by
  have hlost : m ∈ s.xc.notices.dropLast ++ [n] → m ∈ s.xc.notices ∨ m = n := fun hm =>
    (List.mem_append.1 hm).imp (fun hm => List.dropLast_subset _ hm) List.mem_singleton.1
  unfold State.offerNotice at h
  split at h
  · exact (List.mem_append.1 h).imp_right List.mem_singleton.1
  · dsimp only at h
    split at h
    · exact hlost h
    · rw [CrosslineController.eq_of_quiet (State.queueLevel_quiet _)] at h
      exact hlost h

theorem State.accepts_address {s : State} {sender dest : Nat} (h : s.accepts .address sender dest = true) : sender ≤ 3 := by
  simp only [State.accepts, Bool.and_eq_true, decide_eq_true_eq] at h
  exact h.2.1

namespace State

variable {s : State}

theorem AddressesSound.table (h : s.AddressesSound) : s.tab.Sound s.il.station := (s.addressesSound_iff.1 h).1

/-- The table, the station number and the notices are all that the soundness of the addresses rests on. -/
theorem AddressesSound.of_table {z : State} (h : s.AddressesSound) (htab : z.tab.Sound z.il.station)
    (hxc : z.xc.notices = s.xc.notices) : z.AddressesSound := by
  refine z.addressesSound_iff.2 ⟨htab, ?_⟩
  rw [hxc]
  exact (s.addressesSound_iff.1 h).2

theorem AddressesSound.same {z : State} (h : s.AddressesSound) (htab : z.tab = s.tab) (hil : z.il = s.il)
    (hxc : z.xc.notices = s.xc.notices) : z.AddressesSound :=
  h.of_table (by rw [htab, hil]; exact h.table) hxc

/-- What touches the Crossline Controller in its transmit queues only. -/
theorem AddressesSound.quietly {z : State} (h : s.AddressesSound) (htab : z.tab.Sound s.il.station) (hil : z.il = s.il)
    (hquiet : z.xc.quiet = s.xc.quiet) : z.AddressesSound :=
  h.of_table (by rwa [hil]) (by rw [CrosslineController.eq_of_quiet hquiet])

theorem AddressesSound.like {z : State} (h : s.AddressesSound) (htab : z.tab = s.tab) (hil : z.il = s.il)
    (hquiet : z.xc.quiet = s.xc.quiet) : z.AddressesSound := h.quietly (by rw [htab]; exact h.table) hil hquiet

theorem askAddress_notices (s : State) : s.askAddress.xc.notices = s.xc.notices := by
  unfold State.askAddress
  split <;> rfl

theorem takeFrame_notices (s : State) : s.takeFrame.xc.notices = s.xc.notices := by
  unfold State.takeFrame
  split
  · rfl
  · split
    · split <;> rfl
    · split
      · rfl
      · split
        · rfl
        · split
          · exact s.askAddress_notices
          · rfl

theorem askAddress_table (h : s.tab.Sound s.il.station) : s.askAddress.tab.Sound s.il.station := by
  unfold State.askAddress
  split
  · next hbuilt => exact h.buildContent hbuilt
  · exact h

theorem takeFrame_table (h : s.tab.Sound s.il.station) : s.takeFrame.tab.Sound s.il.station := by
  unfold State.takeFrame
  split
  · exact h
  · split
    · split <;> exact h
    · split
      · exact h
      · split
        · exact h
        · split
          · exact askAddress_table h
          · exact h

theorem AddressesSound.takeFrame (h : s.AddressesSound) : s.takeFrame.AddressesSound :=
  h.of_table (by simpa using takeFrame_table h.table) s.takeFrame_notices

theorem AddressesSound.ownerSent (h : s.AddressesSound) (x : Hand) : (s.ownerSent x).AddressesSound := by
  unfold State.ownerSent
  split
  · exact h.of_table h.table.sent rfl
  · split
    · split <;> exact h
    · exact h
  all_goals exact h

theorem AddressesSound.discardHand (h : s.AddressesSound) : s.discardHand.AddressesSound := by
  unfold State.discardHand State.ownerDiscarded
  split
  · split
    · exact h.of_table h.table.discarded rfl
    all_goals exact h
  · exact h

theorem lineClosed_addressesSound : State.LineClosed State.AddressesSound where
  receiver := fun {s x} hheld h => by
    simp only [CrosslineController.held, Prod.mk.injEq] at hheld
    obtain ⟨-, -, -, -, hnotices⟩ := hheld
    exact h.same rfl rfl hnotices
  notice := fun {s n} haccepts h => by
    obtain ⟨htable, hnotices⟩ := s.addressesSound_iff.1 h
    refine (State.addressesSound_iff _).2 ⟨by simpa using htable, fun m hm hkind => ?_⟩
    obtain hm | rfl := State.mem_offerNotice hm
    · exact hnotices m hm hkind
    · exact State.accepts_address (hkind ▸ haccepts)
  discard := AddressesSound.discardHand
  retry := fun _ _ h => h
  sent := fun x h => (h.ownerSent x).same rfl rfl rfl
  built := fun _ h => h
  take := AddressesSound.takeFrame

theorem AddressesSound.removeNotice (h : s.AddressesSound) : s.removeNotice.AddressesSound := by
  obtain ⟨htable, hnotices⟩ := s.addressesSound_iff.1 h
  exact (State.addressesSound_iff _).2 ⟨htable, fun n hn => hnotices n (List.mem_of_mem_tail hn)⟩

theorem AddressesSound.process (h : s.AddressesSound) (p : Notice → Bool) {act : State → Notice → State}
    (hact : ∀ {z : State} n, z.AddressesSound → (act z n).AddressesSound) : (s.process p act).AddressesSound :=
  State.process_keeps h (fun _ _ _ => h.removeNotice) (fun n _ _ _ hz => hact n hz) (fun _ hz => hz.takeFrame)

/-! ### The operations that reach the table -/

theorem AddressesSound.faultReports (h : s.AddressesSound) (p : Nat) : (s.faultReports p).AddressesSound := by
  unfold State.faultReports
  split
  · exact h.quietly (by simpa using h.table.retirePort p) (by simp) (by simp)
  · exact h.like (by simp) (by simp) (by simp)
  · exact h.like (by simp) (by simp) (by simp)

theorem AddressesSound.linkFault (h : s.AddressesSound) (p : Nat) : (s.linkFault p).AddressesSound := by
  refine AddressesSound.faultReports ?_ p
  exact h.like (by simp) (by simp) (by simp)

theorem AddressesSound.judged (h : s.AddressesSound) (p : Nat) (bad : Bool) : (s.judged p bad).AddressesSound := by
  unfold State.judged
  dsimp only
  split
  · split
    · exact h.like (by simp) (by simp) (by simp)
    · exact h
  · split
    · exact h
    · split
      · exact h.like (by simp) (by simp) (by simp)
      · exact h
  · split
    · exact h.like (by simp) (by simp) (by simp)
    · exact h
  · split
    · exact h.linkFault p
    · exact h.like (by simp) (by simp) (by simp)
  · exact h

theorem AddressesSound.takeWindowEnd (h : s.AddressesSound) (p : Nat) : (s.takeWindowEnd p).AddressesSound := by
  unfold State.takeWindowEnd State.judgeWindow
  split
  · exact AddressesSound.judged (by exact h) p _
  · split
    · exact AddressesSound.judged (by exact h) p _
    · exact h

theorem AddressesSound.signalGone (h : s.AddressesSound) (p : Nat) : (s.signalGone p).AddressesSound := by
  unfold State.signalGone
  dsimp only
  split
  · split
    · exact h
    · exact h
    · exact h.like (by simp) (by simp) (by simp)
    · exact AddressesSound.linkFault (by exact h) p
    · exact AddressesSound.linkFault (by exact h) p
  · exact h

/-- A frame is learned from after its source has been checked for a group address. -/
theorem AddressesSound.checkFrame (h : s.AddressesSound) (p : Nat) (bytes : List Byte) : (s.checkFrame p bytes).AddressesSound := by
  unfold State.checkFrame State.receivePlain
  split
  · exact h.like (by simp) (by simp) (by simp)
  · split
    · exact h
    · next hgood =>
      have hsource : isGroup (addrAt bytes 6) = false := by
        simp only [frameBad, Bool.or_eq_true, not_or, Bool.not_eq_true] at hgood
        exact hgood.2
      split
      · exact h.like (by simp) (by simp) (by simp)
      · unfold State.classify
        split
        · exact h
        · dsimp only
          split
          · next hp => exact h.of_table (h.table.learn _ hsource hp) rfl
          · exact h

theorem AddressesSound.receiveFrame (h : s.AddressesSound) (p : Nat) (f : ReceivedFrame) : (s.receiveFrame p f).AddressesSound := by
  have hchecked := AddressesSound.checkFrame (s := s.setIntake p { s.intake p with reception := .idle }) h p f.bytes
  unfold State.receiveFrame
  dsimp only
  split
  · exact hchecked
  · exact h
  · split
    · exact hchecked
    · exact h
  · exact h

/-- The scan's position and its pacing are no part of the soundness of a table. -/
theorem AddressesSound.withScan {x : AddressTable} (h : s.AddressesSound) (hways : x.ways = s.tab.ways)
    (hout : x.outstanding = s.tab.outstanding) : x.Sound s.il.station := by
  obtain ⟨hwf, hgood, hunique⟩ := h.table
  refine ⟨hways ▸ hwf, ?_, ?_⟩
  · rw [hways, hout]
    exact hgood
  · rw [hways]
    exact hunique

theorem AddressesSound.levelFrom (h : s.AddressesSound) (k : Nat) (ws : List Word) : (s.levelFrom k ws).AddressesSound := by
  unfold State.levelFrom State.storeLevel
  split
  · dsimp only
    split
    · exact h.quietly (h.withScan (by simp [AddressTable.requestScan]) (by simp [AddressTable.requestScan])) (by simp) (by simp)
    · exact h.like (by simp) (by simp) (by simp)
  · exact h

theorem AddressesSound.actGrant (h : s.AddressesSound) (n : Notice) : (s.actGrant n).AddressesSound := by
  unfold State.actGrant
  split
  · exact h.like (by simp) (by simp) (by simp)
  · exact h

theorem AddressesSound.statusFetch (h : s.AddressesSound) (c : Nat) : (s.statusFetch c).AddressesSound := by
  unfold State.statusFetch State.clearLatches
  split
  · exact h
  · refine h.of_table (by simpa using h.table) ?_
    simp [State.queueNormal]

theorem AddressesSound.peerAgeTick (h : s.AddressesSound) (k : Nat) : (s.peerAgeTick k).AddressesSound := by
  unfold State.peerAgeTick
  split
  · exact h.of_table (h.table.freePeer k) rfl
  all_goals exact h

theorem AddressesSound.reportAct (h : s.AddressesSound) (u : ReportUser) : (s.reportAct u).AddressesSound := by
  cases u with
  | egressScheduler | reliefController | pathUnit | peerView | levelBuilder | billingQueue =>
    exact h.like (by simp [State.reportAct]) (by simp) (by simp [State.reportAct])

theorem AddressesSound.ageAct (h : s.AddressesSound) (u : AgeUser) : (s.ageAct u).AddressesSound := by
  cases u with
  | addressTable => exact h.of_table (h.table.ageTick _) rfl
  | linkSupervisor => exact h.like (by simp [State.ageAct]) (by simp) (by simp [State.ageAct])
  | peerView =>
    exact State.each_induct State.AddressesSound _ _ (fun _ k _ hz => hz.peerAgeTick k) s h

theorem AddressesSound.reportTickIf (h : s.AddressesSound) (u : ReportUser) (named : Bool) :
    (s.reportTickIf u named).AddressesSound :=
  State.reportTickIf_keeps (fun _ _ hz => hz) (fun _ hz => hz.reportAct u) named h

theorem AddressesSound.fineTick (h : s.AddressesSound) : s.fineTick.AddressesSound := by
  have hticked : s.fineTick.tab = s.tab.fineTick := by
    simp [State.fineTick]
  refine h.quietly ?_ (by simp) (by simp)
  rw [hticked]
  unfold AddressTable.fineTick
  split
  · exact h.withScan rfl rfl
  · exact h.table

theorem AddressesSound.scanTick (h : s.AddressesSound) : s.scanTick.AddressesSound := by
  unfold State.scanTick
  split
  · have hpaced := h.withScan (x := { s.tab with scanDue := if s.tab.scan.isSome then s.tab.scanDue - 1 else 0 }) rfl rfl
    exact h.of_table hpaced.scanStep rfl
  · exact h

theorem AddressesSound.endLoad (h : s.AddressesSound) (b : List Byte) : (s.endLoad b).AddressesSound := by
  unfold State.endLoad
  split
  · split <;> exact h
  · exact h

theorem AddressesSound.after (h : s.AddressesSound) (c : Instr) : (s.after c).AddressesSound := by
  have hreset : ∀ straps signals, (s.resetWith straps signals).AddressesSound := fun _ _ => by
    simp [State.AddressesSound, State.resetWith, State.reset]
  have hline := lineClosed_addressesSound
  cases c with
  | reset straps signals => exact hreset straps signals
  | imageLoadEnd bytes => exact h.endLoad bytes
  | prescalerOutput | epochClose | signalPresent | lineCodeError | admission | copyTransmitted
  | holdFrameEnd | receivedHoldTimerExpiry | renewTimerExpiry | usageReport | refusalReport | lossReport | ratingStep
  | computationEnd | slotFreed | receptionBegins => exact h.like (by simp [State.after]) (by simp [State.after]) (by simp [State.after])
  | fineTick => exact h.fineTick
  | windowEnd p => exact (h.takeWindowEnd p).takeFrame
  | signalLost p => exact (h.signalGone p).takeFrame
  | frameReception p f => exact (h.receiveFrame p f).takeFrame
  | scanStep => exact (h.scanTick).takeFrame
  | changeEvent | shedRequest | returnRequest => exact (h.like (by simp) (by simp) (by simp)).takeFrame
  | reportTick u =>
    exact (State.reportTick_keeps (fun _ _ hz => hz) (fun _ hz => hz.reportAct u) h : AddressesSound _).takeFrame
  | ageTick u => exact (State.ageTick_keeps (fun _ _ hz => hz) (fun _ hz => hz.ageAct u) h : AddressesSound _).takeFrame
  | entryAgedOut w =>
    exact (State.entryAgedOut_keeps (fun _ _ hz => hz) (fun _ hz => hz.ageAct .addressTable) w h : AddressesSound _).takeFrame
  | heldLimitFlush | peerStale | showLimitLapse | requestTimeout | upgradeTimeout | exclusionExpiry =>
    exact (h.reportTickIf _ _).takeFrame
  | crosslineFrameReceived ws => exact (hline.hear h ws).takeFrame
  | frameAcquired gap => exact (hline.hear h _).takeFrame
  | frameStart gap w1 w2 c => exact (hline.tryStart h gap w1 w2 c).takeFrame
  | attemptFailed good w => exact (hline.lineBreaks h good w).takeFrame
  | frameSent => exact (hline.driveOut h).takeFrame
  | levelNotice => exact h.process _ fun n hz => hz.levelFrom _ _
  | grantNotice => exact h.process _ fun n hz => hz.actGrant n
  | statusFetch => exact h.process _ fun n hz => hz.statusFetch _
  | addressNotice =>
    refine State.process_keeps h (fun _ _ _ => h.removeNotice) (fun n rest hn hkind hz => ?_) (fun _ hz => hz.takeFrame)
    have hsender := (s.addressesSound_iff.1 h).2 n (hn ▸ List.mem_cons_self ..) (by simpa [Notice.isKind] using hkind)
    exact hz.of_table (hz.table.applyAll hsender fun m hm => readAddressEntries_moves hm) rfl
  | borrowNotice | withdrawNotice | returnNotice | billFetchPlain | billFetchRepeat =>
    exact h.process _ fun n hz => hz.like (by simp) (by simp) (by simp)

end State

/-- Settles O30. -/
theorem addressesSoundKept : Obligations.AddressesSoundKept := fun _ _ hs hstep =>
  step_keeps (P := State.AddressesSound) (fun _ _ h => h) (fun _ c h => h.after c) hs hstep

end Sys2Proof.Machine
end

section
/-! The configuration image (section 12.1): the ranges of the settings that any bytes give, the tariff fields, the checks of a
load, and the values after RESET. -/

namespace Sys2Proof.Machine

open Sys2Proof.Config

/-! ## Clamps -/

theorem byteAt_le (b : List Byte) (i : Nat) : byteAt b i ≤ 255 := Nat.le_of_lt_succ (b.getD i 0).isLt

theorem clampTo_bounds {lo hi : Nat} (h : lo ≤ hi) (v : Nat) : lo ≤ clampTo lo hi v ∧ clampTo lo hi v ≤ hi := by
  unfold clampTo; split
  · omega
  · split <;> omega

theorem readConstant_bounds {v : Nat} (h : v ≤ 255) : 1 ≤ readConstant v ∧ readConstant v ≤ 256 := by
  unfold readConstant; split <;> omega

theorem readGroupMethod_bounds (v : Nat) : 1 ≤ readGroupMethod v ∧ readGroupMethod v ≤ 8 := by
  unfold readGroupMethod; split <;> omega

theorem readHeldLimit_bounds (v : Nat) : 1 ≤ readHeldLimit v ∧ readHeldLimit v ≤ 256 := by
  unfold readHeldLimit; split <;> omega

theorem readQueueLimit_bounds (v : Nat) : 1 ≤ readQueueLimit v ∧ readQueueLimit v ≤ 24576 := by
  unfold readQueueLimit bufferCells; split <;> omega

theorem readPrescale_mem (v : Nat) : readPrescale v = 1 ∨ readPrescale v = 16 ∨ readPrescale v = 256 := by
  unfold readPrescale; split
  · assumption
  · exact .inr (.inr rfl)

theorem readReturnLevel_eq {shed v : Nat} (h1 : 1 ≤ shed) (h5 : shed ≤ 5) :
    readReturnLevel shed v = min (max 1 v) (shed - 1) := by
  unfold readReturnLevel clampTo; split_ifs <;> omega

theorem readWithdrawLevel_bounds {lend v : Nat} (h5 : lend ≤ 5) :
    lend ≤ readWithdrawLevel lend v ∧ readWithdrawLevel lend v ≤ 5 := by
  have := clampTo_bounds (show 1 ≤ 5 by decide) v
  unfold readWithdrawLevel; split <;> omega

theorem readHome_le {i : Nat} (hi : i ∈ paths) (v : Nat) : readHome i v ≤ 1 := by
  have hdefault : ∀ i ∈ paths, defaultHomes.getD i 0 ≤ 1 := by decide
  unfold readHome; split
  · assumption
  · exact hdefault i hi

theorem length_bytesAt (b : List Byte) (i n : Nat) : (bytesAt b i n).length = n := by simp [bytesAt]

theorem length_wordsAt (b : List Byte) (i n : Nat) : (wordsAt b i n).length = n := by simp [wordsAt]

/-! ## The stage marks (R86) -/

theorem readMark_gt (before v : Nat) : before < readMark before v := by unfold readMark; split <;> omega

theorem length_readMarks (before : Nat) (vs : List Nat) : (readMarks before vs).length = vs.length := by
  induction vs generalizing before with
  | nil => rfl
  | cons v vs ih => simp [readMarks, ih]

theorem readMarks_gt {before m : Nat} {vs : List Nat} (h : m ∈ readMarks before vs) : before < m := by
  induction vs generalizing before with
  | nil => exact absurd h List.not_mem_nil
  | cons v vs ih =>
    obtain rfl | htail := List.mem_cons.1 h
    · exact readMark_gt before v
    · exact (readMark_gt before v).trans (ih htail)

theorem readMarks_pairwise (before : Nat) (vs : List Nat) : (readMarks before vs).Pairwise (fun x y => x < y) := by
  induction vs generalizing before with
  | nil => exact .nil
  | cons v vs ih => exact .cons (fun _ h => readMarks_gt h) (ih _)

/-- A mark exceeds the buffer only by what the rise from mark to mark forces on it. -/
theorem getD_readMarks_le {before j : Nat} (h : before + 1 ≤ bufferCells + j) (vs : List Nat) (k : Nat) :
    (readMarks before vs).getD k 0 ≤ bufferCells + j + k := by
  induction vs generalizing before j k with
  | nil => simp [readMarks]
  | cons v vs ih =>
    have hmark : readMark before v ≤ bufferCells + j := by unfold readMark; split <;> omega
    cases k with
    | zero => exact hmark
    | succ k =>
      have := ih (before := readMark before v) (j := j + 1) (by omega) k
      simp only [readMarks, List.getD_cons_succ]
      omega

/-! ## The tenant map (R5) -/

theorem readMapEntry_range {b : List Byte} {i : Nat} {e : MapEntry} (h : readMapEntry b i = some e) :
    1 ≤ e.tenant ∧ e.tenant ≤ 255 ∧ e.tag ≤ 4094 ∧ ∀ p, e.scope = .access p → p < 16 := by
  have htenant := byteAt_le b (i + 3)
  unfold readMapEntry at h
  dsimp only at h
  split at h
  · next hrange =>
    obtain ⟨htag, hnonzero⟩ := hrange
    split at h
    · next hscope =>
      cases h
      exact ⟨Nat.pos_of_ne_zero hnonzero, htenant, htag, fun p hp => by cases hp; exact hscope⟩
    · split at h
      · cases h
        exact ⟨Nat.pos_of_ne_zero hnonzero, htenant, htag, fun p hp => by cases hp⟩
      · cases h
  · cases h

theorem keepFirst_sublist (es : List MapEntry) : (keepFirst es).Sublist es := by
  induction es with
  | nil => exact .slnil
  | cons e es ih => exact (List.filter_sublist.trans ih).cons_cons e

/-- The first entry of a key is kept and no other. -/
theorem keepFirst_keys_nodup (es : List MapEntry) : ((keepFirst es).map (fun e => (e.scope, e.tag))).Nodup := by
  induction es with
  | nil => exact .nil
  | cons e es ih =>
    refine List.nodup_cons.2 ⟨fun hmem => ?_, ih.sublist (List.filter_sublist.map _)⟩
    obtain ⟨f, hf, hkey⟩ := List.mem_map.1 hmem
    obtain ⟨-, hother⟩ := List.mem_filter.1 hf
    simp only [Prod.mk.injEq] at hkey
    simp [hkey] at hother

theorem mem_readTenantMap {b : List Byte} {e : MapEntry} (h : e ∈ readTenantMap b) :
    1 ≤ e.tenant ∧ e.tenant ≤ 255 ∧ e.tag ≤ 4094 ∧ ∀ p, e.scope = .access p → p < 16 := by
  obtain ⟨o, ho, rfl⟩ := List.mem_filterMap.1 ((keepFirst_sublist _).subset h)
  obtain ⟨i, -, hi⟩ := List.mem_map.1 ho
  exact readMapEntry_range hi

theorem length_readTenantMap (b : List Byte) : (readTenantMap b).length ≤ 1024 :=
  calc (readTenantMap b).length ≤ ((mapEntries b).filterMap id).length := (keepFirst_sublist _).length_le
    _ ≤ (mapEntries b).length := List.length_filterMap_le ..
    _ ≤ 1024 := by simp [mapEntries]

/-! ## Tariffs (R140) -/

/-- The number that decimal digits spell. -/
theorem foldl_digits_lt {ds : List Nat} (h : ∀ d ∈ ds, d ≤ 9) (v : Nat) :
    ds.foldl (fun v d => v * 10 + d) v < (v + 1) * 10 ^ ds.length := by
  induction ds generalizing v with
  | nil => simp
  | cons d ds ih =>
    have hd : d ≤ 9 := h d List.mem_cons_self
    calc ds.foldl (fun v d => v * 10 + d) (v * 10 + d)
        < (v * 10 + d + 1) * 10 ^ ds.length := ih (fun x hx => h x (List.mem_cons_of_mem d hx)) _
      _ ≤ ((v + 1) * 10) * 10 ^ ds.length := Nat.mul_le_mul_right _ (by omega)
      _ = (v + 1) * 10 ^ (ds.length + 1) := by rw [Nat.mul_assoc, ← Nat.pow_succ']

theorem decodeTariff_le {ns : List Nat} {v : Nat} (h : decodeTariff ns = some v) : v ≤ 999999999999 := by
  unfold decodeTariff at h
  dsimp only at h
  split at h
  · cases h
  · next hdigits =>
    split_ifs at h
    cases h
    have hle : ∀ d ∈ (ns.drop 1).take 12, d ≤ 9 := fun d hd => by
      refine Nat.le_of_not_lt fun hgt => hdigits (List.any_eq_true.2 ⟨d, hd, decide_eq_true hgt⟩)
    have hlen : ((ns.drop 1).take 12).length ≤ 12 := List.length_take_le ..
    have hpow : 10 ^ ((ns.drop 1).take 12).length ≤ 10 ^ 12 := Nat.pow_le_pow_right (by decide) hlen
    have := foldl_digits_lt hle 0
    omega

/-- A field of a pad, twelve digits and a sign is read digit by digit. -/
theorem decodeTariff_eq (pad sign : Nat) {ds : List Nat} (hlen : ds.length = 12) :
    decodeTariff (pad :: ds ++ [sign]) =
      if ds.any (fun d => decide (9 < d)) then none else if pad ≠ 0 then none else if sign ≤ 9 then none
      else if isMinus sign && ds.any (fun d => d != 0) then none else some (ds.foldl (fun v d => v * 10 + d) 0) := by
  have hdigits : ((pad :: ds ++ [sign]).drop 1).take 12 = ds := by simp [hlen]
  have hsign : (pad :: ds ++ [sign]).getD 13 0 = sign := by simp [List.getD_eq_getElem?_getD, hlen]
  unfold decodeTariff
  rw [hdigits, hsign]
  rfl

/-- The n lowest decimal digits of a number, the highest first. -/
def lowDigits (n v : Nat) : List Nat := (List.range n).map (fun i => v / 10 ^ (n - 1 - i) % 10)

theorem foldl_lowDigits (n v : Nat) : (lowDigits n v).foldl (fun v d => v * 10 + d) 0 = v % 10 ^ n := by
  induction n generalizing v with
  | zero => simp [lowDigits, Nat.mod_one]
  | succ n ih =>
    have hsplit : lowDigits (n + 1) v = lowDigits n (v / 10) ++ [v % 10] := by
      simp only [lowDigits, List.range_succ, List.map_append, List.map_cons, List.map_nil]
      congr 1
      · refine List.map_congr_left fun i hi => ?_
        have hi := List.mem_range.1 hi
        rw [Nat.div_div_eq_div_mul, ← Nat.pow_succ', show n + 1 - 1 - i = n - 1 - i + 1 by omega]
      · simp
    rw [hsplit, List.foldl_append, ih, Nat.pow_succ', Nat.mod_mul]
    simp only [List.foldl_cons, List.foldl_nil]
    omega

/-- Settles O6. -/
theorem tariffDecodes : Obligations.TariffDecodes := by
  refine ⟨fun v hv sign hsign => ?_, by decide, fun pad sign ds hlen hbad => ?_⟩
  · have hsmall : (lowDigits 12 v).any (fun d => decide (9 < d)) = false := by
      simp only [lowDigits, List.any_eq_false, List.mem_map]
      rintro _ ⟨i, -, rfl⟩
      have := Nat.mod_lt (v / 10 ^ (11 - i)) (show 0 < 10 by decide)
      simp only [decide_eq_true_eq]
      omega
    have hplus : isMinus sign = false ∧ ¬sign ≤ 9 := by
      fin_cases hsign <;> decide
    change decodeTariff (0 :: lowDigits 12 v ++ [sign]) = some v
    rw [decodeTariff_eq 0 sign (by simp [lowDigits]), hsmall, foldl_lowDigits, Nat.mod_eq_of_lt (show v < 10 ^ 12 from hv)]
    simp [hplus]
  · rw [decodeTariff_eq pad sign hlen]
    by_cases hdigits : ds.any (fun d => decide (9 < d)) = true
    · exact if_pos hdigits
    · rw [if_neg hdigits]
      obtain hpad | ⟨d, hd, hgt⟩ | hnosign | ⟨hminus, d, hd, hnonzero⟩ := hbad
      · exact if_pos hpad
      · exact absurd (List.any_eq_true.2 ⟨d, hd, decide_eq_true hgt⟩) hdigits
      · simp [hnosign]
      · have hany : ds.any (fun d => d != 0) = true := List.any_eq_true.2 ⟨d, hd, by simpa using hnonzero⟩
        have hisMinus : isMinus sign = true := by obtain rfl | rfl := hminus <;> rfl
        simp [hany, hisMinus]

/-! ## The tenant table (R162) -/

/-- What an entry of the tenant table satisfies, under a group default method. -/
def tenantInRange (group : Nat) (x : TenantSettings) : Prop :=
  x.share ≤ 24576 ∧ x.methodCode ≤ 15 ∧
    x.method = (if 1 ≤ x.methodCode ∧ x.methodCode ≤ 8 then x.methodCode else group) ∧
    ∀ rate ∈ [x.rc, x.re, x.rd], rate ≤ 999999999999

theorem readTenant_inRange (b : List Byte) (group i : Nat) : tenantInRange group (readTenant b group i) := by
  have hcode : byteAt b (i + 24) % 16 ≤ 15 := by omega
  have hshare : min (be16 b (i + 1)) bufferCells ≤ 24576 := Nat.min_le_right ..
  unfold readTenant
  dsimp only
  split
  · next hc he hd =>
    refine ⟨hshare, hcode, rfl, fun rate hrate => ?_⟩
    simp only [List.mem_cons, List.not_mem_nil, or_false] at hrate
    obtain rfl | rfl | rfl := hrate
    · exact decodeTariff_le hc
    · exact decodeTariff_le he
    · exact decodeTariff_le hd
  · refine ⟨hshare, hcode, rfl, fun rate hrate => ?_⟩
    simp only [List.mem_cons, List.not_mem_nil, or_false, or_self] at hrate
    omega

theorem mem_takeTenant {b : List Byte} {group i : Nat} {acc : Tab TenantSettings × Nat} {e : Nat × TenantSettings}
    (h : e ∈ (takeTenant b group acc i).1) :
    e ∈ acc.1 ∨ (1 ≤ e.1 ∧ e.1 ≤ 255 ∧ e.2 = readTenant b group i) := by
  have hbyte := byteAt_le b i
  unfold takeTenant at h
  dsimp only at h
  split at h
  · exact .inl h
  · split at h
    · exact .inl h
    · obtain rfl | hold := Tab.mem_put h
      · exact .inr ⟨by omega, hbyte, rfl⟩
      · exact .inl hold

theorem mem_readTenants {b : List Byte} {group : Nat} {e : Nat × TenantSettings} (h : e ∈ (readTenants b group).1) :
    1 ≤ e.1 ∧ e.1 ≤ 255 ∧ tenantInRange group e.2 := by
  have hfold : ∀ (is : List Nat) (acc : Tab TenantSettings × Nat),
      (∀ e ∈ acc.1, 1 ≤ e.1 ∧ e.1 ≤ 255 ∧ tenantInRange group e.2) →
      ∀ e ∈ (is.foldl (takeTenant b group) acc).1, 1 ≤ e.1 ∧ e.1 ≤ 255 ∧ tenantInRange group e.2 := by
    intro is
    induction is with
    | nil => exact fun _ hacc => hacc
    | cons i is ih =>
      intro acc hacc
      refine ih _ fun e he => ?_
      obtain hold | ⟨h1, h255, hnew⟩ := mem_takeTenant he
      · exact hacc e hold
      · exact ⟨h1, h255, hnew ▸ readTenant_inRange b group i⟩
  exact hfold _ _ (fun e he => absurd he List.not_mem_nil) e h

/-- Settles O5. -/
theorem settingsInRange : Obligations.SettingsInRange := by
  intro b
  have hshed := clampTo_bounds (show 1 ≤ 5 by decide) (byteAt b 29)
  have hlend := clampTo_bounds (show 1 ≤ 5 by decide) (byteAt b 31)
  have hmarks := length_readMarks 0 (wordsAt b 51 5)
  rw [length_wordsAt] at hmarks
  have hholdMark := clampTo_bounds (show 1 ≤ bufferCells by decide) (be16 b 61)
  refine ⟨readGroupMethod_bounds _, readPrescale_mem _, readConstant_bounds (byteAt_le ..), readConstant_bounds (byteAt_le ..),
    readConstant_bounds (byteAt_le ..), ⟨by simp [readSettings, length_bytesAt], fun x hx => ?classMap⟩, fun x hx => ?stages,
    clampTo_bounds (by decide) _, clampTo_bounds (by decide) _, clampTo_bounds (by decide) _, readHeldLimit_bounds _,
    clampTo_bounds (by decide) _, clampTo_bounds (by decide) _, clampTo_bounds (by decide) _,
    ⟨hshed.1, hshed.2, readReturnLevel_eq hshed.1 hshed.2⟩, ⟨hlend.1, readWithdrawLevel_bounds hlend.2⟩,
    ⟨by simp [readSettings, paths], fun h hh => ?homes⟩, clampTo_bounds (by decide) _,
    ⟨hmarks, readMarks_pairwise .., fun x hx => readMarks_gt hx, fun k _ => getD_readMarks_le (j := 0) (by decide) _ k⟩,
    fun x hx => ?hysteresis, ⟨Nat.min_le_right .., hholdMark⟩, Nat.min_le_right ..,
    ⟨by simp [readSettings, length_wordsAt], fun x hx => ?queueLimits⟩,
    ⟨length_readTenantMap b, keepFirst_keys_nodup _, fun e he => mem_readTenantMap he⟩, fun e he => mem_readTenants he⟩
  case classMap =>
    obtain ⟨v, -, rfl⟩ := List.mem_map.1 hx
    exact Nat.min_le_right ..
  case stages =>
    simp only [List.mem_cons, List.not_mem_nil, or_false] at hx
    obtain rfl | rfl | rfl := hx <;> exact clampTo_bounds (by decide) _
  case homes =>
    obtain ⟨i, hi, rfl⟩ := List.mem_map.1 hh
    exact readHome_le hi _
  case hysteresis =>
    have hhead : (readMarks 0 (wordsAt b 51 5)).getD 0 1 = x := by
      rw [List.getD_eq_getElem?_getD, ← List.head?_eq_getElem?]
      exact congrArg (·.getD 1) hx
    exact hhead ▸ Nat.min_le_right ..
  case queueLimits =>
    obtain ⟨v, -, rfl⟩ := List.mem_map.1 hx
    exact readQueueLimit_bounds v

/-! ## The end of a load -/

/-- Settles O4. -/
theorem imageLoadEnds : Obligations.ImageLoadEnds := by
  intro s b hloading n absent wrongWord wrongLength wrongSections wrongCheck unconfigured
  have hend : ∀ r, imageReason b = r → exec (.imageLoadEnd b) s = .next (match r with
      | .none => s.accept b
      | .noImage => unconfigured .noImage
      | .format => unconfigured .format
      | .checkFail => unconfigured .checkFail) := by
    intro r hr
    rw [exec_eq_next, State.after, State.endLoad, if_pos hloading, hr]
    cases r <;> rfl
  refine ⟨fun h => hend .noImage ?_, fun hpresent h => hend .format ?_, fun hpresent hw hl hs hc => hend .checkFail ?_,
    fun hpresent hw hl hs hc => ⟨s.accept b, hend .none ?_, rfl, rfl, rfl, rfl, rfl⟩⟩
  · exact if_pos h
  · unfold imageReason
    rw [if_neg hpresent]
    obtain h | h | h := h
    · exact if_pos h
    · split_ifs <;> rfl
    · split_ifs <;> rfl
  · unfold imageReason imageCrcOk
    rw [if_neg hpresent, if_neg hw, if_neg hl, if_neg hs, if_neg (by simpa using hc)]
  · unfold imageReason imageCrcOk
    rw [if_neg hpresent, if_neg hw, if_neg hl, if_neg hs, if_pos (by simpa using Decidable.not_not.1 hc)]

/-! ## RESET -/

/-- After RESET each port's signal is what its receiver reports. -/
theorem State.link_resetWith (s : State) (straps : Nat) (signals : BitVec 21) {p : Nat} (hp : p ∈ allPorts) :
    (s.resetWith straps signals).link p = { PortLink.reset with signal := signals.getLsbD p } := by
  change Tab.read PortLink.reset (signalPorts signals) p = _
  rw [signalPorts, Tab.read, Tab.find?_map]
  by_cases hsignal : signals.getLsbD p = true
  · simp [hp, hsignal]
  · simp only [Bool.not_eq_true] at hsignal
    simp [hsignal, PortLink.reset]

/-- The settings after reset are what bytes of zero read as, but for the homes. -/
theorem settings_reset :
    Settings.reset = { readSettings (List.replicate 99 0) with homes := [0, 0, 0, 0, 1, 1, 1, 1] } := by
  decide +kernel

/-- Settles O3. -/
theorem resetLeaves : Obligations.ResetLeaves := by
  intro straps signals s
  refine ⟨s.resetWith straps signals, exec_eq_next .., rfl, rfl, ⟨settings_reset, rfl, rfl, fun _ _ => rfl⟩, rfl, rfl,
    fun p hp => ⟨State.link_resetWith s straps signals hp, rfl, rfl, rfl, fun _ _ => ⟨rfl, rfl⟩⟩, rfl, rfl,
    fun _ _ => ⟨rfl, rfl⟩, rfl, rfl, fun _ _ => rfl, rfl, rfl, rfl, fun _ _ => ⟨rfl, rfl, rfl⟩, rfl,
    fun _ _ => ⟨rfl, rfl⟩, rfl, rfl, rfl, rfl, rfl⟩

end Sys2Proof.Machine
end

section
/-! States field by field, and the commands that find what they name: how a statement about one command begins. -/

namespace Sys2Proof.Machine

open Sys2Proof.Config

/-- Two states are the same when every field is; `simp` with the frames of the operations decides it. -/
theorem State.eq_iff {s t : State} : t = s ↔ t.il = s.il ∧ t.cfg = s.cfg ∧ t.tb = s.tb ∧ t.ls = s.ls ∧ t.iu = s.iu ∧
    t.tab = s.tab ∧ t.bm = s.bm ∧ t.es = s.es ∧ t.rc = s.rc ∧ t.pu = s.pu ∧ t.xc = s.xc ∧ t.pv = s.pv ∧ t.um = s.um ∧
    t.re = s.re ∧ t.bq = s.bq ∧ t.pending = s.pending := by
  cases s; cases t; simp only [State.mk.injEq]

/-! ## The message processor -/

/-- The state with its notices replaced. -/
def State.withNotices (s : State) (ns : List Notice) : State := { s with xc := { s.xc with notices := ns } }

theorem State.actsOn_of_configured {s : State} (h : s.il.state = .configured) (k : Kind) : s.actsOn k = true := by
  simp only [State.actsOn, h]

theorem State.actsOn_fetch {s : State} (h : s.il.state ≠ .loading) {k : Kind} (hk : k = .billFetch ∨ k = .statusFetch) :
    s.actsOn k = true := by
  unfold State.actsOn
  cases hs : s.il.state with
  | configured => rfl
  | loading => exact absurd hs h
  | unconfigured => obtain rfl | rfl := hk <;> rfl

/-- A command that names the oldest notice, where the image state says that it is acted on. -/
theorem State.process_of_front {s : State} {p : Notice → Bool} {act : State → Notice → State} {n : Notice} {rest : List Notice}
    (hn : s.xc.notices = n :: rest) (hp : p n = true) (hacts : s.actsOn n.kind = true) :
    s.process p act = (act (s.withNotices rest) n).takeFrame := by
  simp only [State.process, hn, hp, hacts, if_true, State.removeNotice, List.tail_cons, State.withNotices]

theorem Notice.isKind_of_eq {n : Notice} {k : Kind} (h : n.kind = k) : n.isKind k = true := by
  simp [Notice.isKind, h]

/-! ## Replies that wait (R112) -/

theorem State.replyWaits_iff (s : State) (k : Kind) (c : Nat) : s.replyWaits k c = true ↔
    (∃ m ∈ s.xc.normal, m.kind = k ∧ m.dest = c) ∨ ∃ h, s.xc.hand = some h ∧ h.msg.kind = k ∧ h.msg.dest = c := by
  unfold State.replyWaits
  rw [Bool.or_eq_true]
  refine or_congr (by simp) ?_
  cases s.xc.hand with
  | none => simp
  | some h => simp

/-- A message whose key does not wait goes to the tail. -/
theorem placeMsg_of_fresh {m : Msg} {ms : List Msg} (h : ∀ n ∈ ms, ¬(n.kind = m.kind ∧ n.dest = m.dest)) :
    placeMsg m ms = ms ++ [m] := by
  induction ms with
  | nil => rfl
  | cons n ns ih =>
    have hkey : n.sameKey m = false := by
      simpa [Msg.sameKey] using h n List.mem_cons_self
    simp only [placeMsg, hkey, Bool.false_eq_true, if_false, List.cons_append]
    rw [ih fun x hx => h x (List.mem_cons_of_mem n hx)]

theorem mem_placeMsg_self (m : Msg) (ms : List Msg) : m ∈ placeMsg m ms := by
  induction ms with
  | nil => exact List.mem_singleton.2 rfl
  | cons n ns ih =>
    unfold placeMsg
    split
    · exact List.mem_cons_self
    · exact List.mem_cons_of_mem n ih

end Sys2Proof.Machine
end

section
/-! The billing chain (Chapters 9 to 11): what the reports, the closes and the walk do, the queue of records with its numbers, the
fetches, and the ranges of all of them. -/

namespace Sys2Proof.Machine

open Sys2Proof.Config

/-! ## Reports (R129) -/

/-- Settles O50. -/
theorem reportsMetered : Obligations.ReportsMetered := by
  refine ⟨fun s r rest hr => ?usage, fun s n rest hn => ?refusal, fun s r rest hr => ?loss⟩
  case usage =>
    refine ⟨s.takeUsage, exec_eq_next .., ?_⟩
    simp only [State.takeUsage, hr]
    refine ⟨rfl, fun n hn => (State.active_setActive ..).trans (if_neg hn), (State.active_setActive ..).trans ?_⟩
    rw [if_pos rfl]
    cases hexcess : r.excess <;> simp [Usage.addUsage, satAdd_eq_min, saturates, count48, count32, State.active]
  case refusal =>
    refine ⟨s.takeRefusal, exec_eq_next .., ?_⟩
    simp only [State.takeRefusal, hn]
    refine ⟨rfl, fun m hm => (State.active_setActive ..).trans (if_neg hm), (State.active_setActive ..).trans ?_⟩
    simp [Usage.addRefusal, satAdd_eq_min, saturates, count32, State.active]
  case loss =>
    refine ⟨s.takeLoss, exec_eq_next .., ?_⟩
    simp only [State.takeLoss, hr]
    refine ⟨rfl, fun m hm => (State.active_setActive ..).trans (if_neg hm), (State.active_setActive ..).trans ?_⟩
    simp [Usage.addLoss, satAdd_eq_min, saturates, count48, State.active]
    rfl

/-! ## Closes (R130 to R132) -/

theorem State.closedSet_of_absent {s : State} {n : Nat} (hp : s.pendingSet n = none) :
    s.closedSet n = { usage := s.active n, first := s.um.epoch, last := s.um.epoch } := by
  simp only [State.closedSet, hp]

theorem State.closedSet_first (s : State) (n : Nat) :
    (s.closedSet n).first = ((s.pendingSet n).map PendingSet.first).getD s.um.epoch := by
  unfold State.closedSet; split <;> simp [*]

theorem State.closedSet_last (s : State) (n : Nat) : (s.closedSet n).last = s.um.epoch := by
  unfold State.closedSet; split <;> rfl

theorem State.isComputing_of_computing {s : State} {n : Nat} (h : s.re.state = .computing n) : s.isComputing = true := by
  simp only [State.isComputing, h]

/-- Settles O51. -/
theorem epochCloses : Obligations.EpochCloses := by
  intro s hdue tb
  have htake : s.takeEpoch = { s with tb := tb }.meterClose := if_pos hdue
  refine ⟨fun n hn => ?_, fun hidle => ⟨s.takeEpoch, exec_eq_next .., ?_⟩⟩
  · have hbusy : { s with tb := tb }.isComputing = true := State.isComputing_of_computing hn
    rw [exec_eq_next, State.after, htake, State.meterClose, if_pos hbusy]
  · rw [htake, State.meterClose_of_not_computing (s := { s with tb := tb }) hidle]
    refine ⟨rfl, rfl, rfl, fun n hn => ⟨rfl, fun habsent => ?_, fun p hp => ?_⟩⟩
    · exact (State.pendingSet_closeEpoch _ hn).trans (congrArg some (State.closedSet_of_absent habsent))
    · exact (State.pendingSet_closeEpoch _ hn).trans (congrArg some (State.closedSet_of_pending hp))

/-- What a run of closes leaves: the epoch moved on once for each, and every tenant's set as the first found it and the last closed
it. -/
theorem State.takeCloses_meter (s : State) (k : Nat) :
    (s.takeCloses k).um.heldCloses = s.um.heldCloses ∧ (s.takeCloses k).um.epoch = nextEpoch^[k] s.um.epoch := by
  induction k generalizing s with
  | zero => exact ⟨rfl, rfl⟩
  | succ k ih => exact ih s.closeEpoch

theorem State.takeCloses_sets (s : State) (k : Nat) :
    (s.takeCloses (k + 1)).re.state = .stepping 1 ∧ ∀ m ∈ tenants, (s.takeCloses (k + 1)).active m = Usage.zero ∧
      ∃ q, (s.takeCloses (k + 1)).pendingSet m = some q ∧ nextEpoch q.last = (s.takeCloses (k + 1)).um.epoch ∧
        q.first = ((s.pendingSet m).map PendingSet.first).getD s.um.epoch := by
  induction k generalizing s with
  | zero =>
    refine ⟨rfl, fun m hm => ⟨rfl, s.closedSet m, State.pendingSet_closeEpoch s hm, ?_, State.closedSet_first s m⟩⟩
    rw [State.closedSet_last]
    rfl
  | succ k ih =>
    obtain ⟨hstate, hsets⟩ := ih s.closeEpoch
    refine ⟨hstate, fun m hm => ?_⟩
    obtain ⟨hactive, q, hq, hlast, hfirst⟩ := hsets m hm
    refine ⟨hactive, q, hq, hlast, hfirst.trans ?_⟩
    rw [State.pendingSet_closeEpoch s hm, ← State.closedSet_first]
    rfl

/-! ## The walk (R134, R137) -/

theorem Usage.allZero_iff (u : Usage) : u.allZero = true ↔
    u.committed = 0 ∧ u.excess = 0 ∧ u.lost = 0 ∧ u.admitted = 0 ∧ u.refused = 0 := by
  simp [Usage.allZero, and_assoc]

section Stepping

variable {s : State} {n : Nat} (hn : s.re.state = .stepping n)
include hn

theorem State.ratingStep_of_absent (hp : s.pendingSet n = none) : s.ratingStep = s.advance n := by
  simp only [State.ratingStep, hn, hp]

theorem State.ratingStep_of_zero {p : PendingSet} (hp : s.pendingSet n = some p) (hz : p.usage.allZero = true) :
    s.ratingStep = (s.dropPending n).advance n := by
  simp only [State.ratingStep, hn, hp, hz, if_true]

theorem State.ratingStep_of_usage {p : PendingSet} (hp : s.pendingSet n = some p) (hz : p.usage.allZero = false) :
    s.ratingStep = s.setRate (if s.bq.records.length < 64 then .computing n else .waiting n) := by
  simp only [State.ratingStep, hn, hp, hz, Bool.false_eq_true, if_false, recordSlots]
  split <;> simp [*]

end Stepping

theorem State.slotFreed_of_waiting {s : State} {n : Nat} (hdue : 0 < s.bq.slotsFreed) (hn : s.re.state = .waiting n) :
    s.slotFreed =
      { s with bq := { s.bq with slotsFreed := s.bq.slotsFreed - 1 }, re := { state := .stepping n } }.ratingStep := by
  simp only [State.slotFreed, hdue, hn, if_true]
  rfl

theorem State.slotFreed_of_not_waiting {s : State} (hdue : 0 < s.bq.slotsFreed) (h : ∀ n, s.re.state ≠ .waiting n) :
    s.slotFreed = { s with bq := { s.bq with slotsFreed := s.bq.slotsFreed - 1 } } := by
  rw [State.slotFreed, if_pos hdue]
  cases hs : s.re.state with
  | waiting n => exact absurd hs (h n)
  | idle | stepping | computing => rfl

/-- Settles O53. -/
theorem ratingWalks : Obligations.RatingWalks := by
  refine ⟨fun s n hn => ⟨fun habsent => ?_, fun p hp => ⟨fun hzero => ?_, fun hused hroom => ?_, fun hused hfull => ?_⟩⟩,
    fun s hdue => ⟨fun n hn => ⟨?_, fun x hx hused hroom => ?_⟩, fun hother => ?_⟩⟩
  · rw [exec_eq_next, State.after, State.ratingStep_of_absent hn habsent]
    rfl
  · refine ⟨s.ratingStep, exec_eq_next .., ?_⟩
    rw [State.ratingStep_of_zero hn hp ((Usage.allZero_iff _).2 hzero)]
    exact ⟨rfl, (State.pendingSet_dropPending s n n).trans (if_pos rfl),
      fun m hm => (State.pendingSet_dropPending s n m).trans (if_neg hm)⟩
  · rw [exec_eq_next, State.after, State.ratingStep_of_usage hn hp (Bool.eq_false_iff.2 fun h => hused ((Usage.allZero_iff _).1 h)),
      if_pos hroom]
    rfl
  · rw [exec_eq_next, State.after, State.ratingStep_of_usage hn hp (Bool.eq_false_iff.2 fun h => hused ((Usage.allZero_iff _).1 h)),
      if_neg (Nat.not_lt.2 hfull)]
    rfl
  · rw [exec_eq_next, exec_eq_next, State.after, State.after, State.slotFreed_of_waiting hdue hn]
  · rw [exec_eq_next, State.after, State.slotFreed_of_waiting hdue hn, State.ratingStep_of_usage rfl (by exact hx) hused,
      if_pos hroom]
    rfl
  · rw [exec_eq_next, State.after, State.slotFreed_of_not_waiting hdue hother]

/-! ## The end of a computation (R132, R135) -/

/-- The state after a computation, before the closes that were held during it. -/
def State.recorded (s : State) (n : Nat) (p : PendingSet) : State :=
  ({ s with bq := s.bq.append (s.buildRecord n p) }.dropPending n).advance n

theorem State.computationEnd_eq {s : State} {n : Nat} {p : PendingSet} (hn : s.re.state = .computing n)
    (hp : s.pendingSet n = some p) : s.computationEnd = (s.recorded n p).takeHeldCloses := by
  simp only [State.computationEnd, hn, hp]
  rfl

theorem remainder_eq_zero_iff (x : Int) : remainder x = 0 ↔ (100000000000 : Int) ∣ x := by
  rw [show remainder x = x - x.tdiv 100000000000 * 100000000000 from rfl]
  have hdiv := Int.mul_tdiv_add_tmod x 100000000000
  rw [Int.dvd_iff_tmod_eq_zero]
  omega

/-- The sign and the magnitude of a record spell its charge, and the sign of a zero charge is plus. -/
theorem signed_natAbs (c : Int) :
    (if decide (c < 0) = true then -(c.natAbs : Int) else c.natAbs) = c ∧ (c.natAbs = 0 → decide (c < 0) = false) := by
  refine ⟨?_, fun h => decide_eq_false (by omega)⟩
  split
  · next hneg => have := of_decide_eq_true hneg; omega
  · next hpos => have := of_decide_eq_false (Bool.eq_false_iff.2 hpos); omega

/-- Settles O54. -/
theorem computationEnds : Obligations.ComputationEnds := by
  intro s n p hn hp x u sum
  have hend := State.computationEnd_eq hn hp
  have hother : ∀ m, (s.recorded n p).pendingSet m = if m = n then none else s.pendingSet m :=
    fun m => State.pendingSet_dropPending _ n m
  obtain ⟨hcharge, hplus⟩ := signed_natAbs (chargeOf p.usage (s.tenant n))
  refine ⟨s.computationEnd, { s.buildRecord n p with number := s.bq.next }, exec_eq_next .., ?frame, ?queue,
    ⟨rfl, rfl, rfl, rfl, rfl, rfl, rfl, rfl, rfl, rfl, rfl, rfl, rfl, ?merged, hcharge, hplus, ?inexact⟩, ?closes⟩
  case frame => exact State.eq_iff.2 (by simp)
  case queue =>
    rw [hend]
    simp only [State.takeHeldCloses_frame, State.recorded, State.advance_frame, State.dropPending_bq]
    rfl
  case merged => simp [State.buildRecord]
  case inexact =>
    have hmark : (s.buildRecord n p).inexact = inexactMark p.usage (s.tenant n) := rfl
    simp only [hmark, inexactMark, Bool.and_eq_true, Bool.not_eq_true', bne_iff_ne, ne_eq, remainder_eq_zero_iff, and_assoc]
    exact Iff.rfl
  case closes =>
    let z : State := { s.recorded n p with um := { (s.recorded n p).um with heldCloses := 0 } }
    have hclosed : s.computationEnd = z.takeCloses s.um.heldCloses := hend
    obtain ⟨hheld, hepoch⟩ := z.takeCloses_meter s.um.heldCloses
    rw [hclosed]
    refine ⟨hheld, hepoch, fun hnone => ?_, fun hsome => ?_⟩
    · rw [hnone]
      exact ⟨rfl, rfl, (hother n).trans (if_pos rfl), fun m hm => (hother m).trans (if_neg hm)⟩
    · obtain ⟨k, hk⟩ := Nat.exists_eq_succ_of_ne_zero (Nat.ne_of_gt hsome)
      rw [hk]
      obtain ⟨hstate, hsets⟩ := z.takeCloses_sets k
      refine ⟨hstate, fun m hm => ?_⟩
      obtain ⟨hactive, q, hq, hlast, hfirst⟩ := hsets m hm
      refine ⟨hactive, q, hq, hlast, hfirst.trans ?_, fun hone hmn => ?_⟩
      · rw [show z.pendingSet m = _ from hother m]
        split <;> rfl
      · obtain rfl : k = 0 := Nat.succ.inj hone
        have habsent : z.pendingSet m = none := (hother m).trans (if_pos hmn)
        have hclosed : q = z.closedSet m := Option.some.inj (hq.symm.trans (State.pendingSet_closeEpoch z hm))
        rw [hclosed, State.closedSet_of_absent habsent, hmn]
        rfl

/-! ## Fetches (R154 to R156) -/

/-- The state with a reply to a collector at the tail of the normal queue, and the Billing Record Queue as the answer leaves it. -/
def State.replied (s : State) (c : Nat) (b : BillingQueue) (r : BillReply) : State :=
  { s with xc := { s.xc with normal := s.xc.normal ++ [.billRecord c r] }, bq := b }

/-- A fetch that finds a record is answered by the head state. -/
theorem State.answerFetch_of_cons {s : State} {c : Nat} {repeated : Bool} {r : BillRecord} {more : List BillRecord}
    (hr : s.bq.records = r :: more) : s.answerFetch c repeated = match s.bq.head with
      | .absent => s.showHead c
      | .fresh => s.showHead c
      | .shown d _ =>
        if d = c then (if repeated then s.showHead c else s.removeHead.showHead c) else s.replyBill c .busy :=
  if_neg (by simp [hr])

section Fetch

variable {s : State} {c : Nat} (hfree : s.replyWaits .billRecord c = false)
include hfree

theorem State.replyBill_of_free (b : BillingQueue) (r : BillReply) :
    { s with bq := b }.replyBill c r = s.replied c b r := by
  have hfresh : ∀ n ∈ s.xc.normal, ¬(n.kind = .billRecord ∧ n.dest = c) := fun n hn hkey =>
    Bool.eq_false_iff.1 hfree ((State.replyWaits_iff ..).2 (.inl ⟨n, hn, hkey⟩))
  simp only [State.replyBill, State.queueNormal, State.replied]
  rw [placeMsg_of_fresh hfresh]

theorem State.showHead_of_cons {b : BillingQueue} {r : BillRecord} {more : List BillRecord} (hr : b.records = r :: more) :
    { s with bq := b }.showHead c = s.replied c { b with head := .shown c 0 } (.record r) := by
  simp only [State.showHead, hr]
  exact State.replyBill_of_free hfree _ _

theorem State.showHead_of_nil {b : BillingQueue} (hr : b.records = []) :
    { s with bq := b }.showHead c = s.replied c { b with head := .absent } .none := by
  simp only [State.showHead, hr]
  exact State.replyBill_of_free hfree _ _

theorem State.answerFetch_of_empty (repeated : Bool) (hr : s.bq.records = []) :
    s.answerFetch c repeated = s.replied c s.bq .none :=
  (if_pos hr).trans (State.replyBill_of_free hfree s.bq .none)

section Records

variable {r : BillRecord} {more : List BillRecord} (hr : s.bq.records = r :: more)
include hr

theorem State.answerFetch_of_fresh (repeated : Bool) (hhead : s.bq.head = .fresh) :
    s.answerFetch c repeated = s.replied c { s.bq with head := .shown c 0 } (.record r) := by
  rw [State.answerFetch_of_cons hr, hhead]
  exact State.showHead_of_cons hfree hr

theorem State.answerFetch_of_other (repeated : Bool) {d m : Nat} (hhead : s.bq.head = .shown d m) (hd : d ≠ c) :
    s.answerFetch c repeated = s.replied c s.bq .busy := by
  rw [State.answerFetch_of_cons hr, hhead]
  exact (if_neg hd).trans (State.replyBill_of_free hfree s.bq .busy)

theorem State.answerFetch_of_repeat {m : Nat} (hhead : s.bq.head = .shown c m) :
    s.answerFetch c true = s.replied c { s.bq with head := .shown c 0 } (.record r) := by
  rw [State.answerFetch_of_cons hr, hhead]
  exact (if_pos rfl).trans ((if_pos rfl).trans (State.showHead_of_cons hfree hr))

omit hfree in
theorem State.answerFetch_of_plain {m : Nat} (hhead : s.bq.head = .shown c m) :
    s.answerFetch c false =
      { s with bq := { s.bq with records := more, slotsFreed := s.bq.slotsFreed + 1 } }.showHead c := by
  rw [State.answerFetch_of_cons hr, hhead]
  refine (if_pos rfl).trans ((if_neg Bool.false_ne_true).trans ?_)
  simp only [State.removeHead, hr, List.tail_cons]

end Records

end Fetch

/-- A BILL-FETCH notice at the front, whichever of its two commands its repeat mark names. -/
theorem exec_billFetch {s : State} {n : Notice} {rest : List Notice} (hload : s.il.state ≠ .loading)
    (hn : s.xc.notices = n :: rest) (hk : n.kind = .billFetch) :
    exec (if n.word.getLsbD 0 then .billFetchRepeat else .billFetchPlain) s =
      .next ((s.withNotices rest).billFetch n.sender (n.word.getLsbD 0)).takeFrame := by
  have hkind := Notice.isKind_of_eq hk
  have hacts := State.actsOn_fetch hload (.inl hk)
  cases hrep : n.word.getLsbD 0 with
  | false =>
    rw [if_neg Bool.false_ne_true, exec_eq_next]
    rw [State.after, State.process_of_front hn (by simp only [hkind, Notice.repeats, hrep]; rfl) hacts]
  | true =>
    rw [if_pos rfl, exec_eq_next]
    rw [State.after, State.process_of_front hn (by simp only [hkind, Notice.repeats, hrep]; rfl) hacts]

/-- Settles O57. -/
theorem fetchesAnswered : Obligations.FetchesAnswered := by
  intro s n rest hload hn hk c repeated fetch waits answers
  have hfetch : fetch = .next ((s.withNotices rest).billFetch c repeated).takeFrame := exec_billFetch hload hn hk
  have hwaits : waits ↔ (s.withNotices rest).replyWaits .billRecord c = true := (State.replyWaits_iff ..).symm
  have hanswer : ∀ {b r}, ¬waits → ((s.withNotices rest).replyWaits .billRecord c = false →
      (s.withNotices rest).answerFetch c repeated = (s.withNotices rest).replied c b r) → answers b r := fun hfree h => by
    have hfree := Bool.eq_false_iff.2 (mt hwaits.2 hfree)
    exact hfetch.trans (congrArg (fun z : State => Host.Outcome.next z.takeFrame)
      ((if_neg (Bool.eq_false_iff.1 hfree)).trans (h hfree)))
  refine ⟨fun h => hfetch.trans (congrArg (fun z : State => Host.Outcome.next z.takeFrame) (if_pos (hwaits.1 h))),
    fun hfree hr => hanswer hfree fun hf => State.answerFetch_of_empty hf repeated hr,
    fun r more hfree hr => ⟨fun hhead => hanswer hfree fun hf => State.answerFetch_of_fresh hf hr repeated hhead,
      fun d m hhead hd => hanswer hfree fun hf => State.answerFetch_of_other hf hr repeated hhead hd,
      fun m hhead hrep => hanswer hfree fun hf => ?_, fun m x later hhead hrep hmore => hanswer hfree fun hf => ?_,
      fun m hhead hrep hmore => hanswer hfree fun hf => ?_⟩⟩
  · rw [hrep]
    exact State.answerFetch_of_repeat hf hr hhead
  · rw [hrep]
    refine (State.answerFetch_of_plain (s := s.withNotices rest) hr hhead).trans ?_
    exact State.showHead_of_cons hf hmore
  · rw [hrep]
    refine (State.answerFetch_of_plain (s := s.withNotices rest) hr hhead).trans ?_
    rw [hmore]
    exact State.showHead_of_nil hf rfl

end Sys2Proof.Machine
end

section
/-! The ranges of the billing chain (O58): the queue of records with its engine, the usage sets, and the congestion stages. -/

namespace Sys2Proof.Machine

open Sys2Proof.Config

/-! ## The Billing Record Queue (R151, R153) -/

/-- The queue's own part of what holds of the billing chain, under a show limit. -/
def BillingQueue.Sound (limit : Nat) (b : BillingQueue) : Prop :=
  b.records.length ≤ recordSlots ∧ numbersRun b.next b.records = true ∧ (b.head = .absent ↔ b.records = []) ∧
  ∀ c n, b.head = .shown c n → n < limit

/-- While a record is computed there is a slot for it and a set to rate. -/
def State.RatingReady (s : State) : Prop :=
  ∀ t, s.re.state = .computing t → s.bq.records.length < recordSlots ∧ ∃ p, s.pendingSet t = some p ∧ p.usage.allZero = false

theorem State.billingSound_iff {s : State} : s.BillingSound ↔
    s.bq.Sound s.cfg.showLimit ∧ 1 ≤ s.cfg.showLimit ∧
      (s.il.state = .loading → s.bq.head = .absent ∨ s.bq.head = .fresh) ∧ s.RatingReady := by
  unfold State.BillingSound BillingQueue.Sound State.RatingReady
  cases s.bq.head <;> cases s.re.state <;> simp [and_assoc]

namespace BillingQueue

variable {b : BillingQueue} {limit : Nat}

theorem numbersRun_tail {next : Nat} {rs : List BillRecord} (h : numbersRun next rs = true) :
    numbersRun next rs.tail = true := by
  match rs with
  | [] => rfl
  | [_] => rfl
  | _ :: _ :: _ => exact (Bool.and_eq_true_iff.1 h).2

theorem numbersRun_append {next : Nat} {rs : List BillRecord} (h : numbersRun next rs = true) (r : BillRecord) :
    numbersRun (nextNumber next) (rs ++ [{ r with number := next }]) = true := by
  induction rs with
  | nil => simp [numbersRun]
  | cons x xs ih =>
    have htail := ih (numbersRun_tail h)
    cases xs with
    | nil => exact Bool.and_eq_true_iff.2 ⟨h, htail⟩
    | cons y ys => exact Bool.and_eq_true_iff.2 ⟨(Bool.and_eq_true_iff.1 h).1, htail⟩

theorem Sound.append (h : b.Sound limit) (hroom : b.records.length < recordSlots) (r : BillRecord) :
    (b.append r).Sound limit := by
  obtain ⟨-, hrun, hhead, hshown⟩ := h
  have hlen : (b.append r).records.length ≤ recordSlots := by simpa [BillingQueue.append] using hroom
  by_cases hempty : b.records = []
  · exact ⟨hlen, numbersRun_append hrun r, by simp [BillingQueue.append, hempty], by simp [BillingQueue.append, hempty]⟩
  · exact ⟨hlen, numbersRun_append hrun r, by simp [BillingQueue.append, hempty, hhead],
      by simpa [BillingQueue.append, hempty] using hshown⟩

theorem Sound.showTick (h : b.Sound limit) : (b.showTick limit).Sound limit := by
  unfold BillingQueue.showTick
  split
  · next c n hshown =>
    obtain ⟨hlen, hrun, hhead, -⟩ := h
    have hne : b.records ≠ [] := fun hempty => nomatch hshown.symm.trans (hhead.2 hempty)
    by_cases hlimit : limit ≤ n + 1
    · exact ⟨hlen, hrun, by simp [hlimit, hne], by simp [hlimit]⟩
    · exact ⟨hlen, hrun, by simp [hlimit, hne], by simp [hlimit]; omega⟩
  · exact h
  · exact h

/-- The next record is shown, or the queue has none. -/
theorem Sound.shown (hlen : b.records.length ≤ recordSlots) (hrun : numbersRun b.next b.records = true) (hlimit : 1 ≤ limit)
    (hne : b.records ≠ []) (c : Nat) : { b with head := .shown c 0 }.Sound limit :=
  ⟨hlen, hrun, by simp [hne], fun _ _ h => by cases h; exact hlimit⟩

theorem Sound.emptied (hrun : numbersRun b.next b.records = true) (hempty : b.records = []) :
    { b with head := .absent }.Sound limit :=
  ⟨by simp [hempty], hrun, by simp [hempty], by simp⟩

end BillingQueue

namespace State

variable {s t : State}

/-- What the billing chain's ranges look at. -/
theorem BillingSound.of_same (h : s.BillingSound) (hbq : t.bq = s.bq) (hcfg : t.cfg = s.cfg) (hil : t.il = s.il)
    (hre : t.re = s.re) (hum : t.um.pending = s.um.pending) : t.BillingSound := by
  rw [billingSound_iff] at h ⊢
  simpa only [RatingReady, pendingSet, hbq, hcfg, hil, hre, hum] using h

/-- A step of the engine that leaves the queue alone and ends short of a computation, or in one it is ready for. -/
theorem BillingSound.of_engine (h : s.BillingSound) (hbq : t.bq = s.bq) (hcfg : t.cfg = s.cfg) (hil : t.il = s.il)
    (hready : t.RatingReady) : t.BillingSound := by
  obtain ⟨hqueue, hlimit, hload, -⟩ := billingSound_iff.1 h
  refine billingSound_iff.2 ⟨?_, ?_, ?_, hready⟩
  · rwa [hbq, hcfg]
  · rwa [hcfg]
  · rwa [hbq, hil]

theorem ratingReady_of_state {r : RateState} (hr : t.re.state = r) (h : ∀ n, r ≠ .computing n) : t.RatingReady :=
  fun n hn => absurd (hr.symm.trans hn) (h n)

theorem ratingReady_advance (z : State) (n : Nat) : (z.advance n).RatingReady :=
  ratingReady_of_state (setRate_state ..) fun m => by split <;> simp

theorem ratingReady_closeEpoch (z : State) : z.closeEpoch.RatingReady :=
  ratingReady_of_state (setRate_state ..) fun _ => nofun

theorem ratingReady_takeCloses {z : State} (h : z.RatingReady) (k : Nat) : (z.takeCloses k).RatingReady := by
  induction k generalizing z with
  | zero => exact h
  | succ k ih => exact ih (ratingReady_closeEpoch z)

theorem BillingSound.meterClose (h : s.BillingSound) : s.meterClose.BillingSound := by
  unfold State.meterClose
  split
  · exact h
  · exact h.of_engine (by simp) (by simp) (by simp) (ratingReady_closeEpoch _)

theorem BillingSound.takeEpoch (h : s.BillingSound) : s.takeEpoch.BillingSound := by
  unfold State.takeEpoch
  split
  · exact BillingSound.meterClose (by exact h)
  · exact h

theorem BillingSound.ratingStep (h : s.BillingSound) : s.ratingStep.BillingSound := by
  refine h.of_engine (by simp) (by simp) (by simp) ?_
  cases hs : s.re.state with
  | idle | computing | waiting =>
    obtain ⟨-, -, -, hready⟩ := billingSound_iff.1 h
    rwa [show s.ratingStep = s by simp only [State.ratingStep, hs]]
  | stepping n =>
    cases hp : s.pendingSet n with
    | none => rw [ratingStep_of_absent hs hp]; exact ratingReady_advance _ n
    | some p =>
      cases hz : p.usage.allZero with
      | true => rw [ratingStep_of_zero hs hp hz]; exact ratingReady_advance _ n
      | false =>
        rw [ratingStep_of_usage hs hp hz]
        split
        · next hroom =>
          intro m hm
          cases hm
          exact ⟨hroom, p, hp, hz⟩
        · exact ratingReady_of_state rfl fun _ => nofun

theorem BillingSound.computationEnd (h : s.BillingSound) : s.computationEnd.BillingSound := by
  cases hs : s.re.state with
  | idle | stepping | waiting => rwa [show s.computationEnd = s by simp only [State.computationEnd, hs]]
  | computing n =>
    obtain ⟨hqueue, hlimit, hload, hready⟩ := billingSound_iff.1 h
    obtain ⟨hroom, p, hp, -⟩ := hready n hs
    rw [computationEnd_eq hs hp]
    have hrecorded : (s.recorded n p).BillingSound := by
      refine billingSound_iff.2 ⟨hqueue.append hroom _, hlimit, fun hl => ?_, ratingReady_advance _ n⟩
      rw [show (s.recorded n p).bq.head = if s.bq.records = [] then .fresh else s.bq.head from rfl]
      split
      · exact .inr rfl
      · exact hload hl
    exact hrecorded.of_engine (by simp) (by simp) (by simp)
      (ratingReady_takeCloses (by exact (billingSound_iff.1 hrecorded).2.2.2) _)

theorem BillingSound.slotFreed (h : s.BillingSound) : s.slotFreed.BillingSound := by
  by_cases hdue : 0 < s.bq.slotsFreed
  · cases hs : s.re.state with
    | waiting n =>
      rw [slotFreed_of_waiting hdue hs]
      obtain ⟨hqueue, hlimit, hload, -⟩ := billingSound_iff.1 h
      exact BillingSound.ratingStep (billingSound_iff.2 ⟨hqueue, hlimit, hload, ratingReady_of_state rfl fun _ => nofun⟩)
    | idle | stepping | computing =>
      rw [slotFreed_of_not_waiting hdue (by simp [hs])]
      exact h
  · rwa [show s.slotFreed = s from if_neg hdue]

/-- The queue after an answer that leaves no more records than before, outside LOADING. -/
theorem BillingSound.of_queue (h : s.BillingSound) (hended : s.il.state ≠ .loading)
    (hqueue : t.bq.Sound s.cfg.showLimit) (hfewer : t.bq.records.length ≤ s.bq.records.length) (hcfg : t.cfg = s.cfg)
    (hil : t.il = s.il) (hre : t.re = s.re) (hum : t.um = s.um) : t.BillingSound := by
  obtain ⟨-, hlimit, -, hready⟩ := billingSound_iff.1 h
  refine billingSound_iff.2 ⟨hcfg ▸ hqueue, hcfg ▸ hlimit, fun hl => absurd (hil ▸ hl) hended, fun n hn => ?_⟩
  obtain ⟨hroom, p, hp, hz⟩ := hready n (hre ▸ hn)
  exact ⟨hfewer.trans_lt hroom, p, by simpa only [pendingSet, hum] using hp, hz⟩

theorem showHead_sound {z : State} {limit : Nat} (hlen : z.bq.records.length ≤ recordSlots)
    (hrun : numbersRun z.bq.next z.bq.records = true) (hlimit : 1 ≤ limit) (c : Nat) :
    (z.showHead c).bq.Sound limit ∧ (z.showHead c).bq.records = z.bq.records := by
  unfold State.showHead
  split
  · next r rs hr => exact ⟨BillingQueue.Sound.shown hlen hrun hlimit (by simp [hr]) c, rfl⟩
  · next hr => exact ⟨BillingQueue.Sound.emptied hrun hr, rfl⟩

theorem BillingSound.billFetch (h : s.BillingSound) (hended : s.il.state ≠ .loading) (c : Nat) (repeated : Bool) :
    (s.billFetch c repeated).BillingSound := by
  obtain ⟨⟨hlen, hrun, hhead, hshown⟩, hlimit, -, -⟩ := billingSound_iff.1 h
  have hshow : (s.showHead c).BillingSound := by
    obtain ⟨hsound, hsame⟩ := showHead_sound hlen hrun hlimit c
    exact h.of_queue hended hsound (by rw [hsame]) (by simp) (by simp) (by simp) (by simp)
  have hreply : ∀ r, (s.replyBill c r).BillingSound := fun r =>
    h.of_same (by simp) (by simp) (by simp) (by simp) (by simp)
  unfold State.billFetch State.answerFetch
  split
  · exact h
  · split
    · exact hreply _
    · split
      · exact hshow
      · exact hshow
      · split
        · split
          · exact hshow
          · have hfewer : s.removeHead.bq.records.length ≤ s.bq.records.length := by simp [State.removeHead]
            obtain ⟨hsound, hsame⟩ := showHead_sound (z := s.removeHead) (hfewer.trans hlen)
              (BillingQueue.numbersRun_tail hrun) hlimit c
            exact h.of_queue hended hsound (by rw [hsame]; exact hfewer) (by simp) (by simp) (by simp) (by simp)
        · exact hreply _

theorem BillingSound.reportAct (h : s.BillingSound) (u : ReportUser) : (s.reportAct u).BillingSound := by
  cases u with
  | billingQueue =>
    obtain ⟨hqueue, hlimit, hload, hready⟩ := billingSound_iff.1 h
    refine billingSound_iff.2 ⟨hqueue.showTick, hlimit, fun hl => ?_, fun n hn => ?_⟩
    · obtain hhead | hhead := hload hl <;> simp [State.reportAct, BillingQueue.showTick, hhead]
    · have hsame : (s.bq.showTick s.cfg.showLimit).records = s.bq.records := by
        unfold BillingQueue.showTick; split <;> rfl
      simp only [State.reportAct, hsame]
      exact hready n hn
  | egressScheduler | reliefController | pathUnit | peerView | levelBuilder =>
    exact h.of_same (by simp [State.reportAct]) (by simp [State.reportAct]) (by simp [State.reportAct])
      (by simp [State.reportAct]) (by simp [State.reportAct])

theorem BillingSound.reportTickIf (h : s.BillingSound) (u : ReportUser) (named : Bool) :
    (s.reportTickIf u named).BillingSound :=
  State.reportTickIf_keeps (fun _ _ hz => hz) (fun _ hz => hz.reportAct u) named h

theorem BillingSound.takeFrame (h : s.BillingSound) : s.takeFrame.BillingSound :=
  h.of_same (by simp) (by simp) (by simp) (by simp) (by simp)

theorem BillingSound.ageAct (h : s.BillingSound) (u : AgeUser) : (s.ageAct u).BillingSound := by
  cases u <;> exact h.of_same (by simp [State.ageAct]) (by simp [State.ageAct]) (by simp [State.ageAct])
    (by simp [State.ageAct]) (by simp [State.ageAct])

theorem BillingSound.endLoad (h : s.BillingSound) (b : List Byte) : (s.endLoad b).BillingSound := by
  obtain ⟨⟨hlen, hrun, hhead, hshown⟩, hlimit, hload, hready⟩ := billingSound_iff.1 h
  unfold State.endLoad
  split
  · next hloading =>
    have hrefused : ∀ r, (s.refuseImage r).BillingSound := fun r =>
      billingSound_iff.2 ⟨⟨hlen, hrun, hhead, hshown⟩, hlimit, nofun, hready⟩
    split
    · refine billingSound_iff.2 ⟨⟨hlen, hrun, hhead, fun c n hn => ?_⟩, (clampTo_bounds (by decide) _).1, nofun, hready⟩
      obtain hidle | hidle := hload hloading <;> exact nomatch hidle.symm.trans hn
    all_goals exact hrefused _
  · exact h

theorem BillingSound.process (h : s.BillingSound) (p : Notice → Bool) {act : State → Notice → State}
    (hact : ∀ {z : State} n, z.BillingSound → (act z n).BillingSound) : (s.process p act).BillingSound :=
  State.process_keeps h (fun _ _ _ => h) (fun n _ _ _ hz => hact n hz) (fun _ hz => hz.takeFrame)

/-- A fetch is acted on only when the load has ended. -/
theorem BillingSound.process_fetch (h : s.BillingSound) (p : Notice → Bool) (repeated : Bool) :
    (s.process p (fun z n => z.billFetch n.sender repeated)).BillingSound := by
  unfold State.process
  split
  · split
    · refine BillingSound.takeFrame ?_
      split
      · next hacts =>
        refine BillingSound.billFetch (s := s.removeNotice) h (fun hl => ?_) _ _
        rw [State.actsOn, show s.il.state = .loading from hl] at hacts
        cases hacts
      · exact h
    · exact h
  · exact h

theorem takeUsage_pending (s : State) : s.takeUsage.um.pending = s.um.pending := by
  unfold State.takeUsage; split <;> rfl

theorem takeRefusal_pending (s : State) : s.takeRefusal.um.pending = s.um.pending := by
  unfold State.takeRefusal; split <;> rfl

theorem takeLoss_pending (s : State) : s.takeLoss.um.pending = s.um.pending := by
  unfold State.takeLoss; split <;> rfl

theorem BillingSound.after (h : s.BillingSound) (c : Instr) : (s.after c).BillingSound := by
  cases c with
  | reset straps signals => simp [State.after, State.resetWith, BillingSound, State.reset, Settings.reset, numbersRun]
  | imageLoadEnd b => exact h.endLoad b
  | epochClose => exact h.takeEpoch
  | ratingStep => exact h.ratingStep
  | computationEnd => exact h.computationEnd
  | slotFreed => exact h.slotFreed
  | usageReport => exact h.of_same (t := s.takeUsage) (by simp) (by simp) (by simp) (by simp) (takeUsage_pending s)
  | refusalReport => exact h.of_same (t := s.takeRefusal) (by simp) (by simp) (by simp) (by simp) (takeRefusal_pending s)
  | lossReport => exact h.of_same (t := s.takeLoss) (by simp) (by simp) (by simp) (by simp) (takeLoss_pending s)
  | billFetchPlain => exact h.process_fetch _ false
  | billFetchRepeat => exact h.process_fetch _ true
  | reportTick u => exact (State.reportTick_keeps (fun _ _ hz => hz) (fun _ hz => hz.reportAct u) h : BillingSound _).takeFrame
  | ageTick u => exact (State.ageTick_keeps (fun _ _ hz => hz) (fun _ hz => hz.ageAct u) h : BillingSound _).takeFrame
  | entryAgedOut w =>
    exact (State.entryAgedOut_keeps (fun _ _ hz => hz) (fun _ hz => hz.ageAct .addressTable) w h : BillingSound _).takeFrame
  | heldLimitFlush | peerStale | showLimitLapse | requestTimeout | upgradeTimeout | exclusionExpiry =>
    exact (h.reportTickIf _ _).takeFrame
  | levelNotice | addressNotice | borrowNotice | grantNotice | withdrawNotice | returnNotice | statusFetch =>
    refine h.process _ fun n hz => hz.of_same ?_ ?_ ?_ ?_ ?_ <;> simp
  | _ => refine h.of_same ?_ ?_ ?_ ?_ ?_ <;> simp [State.after]

/-! ## The usage sets (R128) -/

theorem satAdd_le (largest v n : Nat) : satAdd largest v n ≤ largest := by
  rw [satAdd_eq_min]; exact Nat.min_le_left ..

theorem inRange_iff (u : Usage) : u.inRange = true ↔
    u.committed ≤ count48 ∧ u.excess ≤ count48 ∧ u.lost ≤ count48 ∧ u.admitted ≤ count32 ∧ u.refused ≤ count32 := by
  simp [Usage.inRange, and_assoc]

section Ranges

variable {u : Usage} (h : u.inRange = true)
include h

theorem inRange_addUsage (length : Nat) (excess : Bool) : (u.addUsage length excess).inRange = true := by
  rw [inRange_iff] at h ⊢
  obtain ⟨hc, he, hl, ha, hr⟩ := h
  unfold Usage.addUsage
  split
  · exact ⟨hc, satAdd_le .., hl, satAdd_le .., hr⟩
  · exact ⟨satAdd_le .., he, hl, satAdd_le .., hr⟩

theorem inRange_addRefusal : u.addRefusal.inRange = true := by
  rw [inRange_iff] at h ⊢
  obtain ⟨hc, he, hl, ha, hr⟩ := h
  exact ⟨hc, he, hl, ha, satAdd_le ..⟩

theorem inRange_addLoss (length : Nat) : (u.addLoss length).inRange = true := by
  rw [inRange_iff] at h ⊢
  obtain ⟨hc, he, hl, ha, hr⟩ := h
  exact ⟨hc, he, satAdd_le .., ha, hr⟩

end Ranges

theorem inRange_merge (p a : Usage) : (p.merge a).inRange = true :=
  (inRange_iff _).2 ⟨satAdd_le .., satAdd_le .., satAdd_le .., satAdd_le .., satAdd_le ..⟩

theorem nextEpoch_bounds {e : Nat} (h1 : 1 ≤ e) (h2 : e ≤ 65535) : 1 ≤ nextEpoch e ∧ nextEpoch e ≤ 65535 := by
  unfold nextEpoch; split <;> omega

theorem MeterSound.of_same (h : s.MeterSound) (hum : t.um = s.um) : t.MeterSound := by
  unfold State.MeterSound at *; rwa [hum]

theorem MeterSound.active (h : s.MeterSound) (n : Nat) : (s.active n).inRange = true := by
  unfold State.active Tab.read
  cases hn : Tab.find? s.um.active n with
  | none => decide
  | some u => exact h.1 _ (Tab.mem_of_find? hn)

theorem MeterSound.setActive (h : s.MeterSound) (n : Nat) {u : Usage} (hu : u.inRange = true) :
    (s.setActive n u).MeterSound := by
  obtain ⟨hactive, hrest⟩ := h
  refine ⟨fun e he => ?_, hrest⟩
  change e ∈ Tab.write Usage.zero s.um.active n u at he
  unfold Tab.write at he
  split at he
  · exact hactive e (List.mem_of_mem_filter he)
  · obtain rfl | hold := Tab.mem_put he
    · exact hu
    · exact hactive e hold

theorem MeterSound.closedSet (h : s.MeterSound) (n : Nat) : (s.closedSet n).usage.inRange = true := by
  unfold State.closedSet
  split
  · exact h.active n
  · exact inRange_merge ..

theorem MeterSound.closeEpoch (h : s.MeterSound) : s.closeEpoch.MeterSound := by
  obtain ⟨hlow, hhigh⟩ := nextEpoch_bounds h.2.2.1 h.2.2.2
  refine ⟨fun e he => absurd he List.not_mem_nil, fun e he => ?_, hlow, hhigh⟩
  obtain ⟨n, -, rfl⟩ := List.mem_map.1 (show e ∈ tenants.map (fun n => (n, s.closedSet n)) from he)
  exact h.closedSet n

theorem MeterSound.dropPending (h : s.MeterSound) (n : Nat) : (s.dropPending n).MeterSound :=
  ⟨h.1, fun e he => h.2.1 e (List.mem_of_mem_filter he), h.2.2⟩

theorem MeterSound.takeCloses (h : s.MeterSound) (k : Nat) : (s.takeCloses k).MeterSound := by
  induction k generalizing s with
  | zero => exact h
  | succ k ih => exact ih h.closeEpoch

theorem MeterSound.meterClose (h : s.MeterSound) : s.meterClose.MeterSound := by
  unfold State.meterClose
  split
  · exact h
  · exact h.closeEpoch

theorem MeterSound.ratingStep (h : s.MeterSound) : s.ratingStep.MeterSound := by
  unfold State.ratingStep
  split
  · split
    · exact h
    · split
      · exact h.dropPending _
      · split <;> exact h
  all_goals exact h

theorem MeterSound.computationEnd (h : s.MeterSound) : s.computationEnd.MeterSound := by
  unfold State.computationEnd State.takeHeldCloses
  split
  · split
    · exact MeterSound.takeCloses (by exact h.dropPending _) _
    · exact MeterSound.takeCloses (by exact h) _
  all_goals exact h

theorem MeterSound.slotFreed (h : s.MeterSound) : s.slotFreed.MeterSound := by
  unfold State.slotFreed
  split
  · dsimp only
    split
    · exact MeterSound.ratingStep (by exact h)
    all_goals exact h
  · exact h

theorem MeterSound.after (h : s.MeterSound) (c : Instr) : (s.after c).MeterSound := by
  have tick : ∀ u, (s.reportTick u).um = s.um := fun u => State.reportTick_eq State.um s u (fun _ _ => rfl) fun z => by
    cases u <;> simp [State.reportAct]
  have age : ∀ u, (s.ageTick u).um = s.um := fun u => State.ageTick_eq State.um s u (fun _ _ => rfl) fun z => by
    cases u <;> simp [State.ageAct]
  have act : ∀ (p : Notice → Bool) {f : State → Notice → State}, (∀ (z : State) n, (f z n).um = z.um) →
      (s.process p f).MeterSound := fun p f hf => h.of_same (State.process_eq State.um s rfl (fun n => hf _ n) (by simp))
  cases c with
  | reset straps signals => simp [State.after, State.resetWith, MeterSound, State.reset]
  | usageReport =>
    simp only [State.after, State.takeUsage]
    split
    · exact MeterSound.setActive (by exact h) _ (inRange_addUsage (h.active _) _ _)
    · exact h
  | refusalReport =>
    simp only [State.after, State.takeRefusal]
    split
    · exact MeterSound.setActive (by exact h) _ (inRange_addRefusal (h.active _))
    · exact h
  | lossReport =>
    simp only [State.after, State.takeLoss]
    split
    · exact MeterSound.setActive (by exact h) _ (inRange_addLoss (h.active _) _)
    · exact h
  | epochClose =>
    simp only [State.after, State.takeEpoch]
    split
    · exact MeterSound.meterClose (by exact h)
    · exact h
  | ratingStep => exact h.ratingStep
  | computationEnd => exact h.computationEnd
  | slotFreed => exact h.slotFreed
  | reportTick u => exact h.of_same (by simp [State.after, tick])
  | ageTick u => exact h.of_same (by simp [State.after, age])
  | levelNotice | addressNotice | borrowNotice | grantNotice | withdrawNotice | returnNotice | billFetchPlain
  | billFetchRepeat | statusFetch => exact act _ (by simp)
  | _ => exact h.of_same (by simp [State.after])

/-! ## The congestion stages (R88) -/

/-- The lowest a of n stages set. -/
def stageRun (n a : Nat) : List Bool := List.replicate a true ++ List.replicate (n - a) false

theorem stageRun_zero (n : Nat) : stageRun (n + 1) 0 = false :: stageRun n 0 := rfl

theorem stageRun_succ (n a : Nat) : stageRun (n + 1) (a + 1) = true :: stageRun n a := by
  simp [stageRun, List.replicate_succ]

theorem levelOf_stageRun (n a : Nat) : levelOf (stageRun n a) = a := by
  simp [levelOf, stageRun]

/-- The setting pass sets a run above a run. -/
theorem stagePassSet_stageRun (m : Nat) (marks : List Nat) {a : Nat} (h : a ≤ marks.length) :
    ∃ b ≤ marks.length, stagePassSet m true (stageRun marks.length a) marks = stageRun marks.length b := by
  induction marks generalizing a with
  | nil => exact ⟨0, Nat.le_refl 0, by obtain rfl := Nat.le_zero.1 h; rfl⟩
  | cons mk mks ih =>
    rw [List.length_cons] at h ⊢
    cases a with
    | succ a =>
      obtain ⟨b, hb, hset⟩ := ih (Nat.le_of_succ_le_succ h)
      exact ⟨b + 1, Nat.succ_le_succ hb, by simp [stageRun_succ, stagePassSet, hset]⟩
    | zero =>
      by_cases hmk : mk ≤ m
      · obtain ⟨b, hb, hset⟩ := ih (Nat.zero_le _)
        exact ⟨b + 1, Nat.succ_le_succ hb, by simp [stageRun_zero, stageRun_succ, stagePassSet, hset, hmk]⟩
      · exact ⟨0, Nat.zero_le _, by simp [stageRun_zero, stagePassSet, hmk]⟩

/-- The clearing pass leaves a run of a run, and goes on below it when nothing is left of it. -/
theorem stagePassClear_stageRun (m h : Nat) (marks : List Nat) {a : Nat} (ha : a ≤ marks.length) :
    ∃ b ≤ a, stagePassClear m h (stageRun marks.length a) marks = (stageRun marks.length b, b == 0) := by
  induction marks generalizing a with
  | nil => exact ⟨0, Nat.zero_le a, by obtain rfl := Nat.le_zero.1 ha; rfl⟩
  | cons mk mks ih =>
    rw [List.length_cons] at ha ⊢
    cases a with
    | zero =>
      obtain ⟨b, hb, hclear⟩ := ih (Nat.zero_le _)
      obtain rfl := Nat.le_zero.1 hb
      exact ⟨0, Nat.le_refl 0, by simp [stageRun_zero, stagePassClear, hclear]⟩
    | succ a =>
      obtain ⟨b, hb, hclear⟩ := ih (Nat.le_of_succ_le_succ ha)
      by_cases hcleared : b = 0 ∧ m < mk - h
      · obtain ⟨rfl, hmk⟩ := hcleared
        exact ⟨0, Nat.zero_le _, by simp [stageRun_zero, stageRun_succ, stagePassClear, hclear, hmk]⟩
      · refine ⟨b + 1, Nat.succ_le_succ hb, ?_⟩
        simp only [stageRun_succ, stagePassClear, hclear]
        rw [if_neg (by simpa using hcleared)]
        simp

theorem evalStages_stageRun (m h : Nat) (marks : List Nat) {a : Nat} (ha : a ≤ marks.length) :
    ∃ b ≤ marks.length, evalStages m h marks (stageRun marks.length a) = stageRun marks.length b := by
  obtain ⟨b, hb, hset⟩ := stagePassSet_stageRun m marks ha
  obtain ⟨c, hc, hclear⟩ := stagePassClear_stageRun m h marks hb
  exact ⟨c, hc.trans hb, by simp only [evalStages, hset, hclear]⟩

/-- Five stages of which each needs the one below are a run. -/
theorem isRun_iff {stages : List Bool} (h5 : stages.length = 5) :
    (∀ i ∈ [0, 1, 2, 3], stages.getD (i + 1) false = true → stages.getD i false = true) ↔
      ∃ a ∈ List.range 6, stages = stageRun 5 a := by
  match stages, h5 with
  | [a, b, c, d, e], _ => revert a b c d e; decide

theorem stagesSound_iff : s.StagesSound ↔ s.cfg.marks.length = 5 ∧ s.rc.level = levelOf s.rc.stages ∧
    ∃ a ≤ 5, s.rc.stages = stageRun 5 a := by
  constructor
  · rintro ⟨hmarks, hlen, hlevel, hrun⟩
    obtain ⟨a, ha, hstages⟩ := (isRun_iff hlen).1 hrun
    exact ⟨hmarks, hlevel, a, Nat.le_of_lt_succ (List.mem_range.1 ha), hstages⟩
  · rintro ⟨hmarks, hlevel, a, ha, hstages⟩
    have hlen : s.rc.stages.length = 5 := by rw [hstages]; simp [stageRun, ha]
    exact ⟨hmarks, hlen, hlevel, (isRun_iff hlen).2 ⟨a, List.mem_range.2 (Nat.lt_succ_of_le ha), hstages⟩⟩

theorem StagesSound.of_same (h : s.StagesSound) (hmarks : t.cfg.marks = s.cfg.marks) (hlevel : t.rc.level = s.rc.level)
    (hstages : t.rc.stages = s.rc.stages) : t.StagesSound := by
  rw [stagesSound_iff] at h ⊢
  rwa [hmarks, hlevel, hstages]

/-- What changes no more of the Relief Controller than its lend offer and its port holds. -/
theorem StagesSound.of_portless (h : s.StagesSound) (hcfg : t.cfg = s.cfg)
    (hrc : t.rc.offerless.portless = s.rc.offerless.portless) : t.StagesSound := by
  have hlevel := congrArg ReliefController.level hrc
  have hstages := congrArg ReliefController.stages hrc
  exact h.of_same (by rw [hcfg]) hlevel hstages

theorem StagesSound.takeFrame (h : s.StagesSound) : s.takeFrame.StagesSound := h.of_portless (by simp) (by simp)

theorem StagesSound.evaluateStages (h : s.StagesSound) : s.evaluateStages.StagesSound := by
  obtain ⟨hmarks, -, a, ha, hstages⟩ := stagesSound_iff.1 h
  obtain ⟨b, hb, heval⟩ := evalStages_stageRun s.rc.measure s.cfg.hysteresis s.cfg.marks (hmarks ▸ ha)
  rw [hmarks] at hb heval
  have hset : { s with rc := { s.rc with
      stages := evalStages s.rc.measure s.cfg.hysteresis s.cfg.marks s.rc.stages
      level := levelOf (evalStages s.rc.measure s.cfg.hysteresis s.cfg.marks s.rc.stages) } }.StagesSound :=
    stagesSound_iff.2 ⟨hmarks, rfl, b, hb, by rw [← heval, ← hstages]⟩
  unfold State.evaluateStages
  dsimp only
  split
  · exact hset
  · exact hset.of_portless (by simp) (by simp)

theorem StagesSound.takeChange (h : s.StagesSound) (c : Change) : (s.takeChange c).StagesSound := by
  have hstored : { s with rc := s.rc.store c }.StagesSound := h
  have htenants : ∀ {z : State}, z.StagesSound → z.evaluateTenants.StagesSound := fun {z} hz => by
    unfold State.evaluateTenants
    dsimp only
    split
    · exact hz
    · exact StagesSound.of_portless (s := { z with rc := { z.rc with held := tenants.filter z.heldAfter } }) hz (by simp) (by simp)
  unfold State.takeChange
  dsimp only
  split
  · split
    · exact htenants hstored.evaluateStages
    · exact htenants hstored
  · split
    · exact hstored.evaluateStages
    · exact hstored

theorem StagesSound.endLoad (h : s.StagesSound) (b : List Byte) : (s.endLoad b).StagesSound := by
  obtain ⟨hmarks, hrest⟩ := stagesSound_iff.1 h
  unfold State.endLoad
  split
  · split
    · exact stagesSound_iff.2 ⟨(length_readMarks 0 _).trans (length_wordsAt ..), hrest⟩
    all_goals exact h
  · exact h

theorem StagesSound.after (h : s.StagesSound) (c : Instr) : (s.after c).StagesSound := by
  have tick : ∀ u, (s.reportTick u).rc.offerless.portless = s.rc.offerless.portless := fun u =>
    State.reportTick_eq (fun z => z.rc.offerless.portless) s u (fun _ _ => rfl) fun z => by
      cases u <;> simp [State.reportAct]
  have age : ∀ u, (s.ageTick u).rc.offerless.portless = s.rc.offerless.portless := fun u =>
    State.ageTick_eq (fun z => z.rc.offerless.portless) s u (fun _ _ => rfl) fun z => by
      cases u <;> simp [State.ageAct]
  have act : ∀ (p : Notice → Bool) {f : State → Notice → State}, (∀ (z : State) n, (f z n).cfg = z.cfg) →
      (∀ (z : State) n, (f z n).rc.offerless.portless = z.rc.offerless.portless) → (s.process p f).StagesSound :=
    fun p f hcfg hrc => h.of_portless (by simp [hcfg]) (State.process_eq (fun z => z.rc.offerless.portless) s (by simp)
      (fun n => hrc _ n) (by simp))
  cases c with
  | reset straps signals => simp [State.after, State.resetWith, StagesSound, State.reset, Settings.reset, levelOf]
  | imageLoadEnd b => exact h.endLoad b
  | changeEvent =>
    simp only [State.after, State.nextChange]
    split
    · exact StagesSound.takeFrame (StagesSound.takeChange (by exact h) _)
    · exact h.takeFrame
  | reportTick u => exact h.of_portless (by simp [State.after]) (by simp [State.after, tick])
  | ageTick u => exact h.of_portless (by simp [State.after]) (by simp [State.after, age])
  | levelNotice | addressNotice | borrowNotice | grantNotice | withdrawNotice | returnNotice | billFetchPlain
  | billFetchRepeat | statusFetch => exact act _ (by simp) (by simp)
  | _ => exact h.of_portless (by simp [State.after]) (by simp [State.after])

end State

/-- Settles O58. -/
theorem billingKept : Obligations.BillingKept :=
  ⟨fun _ _ hs hstep => step_keeps (P := State.BillingSound) (fun _ _ h => h) (fun _ c h => h.after c) hs hstep,
    fun _ _ hs hstep => step_keeps (P := State.MeterSound) (fun _ _ h => h) (fun _ c h => h.after c) hs hstep,
    fun _ _ hs hstep => step_keeps (P := State.StagesSound) (fun _ _ h => h) (fun _ c h => h.after c) hs hstep⟩

/-! ## One evaluation in closed form (R88) -/

/-- How many marks lie at or below a measure. -/
def marksUpTo (m : Nat) (marks : List Nat) : Nat := (marks.filter (fun k => decide (k ≤ m))).length

theorem marksUpTo_of_lt {m mk : Nat} {marks : List Nat} (hmk : m < mk) (h : ∀ k ∈ marks, mk < k) : marksUpTo m marks = 0 := by
  rw [marksUpTo, List.length_eq_zero_iff, List.filter_eq_nil_iff]
  intro k hk
  have := h k hk
  simp only [decide_eq_true_eq]
  omega

theorem marksUpTo_cons_le {m mk : Nat} (hmk : mk ≤ m) (mks : List Nat) :
    marksUpTo m (mk :: mks) = marksUpTo m mks + 1 := by
  simp [marksUpTo, hmk]

theorem marksUpTo_cons_lt {m mk : Nat} {mks : List Nat} (hmk : m < mk) (h : ∀ k ∈ mks, mk < k) :
    marksUpTo m (mk :: mks) = 0 ∧ marksUpTo m mks = 0 := by
  have htail := marksUpTo_of_lt hmk h
  exact ⟨by simpa [marksUpTo, Nat.not_le.2 hmk] using htail, htail⟩

open State (stageRun stageRun_zero stageRun_succ levelOf_stageRun)

theorem stagePassSet_rising (m : Nat) {marks : List Nat} (hrising : marks.Pairwise (fun x y => x < y)) {a : Nat}
    (h : a ≤ marks.length) :
    stagePassSet m true (stageRun marks.length a) marks = stageRun marks.length (max a (marksUpTo m marks)) := by
  induction hrising generalizing a with
  | nil => obtain rfl := Nat.le_zero.1 h; rfl
  | @cons mk mks hmk _ ih =>
    rw [List.length_cons] at h ⊢
    by_cases hreached : mk ≤ m
    · rw [marksUpTo_cons_le hreached]
      cases a with
      | zero => simp [stageRun_zero, stageRun_succ, stagePassSet, hreached, ih]
      | succ a => simp [stageRun_succ, stagePassSet, ih (Nat.le_of_succ_le_succ h)]
    · obtain ⟨hall, hrest⟩ := marksUpTo_cons_lt (Nat.lt_of_not_le hreached) hmk
      rw [hall]
      cases a with
      | zero => simp [stageRun_zero, stagePassSet, hreached]
      | succ a => simp [stageRun_succ, stagePassSet, ih (Nat.le_of_succ_le_succ h), hrest]

theorem stagePassClear_rising (m h : Nat) {marks : List Nat} (hrising : marks.Pairwise (fun x y => x < y)) {a : Nat}
    (ha : a ≤ marks.length) :
    stagePassClear m h (stageRun marks.length a) marks =
      (stageRun marks.length (min a (marksUpTo (m + h) marks)), min a (marksUpTo (m + h) marks) == 0) := by
  induction hrising generalizing a with
  | nil => obtain rfl := Nat.le_zero.1 ha; rfl
  | @cons mk mks hmk _ ih =>
    rw [List.length_cons] at ha ⊢
    cases a with
    | zero => simp [stageRun_zero, stagePassClear, ih (Nat.zero_le _)]
    | succ a =>
      have hrest := ih (Nat.le_of_succ_le_succ ha)
      by_cases hkept : mk ≤ m + h
      · rw [marksUpTo_cons_le hkept, Nat.add_min_add_right]
        simp only [stageRun_succ, stagePassClear, hrest]
        rw [if_neg (by simp; omega)]
        simp
      · obtain ⟨hall, hnone⟩ := marksUpTo_cons_lt (Nat.lt_of_not_le hkept) hmk
        rw [hall]
        simp only [stageRun_succ, stagePassClear, hrest, hnone, Nat.min_zero]
        rw [if_pos (by simp; omega)]
        rfl

/-- Settles O31. -/
theorem stageRule : Obligations.StageRule := by
  intro m h a marks hlen hrising ha run b c
  have heval : evalStages m h marks (stageRun 5 a) = stageRun 5 (max b (min a c)) := by
    have hb : marksUpTo m marks ≤ marks.length := List.length_filter_le ..
    have hset := stagePassSet_rising m hrising (hlen ▸ ha)
    have hclear := stagePassClear_rising m h hrising (a := max a (marksUpTo m marks)) (by omega)
    have hbc : marksUpTo m marks ≤ marksUpTo (m + h) marks :=
      (List.monotone_filter_right marks fun k hk => by simp only [decide_eq_true_eq] at hk ⊢; omega).length_le
    rw [hlen] at hset hclear
    rw [evalStages, hset, hclear]
    exact congrArg (stageRun 5) (show min (max a (marksUpTo m marks)) (marksUpTo (m + h) marks) =
      max (marksUpTo m marks) (min a (marksUpTo (m + h) marks)) by omega)
  exact ⟨heval, (congrArg levelOf heval).trans (levelOf_stageRun 5 _)⟩

end Sys2Proof.Machine
end

section
/-! The Link Supervisor (Chapter 4): what reads a run over ports or peers leaves, what each event does to the links, and the ranges
of R48. -/

namespace Sys2Proof.Machine

open Sys2Proof.Config

/-! ## Runs over ports, peers and paths -/

/-- A run that rewrites one record for each of a list of distinct keys. -/
theorem foldl_reads {α : Type} (read : State → Nat → α) (write : State → Nat → α → State)
    (hwrite : ∀ z p q v, read (write z p v) q = if q = p then v else read z q) (f : α → α) {ps : List Nat} (hnodup : ps.Nodup)
    (s : State) (q : Nat) :
    read (ps.foldl (fun z p => write z p (f (read z p))) s) q = if q ∈ ps then f (read s q) else read s q := by
  induction ps generalizing s with
  | nil => rfl
  | cons p ps ih =>
    obtain ⟨hp, hps⟩ := List.nodup_cons.1 hnodup
    rw [List.foldl_cons, ih hps, hwrite]
    by_cases hq : q = p
    · simp [hq, hp]
    · simp [hq]

namespace State

variable {s t : State}

theorem link_mapLinks (s : State) {ps : List Nat} (h : ps.Nodup) (f : PortLink → PortLink) (q : Nat) :
    (s.mapLinks ps f).link q = if q ∈ ps then f (s.link q) else s.link q :=
  foldl_reads State.link State.setLink State.link_setLink f h s q

theorem tx_mapTx (s : State) {ps : List Nat} (h : ps.Nodup) (f : PortTx → PortTx) (q : Nat) :
    (s.mapTx ps f).tx q = if q ∈ ps then f (s.tx q) else s.tx q :=
  foldl_reads State.tx State.setTx State.tx_setTx f h s q

theorem hold_mapHolds (s : State) {ps : List Nat} (h : ps.Nodup) (f : PortHold → PortHold) (q : Nat) :
    (s.mapHolds ps f).hold q = if q ∈ ps then f (s.hold q) else s.hold q :=
  foldl_reads State.hold State.setHold State.hold_setHold f h s q

theorem borrow_mapBorrows (s : State) {ks : List Nat} (h : ks.Nodup) (f : BorrowRecord → BorrowRecord) (j : Nat) :
    (s.mapBorrows ks f).borrow j = if j ∈ ks then f (s.borrow j) else s.borrow j :=
  foldl_reads State.borrow State.setBorrow State.borrow_setBorrow f h s j

theorem peer_mapPeers (s : State) {ks : List Nat} (h : ks.Nodup) (f : PeerRecord → PeerRecord) (j : Nat) :
    (s.mapPeers ks f).peer j = if j ∈ ks then f (s.peer j) else s.peer j :=
  foldl_reads State.peer State.setPeer State.peer_setPeer f h s j

theorem binding_rebind (s : State) (is : List Nat) (f : Nat → Binding) (j : Nat) :
    (s.rebind is f).binding j = if j ∈ is then f j else s.binding j := by
  induction is generalizing s with
  | nil => rfl
  | cons i is ih =>
    rw [show s.rebind (i :: is) f = (s.setBinding i (f i)).rebind is f from rfl, ih, binding_setBinding]
    by_cases hj : j = i
    · simp [hj]
    · simp [hj]

theorem nodup_allPorts : allPorts.Nodup := List.nodup_range

theorem nodup_accessPorts : accessPorts.Nodup := List.nodup_range

theorem nodup_peers (s : State) : s.peers.Nodup := (by decide : stations.Nodup).filter _

theorem port_mem (p : Fin 21) : p.val ∈ allPorts := List.mem_range.2 p.isLt

/-! ## What each operation does to the links -/

theorem link_congr {z : State} (h : z.ls = s.ls) (q : Nat) : z.link q = s.link q := by unfold link; rw [h]

theorem live_congr {z : State} (h : z.ls = s.ls) (q : Nat) : z.live q = s.live q := by unfold live; rw [link_congr h]

end State

namespace State

variable {s : State}

@[simp] theorem linkFault_ls (s : State) (p : Nat) :
    (s.linkFault p).ls = (s.setLink p ((s.link p).faulted s.cfg.flapLimit)).ls := by
  simp [State.linkFault]

@[simp] theorem enterUp_ls (s : State) (p : Nat) : (s.enterUp p).ls = (s.setLink p { s.link p with state := .up }).ls := by
  simp [State.enterUp]

/-- A state whose links are those of s but for port p, where it is l, and whose windows stand as in s. -/
def LinkAt (s : State) (p : Nat) (l : PortLink) (z : State) : Prop :=
  (∀ q, z.link q = if q = p then l else s.link q) ∧ z.ls.window = s.ls.window ∧ z.ls.windowDue = s.ls.windowDue ∧
    z.ls.windowOwed = s.ls.windowOwed

theorem linkAt_setLink (s : State) (p : Nat) (l : PortLink) : s.LinkAt p l (s.setLink p l) :=
  ⟨fun q => link_setLink s p q l, rfl, rfl, rfl⟩

theorem linkAt_self (s : State) (p : Nat) : s.LinkAt p (s.link p) s :=
  ⟨fun q => by split <;> simp [*], rfl, rfl, rfl⟩

theorem LinkAt.of_ls {p : Nat} {l : PortLink} {z y : State} (h : s.LinkAt p l z) (hy : y.ls = z.ls) : s.LinkAt p l y :=
  ⟨fun q => (link_congr hy q).trans (h.1 q), by rw [hy]; exact h.2⟩

theorem LinkAt.trans {p : Nat} {l m : PortLink} {z y : State} (h : s.LinkAt p l z) (hy : z.LinkAt p m y) : s.LinkAt p m y := by
  obtain ⟨hlink, hwindow, hdue, howed⟩ := h
  obtain ⟨hlink', hwindow', hdue', howed'⟩ := hy
  refine ⟨fun q => ?_, hwindow'.trans hwindow, hdue'.trans hdue, howed'.trans howed⟩
  rw [hlink' q, hlink q]
  split <;> rfl

theorem linkAt_linkFault (s : State) (p : Nat) : s.LinkAt p ((s.link p).faulted s.cfg.flapLimit) (s.linkFault p) :=
  (linkAt_setLink ..).of_ls (linkFault_ls s p)

theorem linkAt_enterUp (s : State) (p : Nat) : s.LinkAt p { s.link p with state := .up } (s.enterUp p) :=
  (linkAt_setLink ..).of_ls (enterUp_ls s p)

theorem configured_iff : s.configured = true ↔ s.il.state = .configured := by simp [State.configured]

theorem signalGone_of_not_configured (h : s.il.state ≠ .configured) (p : Nat) :
    s.signalGone p = s.setLink p { s.link p with signal := false } :=
  if_neg (mt configured_iff.1 h)

end State

/-! ## The ranges of R48 -/

/-- A port's record within the ranges of R48 under a flap limit. -/
def PortLink.InRange (limit : Nat) (l : PortLink) : Prop :=
  l.good ≤ 256 ∧ l.stages ≤ 6 ∧ l.errors ≤ 255 ∧ l.flaps ≤ limit ∧ (l.state ≠ .heldDown → l.flaps < limit)

namespace PortLink.InRange

variable {limit : Nat} {l : PortLink} (h : l.InRange limit)
include h

theorem faulted (hstate : l.state ≠ .heldDown) : (l.faulted limit).InRange limit := by
  obtain ⟨-, -, herrors, -, hflaps⟩ := h
  have hless := hflaps hstate
  refine ⟨Nat.zero_le _, Nat.zero_le _, herrors, hless, fun hnot => ?_⟩
  simp only [PortLink.faulted] at hnot ⊢
  split at hnot
  · exact absurd rfl hnot
  · omega

theorem nextWindow : l.nextWindow.InRange limit := ⟨h.1, h.2.1, Nat.zero_le _, h.2.2.2⟩

/-- A port out of HELD-DOWN, or as it was. -/
theorem withState (st : LinkState) (hst : l.state ≠ .heldDown) : { l with state := st }.InRange limit :=
  ⟨h.1, h.2.1, h.2.2.1, h.2.2.2.1, fun _ => h.2.2.2.2 hst⟩

theorem cleared : { l with good := 0, stages := 0 }.InRange limit := ⟨Nat.zero_le _, Nat.zero_le _, h.2.2⟩

omit h in
theorem stagesReached_le (n : Nat) : stagesReached n ≤ 6 := List.length_filter_le ..

theorem countGood : l.countGood.InRange limit := by
  obtain ⟨-, hstages, hrest⟩ := h
  refine ⟨?_, Nat.max_le.2 ⟨hstages, stagesReached_le _⟩, hrest⟩
  simp only [PortLink.countGood]
  split <;> omega

theorem ageTick (hlimit : 1 ≤ limit) : l.ageTick.InRange limit := by
  obtain ⟨hgood, hstages, herrors, -⟩ := h
  unfold PortLink.ageTick
  split
  · exact ⟨Nat.zero_le _, Nat.zero_le _, herrors, Nat.zero_le _, fun _ => hlimit⟩
  all_goals exact ⟨hgood, hstages, herrors, Nat.zero_le _, fun _ => hlimit⟩

end PortLink.InRange

namespace State

variable {s t : State}

theorem linksSound_iff : s.LinksSound ↔ (s.il.state = .loading → s.LinksStill) ∧ 1 ≤ s.cfg.flapLimit ∧
    s.cfg.flapLimit ≤ 15 ∧ ∀ p ∈ allPorts, (s.link p).InRange s.cfg.flapLimit := Iff.rfl

theorem LinksSound.of_same (h : s.LinksSound) (hls : t.ls = s.ls) (hcfg : t.cfg = s.cfg) (hil : t.il = s.il) :
    t.LinksSound := by
  unfold LinksSound LinksStill at *
  simpa only [link_congr hls, hls, hcfg, hil] using h

/-- What changes one port's link, once the load has ended or without touching its state and its flap count. -/
theorem LinksSound.of_linkAt (h : s.LinksSound) {p : Nat} {l : PortLink} (ht : s.LinkAt p l t) (hcfg : t.cfg = s.cfg)
    (hil : t.il = s.il) (hl : (s.link p).InRange s.cfg.flapLimit → l.InRange s.cfg.flapLimit)
    (hstill : s.il.state = .loading → l.state = (s.link p).state ∧ l.flaps = (s.link p).flaps) : t.LinksSound := by
  obtain ⟨hload, hlow, hhigh, hports⟩ := linksSound_iff.1 h
  obtain ⟨hlink, hwindow, hdue, howed⟩ := ht
  refine linksSound_iff.2 ⟨fun hl => ?_, hcfg ▸ hlow, hcfg ▸ hhigh, fun q hq => ?_⟩
  · rw [hil] at hl
    obtain ⟨h1, h2, h3, hdown⟩ := hload hl
    obtain ⟨hstate, hflaps⟩ := hstill hl
    refine ⟨hwindow.trans h1, hdue.trans h2, howed.trans h3, fun q hq => ?_⟩
    rw [hlink q]
    split
    · next hqp => subst hqp; rw [hstate, hflaps]; exact hdown q hq
    · exact hdown q hq
  · rw [hlink q, hcfg]
    split
    · next hqp => subst hqp; exact hl (hports q hq)
    · exact hports q hq

/-- What an event does to the link of port p: it writes no other, and keeps it in range. -/
def LinkMoved (s : State) (p : Nat) (z : State) : Prop :=
  ∃ l, s.LinkAt p l z ∧ ((s.link p).InRange s.cfg.flapLimit → l.InRange s.cfg.flapLimit)

theorem linkMoved_judged (s : State) (p : Nat) (bad : Bool) : s.LinkMoved p (s.judged p bad) := by
  have hself : s.LinkMoved p s := ⟨_, linkAt_self s p, id⟩
  have hchanged : ∀ l, s.LinkAt p l ((s.setLink p l).uplinkChanged p) := fun l =>
    (linkAt_setLink s p l).of_ls (by simp)
  unfold State.judged
  dsimp only
  split
  · next hstate =>
    split
    · exact ⟨_, hchanged _, fun h => (h.cleared.withState .qualifying (by simp [hstate]))⟩
    · exact hself
  · next hstate =>
    split
    · exact ⟨_, linkAt_setLink .., fun h => h.cleared⟩
    · split
      · have hset := linkAt_setLink s p (s.link p).countGood
        have hup := hset.trans (linkAt_enterUp _ p)
        rw [hset.1 p, if_pos rfl] at hup
        exact ⟨_, hup, fun h => h.countGood.withState .up (by simp [PortLink.countGood, hstate])⟩
      · exact ⟨_, linkAt_setLink .., fun h => h.countGood⟩
  · next hstate =>
    split
    · exact ⟨_, hchanged _, fun h => h.withState .suspect (by simp [hstate])⟩
    · exact hself
  · next hstate =>
    split
    · exact ⟨_, linkAt_linkFault s p, fun h => h.faulted (by simp [hstate])⟩
    · exact ⟨_, hchanged _, fun h => h.withState .up (by simp [hstate])⟩
  · exact hself

theorem linkMoved_judgeWindow (s : State) (p : Nat) : s.LinkMoved p (s.judgeWindow p) := by
  have hset := linkAt_setLink s p (s.link p).nextWindow
  obtain ⟨l, hl, hrange⟩ := linkMoved_judged (s.setLink p (s.link p).nextWindow) p ((s.link p).windowBad s.cfg.errorLimit)
  rw [hset.1 p, if_pos rfl] at hrange
  exact ⟨l, hset.trans hl, fun h => hrange h.nextWindow⟩

theorem linkMoved_signalGone (h : s.il.state = .configured) (p : Nat) : s.LinkMoved p (s.signalGone p) := by
  have hset := linkAt_setLink s p { s.link p with signal := false, lossMark := true }
  have hfault := hset.trans (linkAt_linkFault _ p)
  rw [hset.1 p, if_pos rfl] at hfault
  have hlost : (s.link p).InRange s.cfg.flapLimit →
      { s.link p with signal := false, lossMark := true }.InRange s.cfg.flapLimit := id
  unfold State.signalGone
  rw [if_pos (configured_iff.2 h)]
  dsimp only
  split
  · exact ⟨_, hset, hlost⟩
  · exact ⟨_, hset, hlost⟩
  · next hstate =>
    exact ⟨_, (hset.trans (linkAt_setLink ..)).of_ls (by simp), fun hl => (hlost hl).cleared.withState .down (by simp [hstate])⟩
  · next hstate => exact ⟨_, hfault, fun hl => (hlost hl).faulted (by simp [hstate])⟩
  · next hstate => exact ⟨_, hfault, fun hl => (hlost hl).faulted (by simp [hstate])⟩

theorem LinksSound.takeWindowEnd (h : s.LinksSound) (p : Nat) : (s.takeWindowEnd p).LinksSound := by
  have hjudge : ∀ {z : State}, z.il = s.il → z.LinksSound → s.il.state ≠ .loading → (z.judgeWindow p).LinksSound :=
    fun {z} hil hz hended => by
      obtain ⟨l, hl, hrange⟩ := linkMoved_judgeWindow z p
      exact hz.of_linkAt hl (by simp) (by simp) hrange fun hloading => absurd (hil ▸ hloading) hended
  unfold State.takeWindowEnd
  split
  · next howed =>
    have hended : s.il.state ≠ .loading := fun hl => by simp [(h.1 hl).2.2.1] at howed
    exact hjudge rfl ⟨fun hl => absurd hl hended, h.2⟩ hended
  · split
    · next hdue =>
      have hended : s.il.state ≠ .loading := fun hl => by simp [(h.1 hl).2.1] at hdue
      exact hjudge rfl ⟨fun hl => absurd hl hended, h.2⟩ hended
    · exact h

theorem LinksSound.signalGone (h : s.LinksSound) (p : Nat) : (s.signalGone p).LinksSound := by
  by_cases hconf : s.il.state = .configured
  · obtain ⟨l, hl, hrange⟩ := linkMoved_signalGone hconf p
    exact h.of_linkAt hl (by simp) (by simp) hrange fun hl => by simp [hconf] at hl
  · rw [signalGone_of_not_configured hconf]
    exact h.of_linkAt (linkAt_setLink ..) rfl rfl (fun hl => hl) (fun _ => ⟨rfl, rfl⟩)

theorem LinksSound.codeError (h : s.LinksSound) (p : Nat) : (s.codeError p).LinksSound := by
  unfold State.codeError
  split
  · next hconf =>
    refine h.of_linkAt (linkAt_setLink ..) rfl rfl (fun hl => ⟨hl.1, hl.2.1, ?_, hl.2.2.2⟩) (fun _ => ⟨rfl, rfl⟩)
    have := hl.2.2.1
    dsimp only
    split <;> omega
  · exact h

theorem windows_mapLinks (s : State) (ps : List Nat) (f : PortLink → PortLink) :
    (s.mapLinks ps f).ls.window = s.ls.window ∧ (s.mapLinks ps f).ls.windowDue = s.ls.windowDue ∧
      (s.mapLinks ps f).ls.windowOwed = s.ls.windowOwed :=
  foldl_induct (f := fun (z : State) p => z.setLink p (f (z.link p))) (P := fun z : State => z.ls.window = s.ls.window ∧ z.ls.windowDue = s.ls.windowDue ∧
    z.ls.windowOwed = s.ls.windowOwed) (fun _ _ hz => hz) ps ⟨rfl, rfl, rfl⟩

/-- What rewrites every port's link by itself. -/
theorem LinksSound.mapLinks (h : s.LinksSound) {f : PortLink → PortLink}
    (hf : ∀ l : PortLink, l.InRange s.cfg.flapLimit → (f l).InRange s.cfg.flapLimit)
    (hstill : ∀ l : PortLink, l.state = .down → (f l).state = .down ∧ (l.flaps = 0 → (f l).flaps = 0)) :
    (s.mapLinks allPorts f).LinksSound := by
  have hlink : ∀ p ∈ allPorts, (s.mapLinks allPorts f).link p = f (s.link p) := fun p hp =>
    (link_mapLinks s nodup_allPorts f p).trans (if_pos hp)
  have hwindow := windows_mapLinks s allPorts f
  obtain ⟨hload, hlow, hhigh, hports⟩ := linksSound_iff.1 h
  refine linksSound_iff.2 ⟨fun hl => ?_, by simpa using hlow, by simpa using hhigh, fun p hp => ?_⟩
  · obtain ⟨h1, h2, h3, hdown⟩ := hload (by simpa using hl)
    refine ⟨hwindow.1.trans h1, hwindow.2.1.trans h2, hwindow.2.2.trans h3, fun p hp => ?_⟩
    rw [hlink p hp]
    exact ⟨(hstill _ (hdown p hp).1).1, (hstill _ (hdown p hp).1).2 (hdown p hp).2⟩
  · rw [hlink p hp]
    simpa using hf _ (hports p hp)

theorem LinksSound.flapReset (h : s.LinksSound) : s.flapReset.LinksSound := by
  have haged : (s.mapLinks allPorts PortLink.ageTick).LinksSound :=
    h.mapLinks (fun l hl => hl.ageTick h.2.1) fun l hl => by simp [PortLink.ageTick, hl]
  unfold State.flapReset
  dsimp only
  split
  · exact haged.of_same (by simp) (by simp) (by simp)
  · exact haged

theorem LinksSound.statusFetch (h : s.LinksSound) (c : Nat) : (s.statusFetch c).LinksSound := by
  unfold State.statusFetch
  split
  · exact h
  · have hclear : s.clearLatches.LinksSound :=
      LinksSound.mapLinks (s := { s with xc := { s.xc with lineFault := false, overrunLatch := false } }) h (fun _ hl => hl)
        fun _ hl => ⟨hl, id⟩
    exact hclear.of_same (by simp) (by simp) (by simp)

theorem LinksSound.windowTick (h : s.LinksSound) : s.windowTick.LinksSound := by
  unfold State.windowTick
  split
  · next n hn =>
    have hended : s.il.state ≠ .loading := fun hl => by simp [(h.1 hl).1] at hn
    split
    · exact ⟨fun hl => absurd hl hended, h.2⟩
    · exact ⟨fun hl => absurd hl hended, h.2⟩
  · exact h

theorem LinksSound.fineTick (h : s.LinksSound) : s.fineTick.LinksSound := by
  have hcounted : s.prescalerTick.windowTick.LinksSound := LinksSound.windowTick (by exact h)
  exact hcounted.of_same (by simp [State.fineTick]) (by simp) (by simp)

theorem LinksSound.endLoad (h : s.LinksSound) (b : List Byte) : (s.endLoad b).LinksSound := by
  obtain ⟨hload, hlow, hhigh, hports⟩ := linksSound_iff.1 h
  have hlimit := clampTo_bounds (show 1 ≤ 15 by decide) (byteAt b 22)
  unfold State.endLoad
  split
  · next hloading =>
    obtain ⟨-, -, -, hdown⟩ := hload hloading
    split
    · refine linksSound_iff.2 ⟨nofun, hlimit.1, hlimit.2, fun p hp => ?_⟩
      obtain ⟨hgood, hstages, herrors, -⟩ := hports p hp
      have hflaps : (s.link p).flaps = 0 := (hdown p hp).2
      have hflap : (s.link p).flaps < clampTo 1 15 (byteAt b 22) := hflaps ▸ hlimit.1
      exact ⟨hgood, hstages, herrors, Nat.le_of_lt hflap, fun _ => hflap⟩
    all_goals exact linksSound_iff.2 ⟨nofun, hlow, hhigh, hports⟩
  · exact h

theorem LinksSound.resetWith (s : State) (straps : Nat) (signals : BitVec 21) : (s.resetWith straps signals).LinksSound := by
  have hlink : ∀ p ∈ allPorts, (s.resetWith straps signals).link p = { PortLink.reset with signal := signals.getLsbD p } :=
    fun p hp => link_resetWith s straps signals hp
  have hlimit : (s.resetWith straps signals).cfg.flapLimit = 1 := rfl
  refine linksSound_iff.2 ⟨fun _ => ⟨rfl, rfl, rfl, fun p hp => ?_⟩, hlimit ▸ Nat.le_refl 1, hlimit ▸ by decide, fun p hp => ?_⟩
  · rw [hlink p hp]; exact ⟨rfl, rfl⟩
  · rw [hlink p hp, hlimit]
    exact ⟨Nat.zero_le _, Nat.zero_le _, Nat.zero_le _, Nat.zero_le _, fun _ => Nat.one_pos⟩

theorem LinksSound.after (h : s.LinksSound) (c : Instr) : (s.after c).LinksSound := by
  have same : ∀ {z : State}, z.LinksSound → z.takeFrame.LinksSound := fun hz => hz.of_same (by simp) (by simp) (by simp)
  have tick : ∀ u, (s.reportTick u).ls = s.ls := fun u => State.reportTick_eq State.ls s u (fun _ _ => rfl) fun z => by
    cases u <;> simp [State.reportAct]
  have age : ∀ u, ∀ {z : State}, z.LinksSound → (z.ageAct u).LinksSound := fun u z hz => by
    cases u with
    | linkSupervisor => exact hz.flapReset
    | addressTable | peerView => exact hz.of_same (by simp [State.ageAct]) (by simp) (by simp)
  have act : ∀ (p : Notice → Bool) {f : State → Notice → State}, (∀ (z : State) n, (f z n).cfg = z.cfg) →
      (∀ (z : State) n, (f z n).il = z.il) → (∀ (z : State) n, (f z n).ls = z.ls) → (s.process p f).LinksSound :=
    fun p f hcfg hil hls => h.of_same (State.process_eq State.ls s rfl (fun n => hls _ n) (by simp)) (by simp [hcfg]) (by simp [hil])
  cases c with
  | reset straps signals => exact LinksSound.resetWith s straps signals
  | imageLoadEnd b => exact h.endLoad b
  | fineTick => exact h.fineTick
  | windowEnd p => exact same (h.takeWindowEnd p)
  | signalPresent p => exact h.of_linkAt (linkAt_setLink s p _) rfl rfl (fun hl => hl) (fun _ => ⟨rfl, rfl⟩)
  | signalLost p => exact same (h.signalGone p)
  | lineCodeError p => exact h.codeError p
  | reportTick u => exact h.of_same (by simp [State.after, tick]) (by simp [State.after]) (by simp [State.after])
  | ageTick u => exact same (State.ageTick_keeps (P := LinksSound) (fun _ _ hz => hz) (fun _ hz => age u hz) h)
  | levelNotice | addressNotice | borrowNotice | grantNotice | withdrawNotice | returnNotice | billFetchPlain
  | billFetchRepeat => exact act _ (by simp) (by simp) (by simp)
  | statusFetch =>
    exact State.process_keeps h (fun _ _ _ => h) (fun n _ _ _ hz => hz.statusFetch _) (fun _ hz => same hz)
  | _ => exact h.of_same (by simp [State.after]) (by simp [State.after]) (by simp [State.after])

end State

end Sys2Proof.Machine
end

section
/-! Ports that are not live stay quiet (R36, R38, R40, R42, R46): what the Egress Scheduler's operations leave of a quiet port, and
the invariant `DeadQuiet`. -/

namespace Sys2Proof.Machine

open Sys2Proof.Config

theorem queueKey_inj {p q c d : Nat} (hc : c ≤ 3) (hd : d ≤ 3) : queueKey p c = queueKey q d ↔ p = q ∧ c = d := by
  unfold queueKey; omega

namespace State

variable {s t u : State}

/-- Nothing is queued on port p and its transmitter is as after reset. -/
def QuietAt (s : State) (p : Nat) : Prop := s.tx p = PortTx.reset ∧ ∀ c ∈ [0, 1, 2, 3], s.queue (queueKey p c) = []

/-- A change that leaves the links, and leaves quiet what was quiet and not live. -/
def Spares (s t : State) : Prop := t.ls = s.ls ∧ ∀ p, s.live p = false → s.QuietAt p → t.QuietAt p

theorem QuietAt.of_es {p : Nat} (h : s.QuietAt p) (hes : t.es = s.es) : t.QuietAt p := by
  unfold QuietAt State.tx State.queue at *
  rwa [hes]

theorem spares_of_es (hls : t.ls = s.ls) (hes : t.es = s.es) : s.Spares t := ⟨hls, fun _ _ h => h.of_es hes⟩

theorem Spares.refl (s : State) : s.Spares s := spares_of_es rfl rfl

theorem Spares.trans (h : s.Spares t) (h' : t.Spares u) : s.Spares u :=
  ⟨h'.1.trans h.1, fun p hp hq => h'.2 p ((live_congr h.1 p).trans hp) (h.2 p hp hq)⟩

theorem spares_setTx {p : Nat} {x : PortTx} (h : s.live p = true ∨ (s.tx p = PortTx.reset → x = PortTx.reset)) :
    s.Spares (s.setTx p x) := by
  refine ⟨rfl, fun q hlive hq => ⟨?_, hq.2⟩⟩
  rw [tx_setTx]
  split
  · next hqp =>
    subst hqp
    exact h.elim (fun hp => absurd hp (by simp [hlive])) (fun hx => hx hq.1)
  · exact hq.1

theorem queue_setTx (s : State) (p q : Nat) (x : PortTx) : (s.setTx p x).queue q = s.queue q := rfl

theorem tx_setQueue (s : State) (p q : Nat) (ds : List Desc) : (s.setQueue q ds).tx p = s.tx p := rfl

theorem spares_setQueue_nil (q : Nat) : s.Spares (s.setQueue q []) :=
  ⟨rfl, fun _ _ hq => ⟨hq.1, fun c hc => by rw [queue_setQueue]; split; rfl; exact hq.2 c hc⟩⟩

theorem spares_setQueue {p c : Nat} (hlive : s.live p = true) (hc : c ≤ 3) (ds : List Desc) :
    s.Spares (s.setQueue (queueKey p c) ds) := by
  refine ⟨rfl, fun q hdead hq => ⟨hq.1, fun d hd => ?_⟩⟩
  have hne : q ≠ p := fun h => by simp [h, hlive] at hdead
  have hd3 : d ≤ 3 := by simp at hd; omega
  rw [queue_setQueue, if_neg (fun h => hne ((queueKey_inj hd3 hc).1 h).1)]
  exact hq.2 d hd

/-- The class queue that a selection reads off. -/
theorem exists_class_of_topCopy {p q : Nat} {d : Desc} {rest : List Desc} (h : s.topCopy p = some (q, d, rest)) :
    ∃ c ≤ 3, q = queueKey p c ∧ s.queue (queueKey p c) = d :: rest := by
  unfold State.topCopy at h
  obtain ⟨c, hc, hhead⟩ := List.exists_of_findSome?_eq_some h
  have hc3 : c ≤ 3 := by simp at hc; omega
  split at hhead
  · next hqueue => cases hhead; exact ⟨c, hc3, rfl, hqueue⟩
  · exact nomatch hhead

theorem spares_select (s : State) (p : Nat) : s.Spares (s.select p) := by
  unfold State.select
  dsimp only
  split
  · next hlive =>
    repeat' split
    · exact .refl s
    · exact spares_setTx (.inl hlive)
    · next htop =>
      obtain ⟨c, hc, rfl, -⟩ := exists_class_of_topCopy htop
      exact (spares_setQueue hlive hc _).trans (spares_setTx (.inl hlive))
    · exact .refl s
    · exact spares_setTx (.inl hlive)
    · exact .refl s
  · exact .refl s

theorem spares_holdRequest (s : State) (p time : Nat) : s.Spares (s.holdRequest p time) := by
  unfold State.holdRequest
  split
  · next hlive => exact (spares_setTx (.inl hlive)).trans (spares_select ..)
  · exact .refl s

theorem spares_endHold (s : State) (p : Nat) : s.Spares (s.endHold p) := by
  unfold State.endHold
  dsimp only
  split
  · next hstate =>
    exact (spares_setTx (.inr fun h => by simp [h, PortTx.reset] at hstate)).trans (spares_select ..)
  · exact spares_setTx (.inr fun h => by simp [h, PortTx.reset])
  · next hstate => exact spares_setTx (.inr fun h => by simp [h, PortTx.reset] at hstate)

theorem spares_receivedHold (s : State) (p time : Nat) : s.Spares (s.receivedHold p time) := by
  unfold State.receivedHold
  split
  · next hlive =>
    split
    · split
      · exact spares_endHold s p
      · exact .refl s
    · exact spares_setTx (.inl hlive)
  · exact .refl s

theorem spares_holdTick (s : State) (p : Nat) : s.Spares (s.holdTick p) := by
  unfold State.holdTick
  dsimp only
  split
  · next hdue =>
    have hnot : s.tx p ≠ PortTx.reset := fun h => by simp [h, PortTx.reset] at hdue
    split
    · split
      · exact spares_endHold s p
      · exact spares_setTx (.inr fun h => absurd h hnot)
    · exact spares_setTx (.inr fun h => absurd h hnot)
  · exact .refl s

theorem spares_copyEnds (s : State) (p : Nat) : s.Spares (s.copyEnds p) := by
  unfold State.copyEnds
  split
  · next d hstate =>
    have hrelease : s.Spares (s.release d .transmitted) := spares_of_es rfl rfl
    exact (hrelease.trans (spares_setTx (.inr fun h => by
      have htx : s.tx p = PortTx.reset := h
      simp [htx, PortTx.reset] at hstate))).trans (spares_select ..)
  all_goals exact .refl s

theorem spares_holdEnds (s : State) (p : Nat) : s.Spares (s.holdEnds p) := by
  unfold State.holdEnds
  split
  · next hstate =>
    exact (spares_setTx (.inr fun h => by simp [h, PortTx.reset] at hstate)).trans (spares_select ..)
  all_goals exact .refl s

theorem spares_flushQueue (s : State) (q : Nat) : s.Spares (s.flushQueue q) :=
  (spares_setQueue_nil q).trans
    (foldl_induct (f := State.releaseFlushed) (P := fun z => (s.setQueue q []).Spares z)
      (fun _ _ hz => hz.trans (spares_of_es rfl rfl)) (s.queue q) (.refl _))

theorem spares_flushQueues (s : State) (p : Nat) : s.Spares (s.flushQueues p) :=
  (((spares_flushQueue ..).trans (spares_flushQueue ..)).trans (spares_flushQueue ..)).trans (spares_flushQueue ..)

theorem queue_flushQueue (s : State) (q r : Nat) : (s.flushQueue q).queue r = if r = q then [] else s.queue r :=
  foldl_induct (f := State.releaseFlushed) (P := fun z => z.queue r = if r = q then [] else s.queue r)
    (fun _ _ hz => hz) (s.queue q) (queue_setQueue s q r [])

theorem queue_flushQueues (s : State) (p r : Nat) :
    (s.flushQueues p).queue r = if r ∈ [queueKey p 0, queueKey p 1, queueKey p 2, queueKey p 3] then [] else s.queue r := by
  simp only [State.flushQueues, queue_flushQueue, List.mem_cons, List.not_mem_nil, or_false]
  split
  · simp [*]
  · split
    · simp [*]
    · split
      · simp [*]
      · simp [*]

theorem tx_flushQueue (s : State) (q p : Nat) : (s.flushQueue q).tx p = s.tx p :=
  foldl_induct (f := State.releaseFlushed) (P := fun z => z.tx p = s.tx p) (fun _ _ hz => hz) (s.queue q) rfl

theorem tx_flushQueues (s : State) (p q : Nat) : (s.flushQueues p).tx q = s.tx q := by
  simp only [State.flushQueues, tx_flushQueue]

@[simp] theorem truncate_es (s : State) (p : Nat) : (s.truncate p).es = s.es := by
  unfold State.truncate
  split <;> rfl

theorem spares_linkLoss (s : State) (p : Nat) : s.Spares (s.linkLoss p) :=
  ((spares_of_es (by simp) (by simp) : s.Spares (s.truncate p)).trans (spares_flushQueues ..)).trans
    (spares_setTx (.inr fun _ => rfl))

theorem quietAt_linkLoss (s : State) (p : Nat) : (s.linkLoss p).QuietAt p := by
  unfold State.linkLoss
  refine ⟨by rw [tx_setTx, if_pos rfl], fun c hc => ?_⟩
  rw [queue_setTx, queue_flushQueues, if_pos]
  simp only [List.mem_cons, List.not_mem_nil, or_false] at hc ⊢
  rcases hc with rfl | rfl | rfl | rfl <;> simp

theorem spares_compareHold (s : State) (p : Nat) : s.Spares (s.compareHold p) := by
  unfold State.compareHold
  dsimp only
  split
  · exact (spares_of_es rfl rfl : s.Spares (s.setHold p _)).trans (spares_holdRequest ..)
  · split
    · exact (spares_of_es rfl rfl : s.Spares (s.setHold p _)).trans (spares_holdRequest ..)
    · exact .refl s

theorem spares_each {f : State → Nat → State} (hf : ∀ (z : State) p, z.Spares (f z p)) (s : State) (ps : List Nat) :
    s.Spares (s.each ps f) :=
  foldl_induct (f := f) (P := fun z => s.Spares z) (fun z p hz => hz.trans (hf z p)) ps (.refl s)

theorem spares_compareHolds (s : State) : s.Spares s.compareHolds := spares_each spares_compareHold s accessPorts

theorem spares_mapTx (s : State) {f : PortTx → PortTx} (hf : f PortTx.reset = PortTx.reset) (ps : List Nat) :
    s.Spares (s.mapTx ps f) :=
  spares_each (fun _ _ => spares_setTx (.inr fun h => by rw [h, hf])) s ps

theorem spares_egressTick (s : State) : s.Spares s.egressTick :=
  (spares_mapTx s rfl allPorts).trans (spares_each spares_flushQueues _ _)

theorem spares_placeCopy (s : State) {d : Desc} (hd : d.cls ≤ 3) : s.Spares (s.placeCopy d) := by
  unfold State.placeCopy
  split
  · next hlive => exact (spares_setQueue hlive hd _).trans (spares_select ..)
  · exact spares_of_es rfl rfl

theorem spares_placeCopies (s : State) {ds : List Desc} (hds : ∀ d ∈ ds, d.cls ≤ 3) : s.Spares (ds.foldl State.placeCopy s) := by
  induction ds generalizing s with
  | nil => exact .refl s
  | cons d ds ih =>
    exact (spares_placeCopy s (hds d (by simp))).trans (ih _ fun e he => hds e (by simp [he]))

theorem spares_admitArrival (s : State) {a : Arrival} (ha : a.cls ≤ 3) : s.Spares (s.admitArrival a) := by
  have hadmit : ∀ w, s.Spares (((s.withinLimits a).map (descOf s.bm.nextFrame a.cls)).foldl State.placeCopy
      { s with bm := s.bm.admitFrame a (s.withinLimits a) w }) := fun w =>
    (spares_of_es rfl rfl : s.Spares { s with bm := s.bm.admitFrame a (s.withinLimits a) w }).trans
      (spares_placeCopies _ fun d hd => by
        obtain ⟨e, -, rfl⟩ := List.mem_map.1 hd
        exact ha)
  unfold State.admitArrival
  dsimp only
  split
  · split
    · exact .refl s
    · exact spares_of_es rfl rfl
  · exact hadmit _

theorem spares_fineTick (s : State) : s.prescalerTick.windowTick.Spares s.fineTick :=
  (spares_mapTx _ (f := PortTx.fineTick) rfl allPorts).trans (spares_of_es (by simp [State.fineTick]) (by simp [State.fineTick]))

theorem spares_evaluateTenants (s : State) : s.Spares s.evaluateTenants := by
  unfold State.evaluateTenants
  dsimp only
  split
  · exact spares_of_es rfl rfl
  · exact (spares_of_es rfl rfl : s.Spares { s with rc := { s.rc with held := tenants.filter s.heldAfter } }).trans
      (spares_compareHolds _)

theorem spares_takeChange (s : State) (c : Change) : s.Spares (s.takeChange c) := by
  have hstages : s.Spares (if c.measure.isSome then { s with rc := s.rc.store c }.evaluateStages
      else { s with rc := s.rc.store c }) := by
    split
    · exact spares_of_es (by simp) (by simp)
    · exact spares_of_es rfl rfl
  unfold State.takeChange
  dsimp only
  split
  · exact hstages.trans (spares_evaluateTenants _)
  · exact hstages

theorem spares_nextChange (s : State) : s.Spares s.nextChange := by
  unfold State.nextChange
  split
  · next c rest _ =>
    exact (spares_of_es rfl rfl : s.Spares { s with bm := { s.bm with changes := rest } }).trans (spares_takeChange ..)
  · exact .refl s

theorem spares_renewTick (s : State) (p : Nat) : s.Spares (s.renewTick p) := by
  unfold State.renewTick
  dsimp only
  split
  · split
    · split
      · exact (spares_of_es rfl rfl : s.Spares (s.setHold p _)).trans (spares_holdRequest ..)
      · exact spares_of_es rfl rfl
    · exact spares_of_es rfl rfl
  · exact .refl s

theorem spares_faultReports (s : State) (p : Nat) : s.Spares (s.faultReports p) := by
  unfold State.faultReports
  split
  · have hreset : s.Spares ({ s with tab := s.tab.retirePort p }.setHold p PortHold.reset) := spares_of_es rfl rfl
    exact hreset.trans (spares_compareHolds _)
  · exact spares_of_es (by simp) (by simp)
  · exact spares_of_es (by simp) (by simp)

theorem spares_upReports (s : State) (p : Nat) : s.Spares (s.upReports p) := by
  unfold State.upReports
  split
  · exact (spares_select s p).trans (spares_compareHolds _)
  · exact (spares_select s p).trans (spares_of_es (by simp) (by simp))
  · exact (spares_select s p).trans (spares_of_es (by simp) (by simp))

/-! ## Every port that is not live is quiet -/

/-- Every port that is not live is quiet. -/
def Hushed (s : State) : Prop := ∀ p ∈ allPorts, s.live p = false → s.QuietAt p

theorem Hushed.spared (h : s.Hushed) (ht : s.Spares t) : t.Hushed := fun p hp hdead =>
  have hdead' : s.live p = false := (live_congr ht.1 p).symm.trans hdead
  ht.2 p hdead' (h p hp hdead')

/-- A change of one port's link that no live port leaves by. -/
theorem Hushed.setLink (h : s.Hushed) {p : Nat} {l : PortLink} (hl : l.state.isLive = false → s.live p = false) :
    (s.setLink p l).Hushed := by
  intro q hq hdead
  refine h q hq ?_
  unfold State.live at hdead hl ⊢
  rw [link_setLink] at hdead
  split at hdead
  · next hqp => subst hqp; exact hl hdead
  · exact hdead

theorem Hushed.of_same (h : s.Hushed) (hls : t.ls = s.ls) (hes : t.es = s.es) : t.Hushed := h.spared (spares_of_es hls hes)

theorem Hushed.of_ports (h : s.Hushed) (hports : t.ls.ports = s.ls.ports) (hes : t.es = s.es) : t.Hushed := fun p hp hdead => by
  have hdead' : s.live p = false := by
    unfold State.live State.link at *
    rwa [hports] at hdead
  exact (h p hp hdead').of_es hes

theorem Hushed.endLoad (h : s.Hushed) (b : List Byte) : (s.endLoad b).Hushed := by
  refine h.of_ports ?_ (by simp)
  unfold State.endLoad
  split
  · split <;> rfl
  · rfl

theorem Hushed.linkFault (h : s.Hushed) (p : Nat) : (s.linkFault p).Hushed := by
  have hspares : ∀ l, (s.setLink p l).Spares (((s.setLink p l).cutReception p).linkLoss p) := fun l =>
    (spares_of_es rfl rfl : (s.setLink p l).Spares ((s.setLink p l).cutReception p)).trans (spares_linkLoss ..)
  have hlost : (((s.setLink p ((s.link p).faulted s.cfg.flapLimit)).cutReception p).linkLoss p).Hushed := by
    intro q hq hdead
    by_cases hqp : q = p
    · subst hqp; exact quietAt_linkLoss ..
    · have hother : ∀ l, (s.setLink p l).live q = s.live q := fun l => by
        unfold State.live; rw [link_setLink, if_neg hqp]
      have hdead' := (live_congr (hspares _).1 q).symm.trans hdead
      exact (hspares _).2 q hdead' ((h q hq ((hother _).symm.trans hdead')).of_es rfl)
  exact hlost.spared (spares_faultReports ..)

theorem Hushed.judged (h : s.Hushed) (p : Nat) (bad : Bool) : (s.judged p bad).Hushed := by
  have hchanged : ∀ {l : PortLink}, (l.state.isLive = false → s.live p = false) →
      ((s.setLink p l).uplinkChanged p).Hushed := fun hl => (h.setLink hl).of_same (by simp) (by simp)
  have hup : ∀ {l : PortLink}, l.state.isLive = true → l.state.isLive = false → s.live p = false := fun h h' => by
    simp [h] at h'
  unfold State.judged
  dsimp only
  split
  · next hstate =>
    split
    · exact hchanged fun _ => by simp [State.live, hstate, LinkState.isLive]
    · exact h
  · next hstate =>
    have hdead : s.live p = false := by simp [State.live, hstate, LinkState.isLive]
    split
    · exact h.setLink fun _ => hdead
    · have hcounted : (s.setLink p (s.link p).countGood).Hushed := h.setLink fun _ => hdead
      split
      · exact (hcounted.setLink fun h => by simp [LinkState.isLive] at h).spared (spares_upReports ..)
      · exact hcounted
  · split
    · exact hchanged (hup rfl)
    · exact h
  · split
    · exact h.linkFault p
    · exact hchanged (hup rfl)
  · exact h

theorem Hushed.judgeWindow (h : s.Hushed) (p : Nat) : (s.judgeWindow p).Hushed :=
  Hushed.judged (h.setLink (l := (s.link p).nextWindow) id) p _

theorem Hushed.takeWindowEnd (h : s.Hushed) (p : Nat) : (s.takeWindowEnd p).Hushed := by
  unfold State.takeWindowEnd
  split
  · exact Hushed.judgeWindow (by exact h) p
  · split
    · exact Hushed.judgeWindow (by exact h) p
    · exact h

theorem Hushed.signalGone (h : s.Hushed) (p : Nat) : (s.signalGone p).Hushed := by
  have hset : ∀ {l : PortLink}, l.state = (s.link p).state → (s.setLink p l).Hushed := fun hl =>
    h.setLink fun hdead => by rw [State.live, ← hl]; exact hdead
  unfold State.signalGone
  dsimp only
  split
  · split
    · exact hset rfl
    · exact hset rfl
    · next hstate =>
      have hlost : (s.setLink p { s.link p with signal := false, lossMark := true }).Hushed := hset rfl
      have hdown := hlost.setLink (p := p) (l := { s.link p with
        signal := false, lossMark := true, state := .down, good := 0, stages := 0 }) fun _ => by
        simp [State.live, link_setLink, hstate, LinkState.isLive]
      generalize State.setLink _ p _ = z at hdown ⊢
      exact hdown.of_same (by simp) (by simp)
    · exact Hushed.linkFault (by exact hset rfl) p
    · exact Hushed.linkFault (by exact hset rfl) p
  · exact hset rfl

theorem Hushed.mapLinks (h : s.Hushed) {f : PortLink → PortLink} (hf : ∀ l, (f l).state.isLive = l.state.isLive) (ps : List Nat) :
    (s.mapLinks ps f).Hushed :=
  foldl_induct (f := fun (z : State) p => z.setLink p (f (z.link p))) (P := Hushed)
    (fun z _ hz => hz.setLink fun hdead => by rw [hf] at hdead; exact hdead) ps h

theorem Hushed.flapReset (h : s.Hushed) : s.flapReset.Hushed := by
  have haged : (s.mapLinks allPorts PortLink.ageTick).Hushed := h.mapLinks (fun l => by
    unfold PortLink.ageTick; split <;> simp [*, LinkState.isLive]) allPorts
  unfold State.flapReset
  dsimp only
  split
  · exact haged.of_same (by simp) (by simp)
  · exact haged

theorem Hushed.clearLatches (h : s.Hushed) : s.clearLatches.Hushed := by
  have hline : State.Hushed { s with xc := { s.xc with lineFault := false, overrunLatch := false } } := h
  exact hline.mapLinks (f := fun l => { l with latch := false }) (fun _ => rfl) allPorts

theorem Hushed.statusFetch (h : s.Hushed) (c : Nat) : (s.statusFetch c).Hushed := by
  unfold State.statusFetch
  split
  · exact h
  · exact h.clearLatches.of_same (by simp) (by simp)

theorem Hushed.fineTick (h : s.Hushed) : s.fineTick.Hushed := by
  have hcounted : s.prescalerTick.windowTick.Hushed := by
    refine h.of_ports ?_ (by simp)
    unfold State.windowTick
    split
    · split <;> rfl
    · rfl
  exact hcounted.spared (spares_fineTick s)

theorem Hushed.resetWith (s : State) (straps : Nat) (signals : BitVec 21) : (s.resetWith straps signals).Hushed :=
  fun _ _ _ => ⟨rfl, fun _ _ => rfl⟩

/-! ## Classes (R7, R9) -/

/-- Every arrival record and every entry of the class map has a class of 0 to 3. -/
def Classed (s : State) : Prop := (∀ a ∈ s.iu.arrivals, a.cls ≤ 3) ∧ ∀ c ∈ s.cfg.classMap, c ≤ 3

theorem deadQuiet_iff : s.DeadQuiet ↔ s.Hushed ∧ s.Classed := Iff.rfl

theorem Classed.of_same (h : s.Classed) (harr : t.iu.arrivals = s.iu.arrivals) (hcfg : t.cfg = s.cfg) : t.Classed := by
  unfold Classed at *; rwa [harr, hcfg]

theorem Classed.forward (h : s.Classed) {cls : Nat} (hcls : cls ≤ 3) (kind : ArrivalKind) (p tenant : Nat) (frame : List Byte)
    (borrowed flood : Bool) : (s.forward kind p tenant cls frame borrowed flood).Classed := by
  refine ⟨fun a ha => ?_, h.2⟩
  rcases List.mem_append.1 ha with hold | hnew
  · exact h.1 a hold
  · rw [List.mem_singleton.1 hnew]; exact hcls

theorem Classed.classOf_le (h : s.Classed) (n : Nat) : s.cfg.classMap.getD n 0 ≤ 3 := by
  rw [List.getD_eq_getElem?_getD]
  cases hget : s.cfg.classMap[n]? with
  | none => exact Nat.zero_le _
  | some c => exact h.2 c (List.mem_of_getElem? hget)

theorem Classed.classify (h : s.Classed) (p : Nat) (frame : List Byte) : (s.classify p frame).Classed := by
  unfold State.classify
  split
  · exact h
  · dsimp only
    split
    · exact Classed.forward (by exact h) (h.classOf_le _) ..
    · exact h.forward (h.classOf_le _) ..

theorem Classed.controlFrame (h : s.Classed) (p : Nat) (frame : List Byte) : (s.controlFrame p frame).Classed := by
  unfold State.controlFrame
  split
  · exact h.of_same (by simp) (by simp)
  · exact h

theorem readHeader_cls_le (bs : List Byte) : (readHeader bs).cls ≤ 3 :=
  Nat.lt_succ_iff.1 (Nat.mod_lt (byteAt bs 2) (show 0 < 4 by decide))

theorem Classed.checkFrame (h : s.Classed) (p : Nat) (bytes : List Byte) : (s.checkFrame p bytes).Classed := by
  unfold State.checkFrame
  split
  · unfold State.receiveCross
    split
    · split
      · exact h
      · exact h.controlFrame ..
    · dsimp only
      split
      · exact h
      · exact h.forward (readHeader_cls_le bytes) ..
  · unfold State.receivePlain
    split
    · exact h
    · split
      · exact h.controlFrame ..
      · exact h.classify ..

theorem Classed.receiveFrame (h : s.Classed) (p : Nat) (frame : ReceivedFrame) : (s.receiveFrame p frame).Classed := by
  have hidle : ∀ i, (s.setIntake p i).Classed := fun _ => h
  unfold State.receiveFrame
  dsimp only
  split
  · exact (hidle _).checkFrame ..
  · exact h
  · split
    · exact (hidle _).checkFrame ..
    · exact h
  · exact h

theorem takeArrival_mem {p : Nat} {as rest : List Arrival} {a : Arrival} (h : takeArrival p as = some (a, rest)) :
    a ∈ as ∧ rest ⊆ as := by
  induction as generalizing rest with
  | nil => exact nomatch h
  | cons b as ih =>
    unfold takeArrival at h
    split at h
    · cases h; exact ⟨by simp, by simp⟩
    · split at h
      · next heq =>
        cases h
        obtain ⟨ha, hrest⟩ := ih heq
        exact ⟨by simp [ha], List.cons_subset_cons _ hrest⟩
      · exact nomatch h

theorem spares_admitFrom (h : s.Classed) (p : Nat) : s.Spares (s.admitFrom p) := by
  unfold State.admitFrom
  split
  · next a rest htake =>
    exact (spares_of_es rfl rfl : s.Spares { s with iu := { s.iu with arrivals := rest } }).trans
      (spares_admitArrival _ (h.1 a (takeArrival_mem htake).1))
  · exact .refl s

theorem Classed.admitFrom (h : s.Classed) (p : Nat) : (s.admitFrom p).Classed := by
  unfold State.admitFrom
  split
  · next a rest htake =>
    have hrest : State.Classed { s with iu := { s.iu with arrivals := rest } } :=
      ⟨fun b hb => h.1 b ((takeArrival_mem htake).2 hb), h.2⟩
    exact hrest.of_same (by simp) (by simp)
  · exact h

theorem Classed.endLoad (h : s.Classed) (b : List Byte) : (s.endLoad b).Classed := by
  unfold State.endLoad
  split
  · split
    · refine ⟨h.1, fun c hc => ?_⟩
      obtain ⟨i, -, rfl⟩ := List.mem_map.1 hc
      exact Nat.min_le_right ..
    all_goals exact h
  · exact h

theorem spares_receiveFrame (s : State) (p : Nat) (frame : ReceivedFrame) : s.Spares (s.receiveFrame p frame) := by
  have hcontrol : ∀ (z : State) bytes, z.Spares (z.controlFrame p bytes) := fun z bytes => by
    unfold State.controlFrame
    split
    · exact spares_receivedHold ..
    · exact spares_of_es rfl rfl
  have hcheck : ∀ (z : State) bytes, z.Spares (z.checkFrame p bytes) := fun z bytes => by
    unfold State.checkFrame
    split
    · unfold State.receiveCross
      split
      · split
        · exact spares_of_es rfl rfl
        · exact hcontrol ..
      · dsimp only
        split <;> exact spares_of_es rfl rfl
    · unfold State.receivePlain
      split
      · exact spares_of_es rfl rfl
      · split
        · exact hcontrol ..
        · exact spares_of_es (by simp) (by simp)
  have hidle : ∀ i, s.Spares (s.setIntake p i) := fun _ => spares_of_es rfl rfl
  unfold State.receiveFrame
  dsimp only
  split
  · exact (hidle _).trans (hcheck ..)
  · exact hidle _
  · split
    · exact (hidle _).trans (hcheck ..)
    · exact hidle _
  · exact .refl s

@[simp] theorem linkFault_arrivals (s : State) (p : Nat) : (s.linkFault p).iu.arrivals = s.iu.arrivals := by
  simp [State.linkFault, State.cutReception, State.setIntake]

@[simp] theorem judged_arrivals (s : State) (p : Nat) (bad : Bool) : (s.judged p bad).iu.arrivals = s.iu.arrivals := by
  unfold State.judged
  dsimp only
  repeat' split
  all_goals simp

@[simp] theorem takeWindowEnd_arrivals (s : State) (p : Nat) : (s.takeWindowEnd p).iu.arrivals = s.iu.arrivals := by
  unfold State.takeWindowEnd State.judgeWindow
  repeat' split
  all_goals simp

@[simp] theorem signalGone_arrivals (s : State) (p : Nat) : (s.signalGone p).iu.arrivals = s.iu.arrivals := by
  unfold State.signalGone
  dsimp only
  repeat' split
  all_goals simp

/-- Only the end of a reception, an admission and RESET change the arrival records. -/
theorem after_arrivals (s : State) (c : Instr) (hreset : ∀ n v, c ≠ .reset n v) (hframe : ∀ p f, c ≠ .frameReception p f)
    (hadmit : ∀ p, c ≠ .admission p) : (s.after c).iu.arrivals = s.iu.arrivals := by
  have tick : ∀ u, (s.reportTick u).iu = s.iu := fun u => State.reportTick_eq State.iu s u (fun _ _ => rfl) fun z => by
    cases u <;> simp [State.reportAct]
  have age : ∀ u, (s.ageTick u).iu = s.iu := fun u => State.ageTick_eq State.iu s u (fun _ _ => rfl) fun z => by
    cases u <;> simp [State.ageAct]
  have act : ∀ (p : Notice → Bool) {f : State → Notice → State}, (∀ (z : State) n, (f z n).iu = z.iu) →
      (s.process p f).iu.arrivals = s.iu.arrivals := fun p f hiu =>
    congrArg IntakeUnit.arrivals (State.process_eq State.iu s rfl (fun n => hiu _ n) (by simp))
  cases c with
  | reset n v => exact absurd rfl (hreset n v)
  | frameReception p f => exact absurd rfl (hframe p f)
  | admission p => exact absurd rfl (hadmit p)
  | levelNotice | addressNotice | borrowNotice | grantNotice | withdrawNotice | returnNotice | billFetchPlain
  | billFetchRepeat | statusFetch => exact act _ (by simp)
  | reportTick u => simp [State.after, tick]
  | ageTick u => simp [State.after, age]
  | receptionBegins p => rfl
  | _ => simp [State.after]

theorem DeadQuiet.after (h : s.DeadQuiet) (c : Instr) : (s.after c).DeadQuiet := by
  obtain ⟨hush, hclass⟩ := deadQuiet_iff.1 h
  have tick : ∀ u, ∀ {z : State}, z.Hushed → (z.reportAct u).Hushed := fun u z hz => by
    cases u with
    | egressScheduler => exact hz.spared (spares_egressTick z)
    | _ => exact hz.of_same (by simp [State.reportAct]) (by simp [State.reportAct])
  have age : ∀ u, ∀ {z : State}, z.Hushed → (z.ageAct u).Hushed := fun u z hz => by
    cases u with
    | linkSupervisor => exact hz.flapReset
    | addressTable | peerView => exact hz.of_same (by simp [State.ageAct]) (by simp [State.ageAct])
  have take : ∀ {z : State}, z.Hushed → z.takeFrame.Hushed := fun hz => hz.of_same (by simp) (by simp)
  have act : ∀ (p : Notice → Bool) {f : State → Notice → State}, (∀ (z : State) n, (f z n).ls = z.ls) →
      (∀ (z : State) n, (f z n).es = z.es) → (s.process p f).Hushed := fun p f hls hes =>
    hush.of_same (State.process_eq State.ls s rfl (fun n => hls _ n) (by simp))
      (State.process_eq State.es s rfl (fun n => hes _ n) (by simp))
  refine deadQuiet_iff.2 ⟨?_, ?_⟩
  · cases c with
    | reset straps signals => exact Hushed.resetWith s straps signals
    | imageLoadEnd b => exact hush.endLoad b
    | fineTick => exact hush.fineTick
    | windowEnd p => exact take (hush.takeWindowEnd p)
    | signalPresent p => exact hush.setLink id
    | signalLost p => exact take (hush.signalGone p)
    | lineCodeError p =>
      simp only [State.after, State.codeError]
      split
      · exact hush.setLink id
      · exact hush
    | reportTick u => exact take (State.reportTick_keeps (fun _ _ hz => hz) (fun _ hz => tick u hz) hush)
    | heldLimitFlush p =>
      exact take (State.reportTickIf_keeps (fun _ _ hz => hz) (fun _ hz => tick _ hz) _ hush)
    | ageTick u => exact take (State.ageTick_keeps (fun _ _ hz => hz) (fun _ hz => age u hz) hush)
    | frameReception p frame => exact take (hush.spared (spares_receiveFrame ..))
    | admission p => exact hush.spared (spares_admitFrom hclass p)
    | copyTransmitted p => exact hush.spared (spares_copyEnds s p)
    | holdFrameEnd p => exact hush.spared (spares_holdEnds s p)
    | receivedHoldTimerExpiry p => exact hush.spared (spares_holdTick s p)
    | renewTimerExpiry p => exact hush.spared (spares_renewTick s p)
    | changeEvent => exact take (hush.spared (spares_nextChange s))
    | levelNotice | addressNotice | borrowNotice | grantNotice | withdrawNotice | returnNotice | billFetchPlain
    | billFetchRepeat => exact act _ (by simp) (by simp)
    | statusFetch =>
      exact State.process_keeps hush (fun _ _ _ => hush) (fun n _ _ _ hz => hz.statusFetch _) (fun _ hz => take hz)
    | _ => exact hush.of_same (by simp [State.after]) (by simp [State.after])
  · cases c with
    | reset straps signals =>
      refine ⟨nofun, fun c hc => ?_⟩
      have hzero : c ∈ [0, 0, 0, 0, 0, 0, 0, 0] := hc
      simp at hzero
      omega
    | imageLoadEnd b => exact hclass.endLoad b
    | frameReception p frame =>
      have hkept : (s.receiveFrame p frame).takeFrame.Classed := (hclass.receiveFrame p frame).of_same (by simp) (by simp)
      exact hkept
    | admission p => exact hclass.admitFrom p
    | _ => exact hclass.of_same (after_arrivals s _ nofun nofun nofun) (by simp [State.after])

end State

/-- Settles O15: the ranges go by the links, port by port; the quiet of the ports that are not live by what each operation of the
Egress Scheduler spares. -/
theorem linksKeptAndDeadPortsQuiet : Obligations.LinksKeptAndDeadPortsQuiet := by
  unfold Obligations.LinksKeptAndDeadPortsQuiet
  exact ⟨fun _ _ h hstep => step_keeps (P := State.LinksSound) (fun _ _ hz => hz) (fun _ c hz => hz.after c) h hstep,
    fun _ _ h hstep => step_keeps (P := State.DeadQuiet) (fun _ _ hz => hz) (fun _ c hz => hz.after c) h hstep⟩

end Sys2Proof.Machine
end

section
/-! The reports of the receivers (R49, R52), the selection (R38), the fine tick and the time base (R164, R165), and the state after
reset. -/

namespace Sys2Proof.Machine

open Sys2Proof.Config

namespace State

variable {s t : State}

/-! ## Receiver reports -/

theorem codeError_of_configured (h : s.il.state = .configured) (p : Nat) : s.codeError p =
    s.setLink p { s.link p with errors := if (s.link p).errors < 255 then (s.link p).errors + 1 else (s.link p).errors } :=
  if_pos (configured_iff.2 h)

theorem codeError_of_not_configured (h : s.il.state ≠ .configured) (p : Nat) : s.codeError p = s :=
  if_neg (mt configured_iff.1 h)

theorem signalGone_of_dead (h : s.il.state = .configured) {p : Nat} (hdead : (s.link p).state = .down ∨ (s.link p).state = .heldDown) :
    s.signalGone p = s.setLink p { s.link p with signal := false, lossMark := true } := by
  unfold State.signalGone
  rw [if_pos (configured_iff.2 h)]
  dsimp only
  split
  · rfl
  · rfl
  all_goals next hstate => simp [hstate] at hdead

theorem signalGone_of_qualifying (h : s.il.state = .configured) {p : Nat} (hq : (s.link p).state = .qualifying) :
    s.signalGone p = ((s.setLink p { s.link p with signal := false, lossMark := true }).setLink p
      { s.link p with signal := false, lossMark := true, state := .down, good := 0, stages := 0 }).uplinkChanged p := by
  unfold State.signalGone
  rw [if_pos (configured_iff.2 h)]
  dsimp only
  split
  · next hstate => simp [hstate] at hq
  · next hstate => simp [hstate] at hq
  · rfl
  all_goals next hstate => simp [hstate] at hq

end State

/-- Settles O12: each report writes the record of its port, by the image state and the link state. -/
theorem receiverReportsRecorded : Obligations.ReceiverReportsRecorded := by
  unfold Obligations.ReceiverReportsRecorded
  intro s p
  dsimp only
  refine ⟨rfl, fun hconf herrors => ?_, fun hconf hdead => ?_, fun hconf hqual => ?_, fun hconf => ⟨?_, ?_⟩⟩
  · refine congrArg Host.Outcome.next ((State.codeError_of_configured hconf _).trans ?_)
    have hcount : (if (s.link p).errors < 255 then (s.link p).errors + 1 else (s.link p).errors) =
        min 255 ((s.link p).errors + 1) := by split <;> omega
    rw [hcount]
  · exact congrArg (fun z : State => Host.Outcome.next z.takeFrame) (State.signalGone_of_dead hconf hdead)
  · refine ⟨_, congrArg (fun z : State => Host.Outcome.next z.takeFrame) (State.signalGone_of_qualifying hconf hqual), ?_, ?_, ?_⟩
    · exact State.eq_iff.2 (by simp)
    · rw [State.link_congr (State.uplinkChanged_frame _ _).2.2.2.1, State.link_setLink, if_pos rfl]
    · intro q hq
      rw [State.link_congr (State.uplinkChanged_frame _ _).2.2.2.1, State.link_setLink, if_neg hq, State.link_setLink, if_neg hq]
  · exact congrArg Host.Outcome.next (State.codeError_of_not_configured hconf _)
  · exact congrArg (fun z : State => Host.Outcome.next z.takeFrame) (State.signalGone_of_not_configured hconf _)

/-! ## Selection -/

namespace State

variable {z : State} {p : Nat}

theorem holdEnds_of_sending {n : Nat} (h : (z.tx p).state = .sending (.hold n)) :
    z.holdEnds p = (z.setTx p (z.tx p).afterFrame).select p := by
  unfold State.holdEnds
  split
  · rfl
  all_goals next hstate => simp [hstate] at h

theorem select_of_not_live (h : z.live p = false) : z.select p = z := if_neg (by simp [h])

theorem select_of_sending {f : Flight} (h : (z.tx p).state = .sending f) : z.select p = z := by
  unfold State.select
  dsimp only
  split
  · split
    · rfl
    all_goals next hstate => simp [hstate] at h
  · rfl

theorem select_of_pending (hlive : z.live p = true) (hfree : (z.tx p).state = .idle ∨ (z.tx p).state = .held) {n : Nat}
    (hn : (z.tx p).pendingHold = some n) :
    z.select p = z.setTx p { z.tx p with state := .sending (.hold n), pendingHold := none } := by
  unfold State.select
  rw [if_pos hlive]
  dsimp only
  split
  · next hstate => simp [hstate] at hfree
  · split
    · next m hm => cases hn.symm.trans hm; rfl
    · next hnone => simp [hn] at hnone
  · split
    · next m hm => cases hn.symm.trans hm; rfl
    · next hnone => simp [hn] at hnone

theorem select_of_held (hheld : (z.tx p).state = .held) (hn : (z.tx p).pendingHold = none) : z.select p = z := by
  unfold State.select
  dsimp only
  split
  · split
    · rfl
    · next hstate => simp [hstate] at hheld
    · split
      · next m hm => simp [hn] at hm
      · rfl
  · rfl

/-- An IDLE transmitter with no hold frame to send takes what the class queues give. -/
theorem select_of_idle (hlive : z.live p = true) (hidle : (z.tx p).state = .idle) (hn : (z.tx p).pendingHold = none) :
    (∀ q d rest, z.topCopy p = some (q, d, rest) →
      z.select p = (z.setQueue q rest).setTx p { z.tx p with state := .sending (.copy d) }) ∧
    (z.topCopy p = none → z.select p = z) := by
  unfold State.select
  rw [if_pos hlive]
  dsimp only
  split
  · next hstate => simp [hstate] at hidle
  · split
    · next m hm => simp [hn] at hm
    · split
      · next htop =>
        refine ⟨fun q' d' rest' h => ?_, fun h => ?_⟩
        · cases htop.symm.trans h; rfl
        · cases htop.symm.trans h
      · next htop => exact ⟨fun q d rest h => (nomatch htop.symm.trans h), fun _ => rfl⟩
  · next hstate => simp [hstate] at hidle

/-- The highest class with a copy is the one taken. -/
theorem topCopy_of_first {c : Nat} (hc : c < 4) (hempty : ∀ e < 4, c < e → z.queue (queueKey p e) = []) {d : Desc} {rest : List Desc}
    (hd : z.queue (queueKey p c) = d :: rest) : z.topCopy p = some (queueKey p c, d, rest) := by
  have hcases : c = 3 ∨ c = 2 ∨ c = 1 ∨ c = 0 := by omega
  unfold State.topCopy
  rcases hcases with rfl | rfl | rfl | rfl <;> simp [hd, hempty 3, hempty 2, hempty 1]

theorem topCopy_of_empty (hempty : ∀ e < 4, z.queue (queueKey p e) = []) : z.topCopy p = none := by
  simp [State.topCopy, hempty 3, hempty 2, hempty 1, hempty 0]

end State

/-- Settles O24: a selection goes by the pending hold frame, then by the classes from 3 down. -/
theorem selectionByPriority : Obligations.SelectionByPriority := by
  unfold Obligations.SelectionByPriority
  refine ⟨fun s p n hsend => ?_, fun z p hlive hfree => ⟨fun n hn => ?_, fun hn hheld => ?_, fun hn hidle c hc hempty => ⟨?_, ?_⟩⟩, ?_⟩
  · refine congrArg Host.Outcome.next ((State.holdEnds_of_sending hsend).trans ?_)
    have hstate : (if (s.tx p).rxHold.isSome then TxState.held else .idle) = if (s.tx p).rxHold = none then .idle else .held := by
      cases (s.tx p).rxHold <;> rfl
    unfold PortTx.afterFrame
    rw [hstate]
  · exact State.select_of_pending hlive hfree hn
  · exact State.select_of_held hheld hn
  · intro d rest hd
    exact (State.select_of_idle hlive hidle hn).1 _ _ _ (State.topCopy_of_first hc hempty hd)
  · intro hzero hnone
    refine (State.select_of_idle hlive hidle hn).2 (State.topCopy_of_empty fun e he => ?_)
    by_cases hec : c < e
    · exact hempty e he hec
    · rw [show e = c by omega]; exact hnone
  · rintro z p (hdead | ⟨f, hf⟩)
    · exact State.select_of_not_live hdead
    · exact State.select_of_sending hf

/-! ## The fine tick -/

namespace State

variable {s t : State}

theorem queues_mapTx (s : State) (ps : List Nat) (f : PortTx → PortTx) : (s.mapTx ps f).es.queues = s.es.queues :=
  foldl_induct (f := fun (z : State) p => z.setTx p (f (z.tx p))) (P := fun z => z.es.queues = s.es.queues) (fun _ _ h => h) ps rfl

theorem rc_mapHolds (s : State) (ps : List Nat) (f : PortHold → PortHold) :
    (s.mapHolds ps f).rc = { s.rc with ports := (s.mapHolds ps f).rc.ports } :=
  foldl_induct (f := fun (z : State) p => z.setHold p (f (z.hold p)))
    (P := fun z => z.rc = { s.rc with ports := z.rc.ports }) (fun z p h => by
      have hset : (z.setHold p (f (z.hold p))).rc = { z.rc with ports := (z.setHold p (f (z.hold p))).rc.ports } := rfl
      rw [hset, h]) ps rfl

theorem tx_congr (h : t.es = s.es) (p : Nat) : t.tx p = s.tx p := by unfold State.tx; rw [h]

theorem hold_congr (h : t.rc = s.rc) (p : Nat) : t.hold p = s.hold p := by unfold State.hold; rw [h]

@[simp] theorem fineTick_tb (s : State) : s.fineTick.tb = s.prescalerTick.tb := by simp [State.fineTick]

@[simp] theorem fineTick_ls (s : State) : s.fineTick.ls = s.windowTick.ls := by
  have hwindow : s.prescalerTick.windowTick.ls = s.windowTick.ls := by
    unfold State.windowTick
    rw [show s.prescalerTick.ls = s.ls from rfl]
    split
    · split <;> rfl
    · rfl
  simpa [State.fineTick] using hwindow

theorem tx_fineTick (s : State) {p : Nat} (hp : p ∈ allPorts) : s.fineTick.tx p = (s.tx p).fineTick := by
  have hes : s.fineTick.es = (s.prescalerTick.windowTick.mapTx allPorts PortTx.fineTick).es := by simp [State.fineTick]
  rw [tx_congr hes, tx_mapTx _ nodup_allPorts, if_pos hp, tx_congr (s := s) (by simp)]

theorem queues_fineTick (s : State) : s.fineTick.es.queues = s.es.queues := by
  have hes : s.fineTick.es = (s.prescalerTick.windowTick.mapTx allPorts PortTx.fineTick).es := by simp [State.fineTick]
  rw [hes, queues_mapTx]
  simp

theorem rc_fineTick (s : State) : s.fineTick.rc =
    ((s.prescalerTick.windowTick.mapTx allPorts PortTx.fineTick).mapHolds accessPorts PortHold.fineTick).rc := rfl

theorem hold_fineTick (s : State) {p : Nat} (hp : p ∈ accessPorts) : s.fineTick.hold p = (s.hold p).fineTick := by
  rw [hold_congr (rc_fineTick s), hold_mapHolds _ nodup_accessPorts, if_pos hp, hold_congr (s := s) (by simp)]

theorem tab_fineTick (s : State) : s.fineTick.tab = s.tab.fineTick := by
  have htab : (((s.prescalerTick.windowTick).mapTx allPorts PortTx.fineTick).mapHolds accessPorts PortHold.fineTick).tab = s.tab := by
    simp
  exact congrArg AddressTable.fineTick htab

theorem windowTick_of_running {n : Nat} (h : s.ls.window = some n) : s.windowTick.ls =
    if n + 1 < windowTicks then { s.ls with window := some (n + 1) }
    else { s.ls with window := some 0, windowDue := s.ls.windowDue + 1 } := by
  unfold State.windowTick
  split
  · next m hm =>
    cases h.symm.trans hm
    split <;> rfl
  · next hnone => cases h.symm.trans hnone

theorem windowTick_of_stopped (h : s.ls.window = none) : s.windowTick = s := by
  unfold State.windowTick
  split
  · next m hm => cases h.symm.trans hm
  · rfl

/-- A running counter that is not at 0 counts down by one. -/
theorem countOnce_succ (const n : Nat) : countOnce const (some (n + 1)) = (some n, if n = 0 then 1 else 0) := by
  simp [countOnce, countDown]

end State

theorem PortTx.fineTick_of_running {x : PortTx} {n : Nat} (h : x.rxHold = some n) :
    x.fineTick = if 1 < n then { x with rxHold := some (n - 1) } else { x with holdDue := true } := by
  unfold PortTx.fineTick
  split
  · next m hm => cases h.symm.trans hm; rfl
  · next hnone => cases h.symm.trans hnone

theorem PortTx.fineTick_of_stopped {x : PortTx} (h : x.rxHold = none) : x.fineTick = x := by
  unfold PortTx.fineTick
  split
  · next m hm => cases h.symm.trans hm
  · rfl

theorem PortHold.fineTick_of_running {x : PortHold} {n : Nat} (h : x.renew = some n) :
    x.fineTick = if 1 < n then { x with renew := some (n - 1) } else { x with renewDue := true } := by
  unfold PortHold.fineTick
  split
  · next m hm => cases h.symm.trans hm; rfl
  · next hnone => cases h.symm.trans hnone

theorem PortHold.fineTick_of_stopped {x : PortHold} (h : x.renew = none) : x.fineTick = x := by
  unfold PortHold.fineTick
  split
  · next m hm => cases h.symm.trans hm
  · rfl

/-- Settles O7: what each counter and timer makes of a fine tick. -/
theorem fineTickCounts : Obligations.FineTickCounts := by
  unfold Obligations.FineTickCounts
  intro s
  have hpre : ∀ n, s.tb.prescaler = some (n + 1) → s.fineTick.tb =
      { s.tb with prescaler := some n, prescalerDue := s.tb.prescalerDue + if n = 0 then 1 else 0 } := fun n hn => by
    rw [State.fineTick_tb, State.prescalerTick]
    simp [hn, State.countOnce_succ]
  refine ⟨s.fineTick, rfl, State.eq_iff.2 (by simp), fun n hn => hpre _ hn, fun hn => hpre 0 hn, fun hn => ?_, fun n hn hlt => ?_,
    fun hn => ?_, fun hn => ?_, fun p hp n hn => ?_, fun p hp hn => ?_, fun p hp hn => ?_, State.queues_fineTick s,
    fun p hp n hn => ?_, fun p hp hn => ?_, fun p hp hn => ?_, ?_, ?_⟩
  · rw [State.fineTick_tb, State.prescalerTick]
    have hnone : countOnce s.cfg.prescale s.tb.prescaler = (s.tb.prescaler, 0) := by rw [hn]; rfl
    rw [hnone]
    rfl
  · rw [State.fineTick_ls, State.windowTick_of_running hn, if_pos (by unfold windowTicks; omega)]
  · rw [State.fineTick_ls, State.windowTick_of_running hn, if_neg (by decide)]
  · rw [State.fineTick_ls, State.windowTick_of_stopped hn]
  · rw [State.tx_fineTick s hp, PortTx.fineTick_of_running hn, if_pos (by omega)]
    rfl
  · rw [State.tx_fineTick s hp, PortTx.fineTick_of_running hn, if_neg (by omega)]
  · rw [State.tx_fineTick s hp, PortTx.fineTick_of_stopped hn]
  · rw [State.hold_fineTick s hp, PortHold.fineTick_of_running hn, if_pos (by omega)]
    rfl
  · rw [State.hold_fineTick s hp, PortHold.fineTick_of_running hn, if_neg (by omega)]
  · rw [State.hold_fineTick s hp, PortHold.fineTick_of_stopped hn]
  · rw [State.rc_fineTick, State.rc_mapHolds]
    simp
  · rw [State.tab_fineTick]
    unfold AddressTable.fineTick
    split <;> rfl

/-! ## The time base -/

namespace State

variable {s : State}

/-- The machine after one fine tick. -/
theorem fineTick_prescaler {n : Nat} (h : s.tb.prescaler = some (n + 1)) : s.fineTick.tb.prescaler = some n ∧
    s.fineTick.tb.prescalerDue = s.tb.prescalerDue + if n = 0 then 1 else 0 := by
  rw [fineTick_tb, State.prescalerTick]
  simp [h, countOnce_succ]

/-- Fine ticks count a running prescaler down, and make nothing due before it comes to 0. -/
theorem fineTicks_prescaler {n m : Nat} (hn : s.tb.prescaler = some n) (hm : m ≤ n) :
    (State.fineTick^[m] s).tb.prescaler = some (n - m) ∧
      (State.fineTick^[m] s).tb.prescalerDue = s.tb.prescalerDue + if 0 < m ∧ m = n then 1 else 0 := by
  induction m with
  | zero => simp [hn]
  | succ m ih =>
    obtain ⟨hcount, hdue⟩ := ih (by omega)
    have hleft : n - m = (n - (m + 1)) + 1 := by omega
    rw [Function.iterate_succ_apply']
    obtain ⟨hcount', hdue'⟩ := fineTick_prescaler (hcount.trans (congrArg some hleft))
    refine ⟨hcount', hdue'.trans ?_⟩
    rw [hdue]
    have hnot : ¬(0 < m ∧ m = n) := by omega
    rw [if_neg hnot, Nat.add_zero]
    exact congrArg _ (if_congr (by omega) rfl rfl)

theorem reportTick_of_due (hnone : s.tb.reportOwed = []) (hdue : 0 < s.tb.reportDue) (u : ReportUser) :
    s.reportTick u = s.beginReport.takeReport u := by
  unfold State.reportTick
  rw [if_neg (by simp [hnone]), if_pos ⟨hnone, hdue⟩]

theorem reportTick_of_owed {u : ReportUser} (h : u ∈ s.tb.reportOwed) : s.reportTick u = s.takeReport u :=
  if_pos (List.contains_iff_mem.2 h)

theorem reportTick_of_not_owed {u : ReportUser} (h : u ∉ s.tb.reportOwed) (hsome : s.tb.reportOwed ≠ []) : s.reportTick u = s := by
  unfold State.reportTick
  rw [if_neg (by simpa using h), if_neg fun hboth => hsome hboth.1]

theorem ageTick_of_due (hnone : s.tb.ageOwed = []) (hdue : 0 < s.tb.ageDue) (u : AgeUser) :
    s.ageTick u = s.beginAge.takeAge u := by
  unfold State.ageTick
  rw [if_neg (by simp [hnone]), if_pos ⟨hnone, hdue⟩]

theorem ageTick_of_owed {u : AgeUser} (h : u ∈ s.tb.ageOwed) : s.ageTick u = s.takeAge u :=
  if_pos (List.contains_iff_mem.2 h)

theorem ageTick_of_not_owed {u : AgeUser} (h : u ∉ s.tb.ageOwed) (hsome : s.tb.ageOwed ≠ []) : s.ageTick u = s := by
  unfold State.ageTick
  rw [if_neg (by simpa using h), if_neg fun hboth => hsome hboth.1]

theorem mem_reportUsers (u : ReportUser) : u ∈ reportUsers := by cases u <;> decide

theorem mem_ageUsers (u : AgeUser) : u ∈ ageUsers := by cases u <;> decide

end State

/-- Settles O8: the counters of the time base by their counts, and the taking up of a tick by what is owed. -/
theorem timeBaseDivides : Obligations.TimeBaseDivides := by
  unfold Obligations.TimeBaseDivides
  refine ⟨fun s n hn hpos => ?_, fun s n hdue hpre ht1 => ?_, fun s u n hnone hdue ht1 ht2 => ?_, fun s u hu hsome => ?_,
    fun s u n hnone hdue ht2 ht3 => ?_, fun s u hu hsome => ?_⟩
  · change (∀ m < n, (State.fineTick^[m] s).tb.prescalerDue = s.tb.prescalerDue) ∧
      (State.fineTick^[n] s).tb.prescaler = some 0 ∧ (State.fineTick^[n] s).tb.prescalerDue = s.tb.prescalerDue + 1
    refine ⟨fun m hm => ?_, ?_, ?_⟩
    · rw [(State.fineTicks_prescaler hn (Nat.le_of_lt hm)).2, if_neg (by omega), Nat.add_zero]
    · rw [(State.fineTicks_prescaler hn (Nat.le_refl n)).1, Nat.sub_self]
    · rw [(State.fineTicks_prescaler hn (Nat.le_refl n)).2, if_pos ⟨hpos, rfl⟩]
  · refine congrArg Host.Outcome.next ?_
    unfold State.prescalerOutput
    rw [if_pos hdue]
    simp only [hpre, ht1, State.countOnce_succ]
    rfl
  · refine congrArg (fun z : State => Host.Outcome.next z.takeFrame) ?_
    have hbegin : s.beginReport = { s with tb := { s.tb with
        reportDue := s.tb.reportDue - 1, t1 := some s.cfg.t1, t2 := some n
        ageDue := s.tb.ageDue + (if n = 0 then 1 else 0), reportOwed := reportUsers } } := by
      unfold State.beginReport
      simp only [ht1, ht2, State.countOnce_succ]
      rfl
    rw [State.reportTick_of_due hnone hdue, hbegin]
    exact (State.reportTick_of_owed (State.mem_reportUsers u)).symm
  · exact congrArg (fun z : State => Host.Outcome.next z.takeFrame) (State.reportTick_of_not_owed hu hsome)
  · refine congrArg (fun z : State => Host.Outcome.next z.takeFrame) ?_
    have hbegin : s.beginAge = { s with tb := { s.tb with
        ageDue := s.tb.ageDue - 1, t2 := some s.cfg.t2, t3 := some n
        epochDue := s.tb.epochDue + (if n = 0 then 1 else 0), ageOwed := ageUsers } } := by
      unfold State.beginAge
      simp only [ht2, ht3, State.countOnce_succ]
      rfl
    rw [State.ageTick_of_due hnone hdue, hbegin]
    exact (State.ageTick_of_owed (State.mem_ageUsers u)).symm
  · exact congrArg (fun z : State => Host.Outcome.next z.takeFrame) (State.ageTick_of_not_owed hu hsome)

/-! ## The state after reset -/

namespace State

variable (s : State) (straps : Nat) (signals : BitVec 21)

theorem live_resetWith {p : Nat} (hp : p ∈ allPorts) : (s.resetWith straps signals).live p = false := by
  have hlink : (s.resetWith straps signals).link p = { PortLink.reset with signal := signals.getLsbD p } :=
    link_resetWith s straps signals hp
  unfold State.live
  rw [hlink]
  rfl

theorem linksSound_resetWith : (s.resetWith straps signals).LinksSound := LinksSound.resetWith s straps signals

theorem deadQuiet_resetWith : (s.resetWith straps signals).DeadQuiet := by
  refine ⟨Hushed.resetWith s straps signals, nofun, fun c hc => ?_⟩
  have hzero : c ∈ [0, 0, 0, 0, 0, 0, 0, 0] := hc
  simp at hzero
  omega

theorem bufferLinked_resetWith : (s.resetWith straps signals).BufferLinked :=
  ⟨rfl, rfl, rfl, nofun, nofun, nofun, nofun⟩

theorem bufferSound_resetWith : (s.resetWith straps signals).BufferSound := ⟨rfl, fun _ => rfl, fun _ => rfl, rfl⟩

theorem addressesSound_resetWith : (s.resetWith straps signals).AddressesSound := by
  simp [State.AddressesSound, State.resetWith, State.reset]

theorem pathsSound_resetWith (hstraps : straps ≤ 3) : (s.resetWith straps signals).PathsSound := by
  have huplink : (s.resetWith straps signals).anyUplink = false := by
    unfold State.anyUplink
    rw [live_resetWith s straps signals (p := u0) (by decide), live_resetWith s straps signals (p := u1) (by decide)]
    rfl
  obtain ⟨hload, -⟩ := linksSound_resetWith s straps signals
  have hhomes : ∀ h ∈ defaultHomes, h ≤ 1 := by decide
  refine ⟨hstraps, rfl, hhomes, fun hl => ⟨hload hl, rfl, fun _ _ => ⟨rfl, rfl⟩⟩, by rw [huplink]; rfl, fun i _ => ?_,
    fun k _ => ⟨fun h => absurd rfl h, nofun, nofun, nofun⟩, nofun, nofun⟩
  change (!(s.resetWith straps signals).anyUplink) = true
  rw [huplink]
  rfl

theorem lineSound_resetWith : (s.resetWith straps signals).LineSound := by
  simp [State.LineSound, State.resetWith, State.reset]

theorem billingSound_resetWith : (s.resetWith straps signals).BillingSound := by
  simp [State.resetWith, State.BillingSound, State.reset, Settings.reset, numbersRun]

theorem meterSound_resetWith : (s.resetWith straps signals).MeterSound := by
  simp [State.resetWith, State.MeterSound, State.reset]

theorem stagesSound_resetWith : (s.resetWith straps signals).StagesSound := by
  simp [State.resetWith, State.StagesSound, State.reset, Settings.reset, levelOf]

theorem reset_eq_resetWith : State.reset = State.reset.resetWith 0 0 := rfl

end State

/-- Settles O60: every invariant holds after RESET, and the state of the model is that of a RESET with straps 0 and no signal. -/
theorem invariantsHoldAtReset : Obligations.InvariantsHoldAtReset := by
  unfold Obligations.InvariantsHoldAtReset
  have hall : ∀ (s : State) (straps : Nat) (signals : BitVec 21), straps ≤ 3 →
      let t := s.resetWith straps signals
      t.LinksSound ∧ t.DeadQuiet ∧ t.BufferLinked ∧ t.BufferSound ∧ t.AddressesSound ∧ t.PathsSound ∧
        t.LineSound ∧ t.BillingSound ∧ t.MeterSound ∧ t.StagesSound ∧ t.Canonical := fun s n v hn =>
    ⟨State.linksSound_resetWith s n v, State.deadQuiet_resetWith s n v, State.bufferLinked_resetWith s n v,
      State.bufferSound_resetWith s n v, State.addressesSound_resetWith s n v, State.pathsSound_resetWith s n v hn,
      State.lineSound_resetWith s n v, State.billingSound_resetWith s n v, State.meterSound_resetWith s n v,
      State.stagesSound_resetWith s n v, State.Canonical.resetWith s n v⟩
  exact ⟨fun straps signals s => ⟨_, rfl, hall s straps signals (Nat.le_of_lt_succ straps.isLt)⟩,
    State.reset_eq_resetWith ▸ hall State.reset 0 0 (Nat.zero_le 3)⟩

end Sys2Proof.Machine
end

section
/-! The formats of sections 12.3 and 12.4: what is put into words and bytes is read out of them again. -/

namespace Sys2Proof.Machine

open Sys2Proof.Config

/-! ## Words and numbers -/

theorem toNat_word {n : Nat} (h : n < 65536) : (BitVec.ofNat 16 n).toNat = n := Nat.mod_eq_of_lt h

/-- A bit of a word, as what the number it was made of gives for it. -/
theorem getLsbD_word (n i : Nat) (hi : i < 16) : (BitVec.ofNat 16 n).getLsbD i = decide (n / 2 ^ i % 2 = 1) := by
  rw [BitVec.getLsbD_ofNat, Nat.testBit_eq_decide_div_mod_eq, decide_eq_true hi, Bool.true_and]

theorem bit_le (b : Bool) : bit b ≤ 1 := by cases b <;> decide

theorem decide_bit (b : Bool) : decide (bit b = 1) = b := by cases b <;> rfl

theorem linkCode_le (l : LinkState) : linkCode l ≤ 4 := by cases l <;> decide

theorem linkOfCode_linkCode (l : LinkState) : linkOfCode (linkCode l) = some l := by cases l <;> rfl

/-- Words put together to a number, most significant first. -/
def wordsNat (ws : List Word) : Nat := ws.foldl (fun v w => v * 65536 + w.toNat) 0

theorem wordsNat_concat (ws : List Word) (w : Word) : wordsNat (ws ++ [w]) = wordsNat ws * 65536 + w.toNat := by
  simp [wordsNat]

theorem wordsNat_beWords (n v : Nat) (h : v < 65536 ^ n) : wordsNat (beWords n v) = v := by
  induction n generalizing v with
  | zero => simp only [Nat.pow_zero, Nat.lt_one_iff] at h; subst h; rfl
  | succ n ih =>
    have hhigh : v / 65536 < 65536 ^ n := Nat.div_lt_of_lt_mul (by rwa [Nat.mul_comm, ← Nat.pow_succ])
    rw [beWords, wordsNat_concat, ih _ hhigh, BitVec.toNat_ofNat]
    omega

theorem length_beWords (n v : Nat) : (beWords n v).length = n := by
  induction n generalizing v with
  | zero => rfl
  | succ n ih => simp [beWords, ih]

/-! ## Bytes and numbers -/

theorem beNat_concat (bs : List Byte) (b : Byte) : beNat (bs ++ [b]) = beNat bs * 256 + b.toNat := by simp [beNat]

theorem length_beBytes (n v : Nat) : (beBytes n v).length = n := by
  induction n generalizing v with
  | zero => rfl
  | succ n ih => simp [beBytes, ih]

theorem beNat_beBytes (n v : Nat) (h : v < 256 ^ n) : beNat (beBytes n v) = v := by
  induction n generalizing v with
  | zero => simp only [Nat.pow_zero, Nat.lt_one_iff] at h; subst h; rfl
  | succ n ih =>
    have hhigh : v / 256 < 256 ^ n := Nat.div_lt_of_lt_mul (by rwa [Nat.mul_comm, ← Nat.pow_succ])
    rw [beBytes, beNat_concat, ih _ hhigh, BitVec.toNat_ofNat]
    omega

theorem length_leBytes (n v : Nat) : (leBytes n v).length = n := by
  induction n generalizing v with
  | zero => rfl
  | succ n ih => simp [leBytes, ih]

theorem leNat_leBytes (n v : Nat) (h : v < 256 ^ n) : leNat (leBytes n v) = v := by
  induction n generalizing v with
  | zero => simp only [Nat.pow_zero, Nat.lt_one_iff] at h; subst h; rfl
  | succ n ih =>
    have hhigh : v / 256 < 256 ^ n := Nat.div_lt_of_lt_mul (by rwa [Nat.mul_comm, ← Nat.pow_succ])
    rw [leBytes, leNat, ih _ hhigh, BitVec.toNat_ofNat]
    omega

theorem length_withFrameCheck (bs : List Byte) : (withFrameCheck bs).length = bs.length + 4 := by
  simp [withFrameCheck, length_leBytes]

theorem take_withFrameCheck (bs : List Byte) : (withFrameCheck bs).take bs.length = bs := by
  simp [withFrameCheck]

theorem frameCheckOk_withFrameCheck (bs : List Byte) : frameCheckOk (withFrameCheck bs) = true := by
  unfold frameCheckOk
  rw [length_withFrameCheck, Nat.add_sub_cancel, take_withFrameCheck]
  simp only [withFrameCheck, List.drop_left]
  rw [leNat_leBytes 4 _ (crc32 bs).isLt]
  exact beq_self_eq_true _

/-! ## The group header -/

theorem byteAt_headerBytes (h : GroupHeader) (rest : List Byte) : byteAt (headerBytes h ++ rest) 0 = h.origin % 256 ∧
    byteAt (headerBytes h ++ rest) 1 = h.tenant % 256 ∧
    byteAt (headerBytes h ++ rest) 2 = (h.cls + (if h.borrowed then 4 else 0) + (if h.flood then 8 else 0)) % 256 :=
  ⟨rfl, rfl, rfl⟩

theorem readHeader_headerBytes {h : GroupHeader} (rest : List Byte) (horigin : h.origin ≤ 3) (htenant : h.tenant ≤ 255)
    (hcls : h.cls ≤ 3) : readHeader (headerBytes h ++ rest) = h := by
  obtain ⟨h0, h1, h2⟩ := byteAt_headerBytes h rest
  obtain ⟨origin, tenant, cls, borrowed, flood⟩ := h
  unfold readHeader
  rw [h0, h1, h2]
  dsimp only at *
  simp only [GroupHeader.mk.injEq, Nat.testBit_eq_decide_div_mod_eq]
  refine ⟨by omega, by omega, ?_, ?_, ?_⟩ <;> cases borrowed <;> cases flood <;> simp <;> omega

/-- The third byte of a group header is below 16, that of the control address is not. -/
theorem headerBytes_ne_controlAddr {h : GroupHeader} (hcls : h.cls ≤ 3) (rest : List Byte) :
    (headerBytes h ++ rest).take 6 ≠ controlAddr := by
  intro heq
  have hthird : byteAt ((headerBytes h ++ rest).take 6) 2 = byteAt (headerBytes h ++ rest) 2 := rfl
  have hcontrol : byteAt controlAddr 2 = 194 := rfl
  rw [heq, hcontrol, (byteAt_headerBytes h rest).2.2] at hthird
  split at hthird <;> split at hthird <;> omega

/-! ## Crossline payloads -/

theorem readLender_lenderCode {k : Nat} {o : Option Nat} (h : ∀ j, o = some j → j ≤ 3 ∧ j ≠ k) :
    readLender k (lenderCode o) = some o := by
  cases o with
  | none => rfl
  | some j =>
    obtain ⟨hj, hk⟩ := h j rfl
    have h8 : j ≠ 8 := by omega
    simp [readLender, lenderCode, h8, hj, hk]

theorem lenderCode_le {k : Nat} {o : Option Nat} (h : ∀ j, o = some j → j ≤ 3 ∧ j ≠ k) : lenderCode o ≤ 8 := by
  cases o with
  | none => exact Nat.le_refl 8
  | some j => exact Nat.le_trans (h j rfl).1 (by decide)

theorem readLevel_levelWords {k : Nat} {l : LevelFields} (hlevel : l.level ≤ 5) (hcount : l.lendCount ≤ 3)
    (hfault : ∀ j, l.faultLender = some j → j ≤ 3 ∧ j ≠ k) (hrelief : ∀ j, l.reliefLender = some j → j ≤ 3 ∧ j ≠ k) :
    readLevel k (levelWords l) = some l := by
  have h0 := linkCode_le l.u0
  have h1 := linkCode_le l.u1
  have ho := bit_le l.lendOffer
  have hs := bit_le l.solePath
  have hn := bit_le l.lostNotices
  have hf := lenderCode_le hfault
  have hr := lenderCode_le hrelief
  have hword0 : ∀ a b c d e f g : Nat, a ≤ 5 → b ≤ 4 → c ≤ 4 → d ≤ 3 → e ≤ 1 → f ≤ 1 → g ≤ 1 →
      let w := BitVec.ofNat 16 (a * 8192 + b * 1024 + c * 128 + d * 16 + e * 8 + f * 4 + g * 2)
      field w 13 3 = a ∧ field w 10 3 = b ∧ field w 7 3 = c ∧ field w 4 3 = d ∧ w.getLsbD 3 = decide (e = 1) ∧
        w.getLsbD 2 = decide (f = 1) ∧ w.getLsbD 1 = decide (g = 1) := by
    intro a b c d e f g ha hb hc hd he hf hg
    simp only [field, getLsbD_word _ _ (show 3 < 16 by decide), getLsbD_word _ _ (show 2 < 16 by decide),
      getLsbD_word _ _ (show 1 < 16 by decide), decide_eq_decide]
    rw [toNat_word (by omega)]
    omega
  have hword1 : ∀ a b : Nat, a ≤ 8 → b ≤ 8 →
      field (BitVec.ofNat 16 (a * 16 + b)) 4 4 = a ∧ field (BitVec.ofNat 16 (a * 16 + b)) 0 4 = b := by
    intro a b ha hb
    simp only [field]
    rw [toNat_word (by omega)]
    omega
  obtain ⟨ha, hb, hc, hd, he, hf', hg⟩ := hword0 _ _ _ _ _ _ _ hlevel h0 h1 hcount ho hs hn
  obtain ⟨hfl, hrl⟩ := hword1 _ _ hf hr
  unfold readLevel levelWords
  simp only [List.getD_cons_zero, List.getD_cons_succ]
  rw [ha, hb, hc, hd, he, hf', hg, hfl, hrl]
  simp [linkOfCode_linkCode, readLender_lenderCode hfault, readLender_lenderCode hrelief, hlevel, hcount, decide_bit]

theorem readAddressEntries_addressEntryWords {ms : List AddressEntry} (h : ∀ m ∈ ms, m.tenant ≤ 255 ∧ m.moves ≤ 15) :
    readAddressEntries (ms.flatMap addressEntryWords) = ms := by
  induction ms with
  | nil => rfl
  | cons m ms ih =>
    obtain ⟨htenant, hmoves⟩ := h m (by simp)
    have hbit := bit_le m.forget
    have haddr := m.addr.isLt
    rw [List.flatMap_cons]
    simp only [addressEntryWords, List.cons_append, List.nil_append, readAddressEntries,
      ih fun x hx => h x (List.mem_cons_of_mem _ hx)]
    congr 1
    obtain ⟨tenant, addr, moves, forget⟩ := m
    dsimp only at *
    have hword : (BitVec.ofNat 16 (tenant * 256 + moves * 16 + bit forget)).toNat = tenant * 256 + moves * 16 + bit forget :=
      toNat_word (by omega)
    simp only [AddressEntry.mk.injEq, field, hword]
    refine ⟨by omega, BitVec.eq_of_toNat_eq ?_, by omega, ?_⟩
    · simp only [BitVec.toNat_ofNat]
      omega
    · rw [getLsbD_word _ 0 (by decide), Nat.pow_zero, Nat.div_one, show (tenant * 256 + moves * 16 + bit forget) % 2 = bit forget by omega,
        decide_bit]

/-! ## The billing record (R171) -/

theorem packDigits_lt (n v : Nat) : packDigits n v < 16 ^ n := by
  induction n generalizing v with
  | zero => exact Nat.one_pos
  | succ n ih =>
    have := ih (v / 10)
    rw [packDigits, Nat.pow_succ]
    omega

theorem packDigits_digit {n i : Nat} (v : Nat) (hi : i < n) : packDigits n v / 16 ^ i % 16 = v / 10 ^ i % 10 := by
  induction n generalizing v i with
  | zero => exact absurd hi (Nat.not_lt_zero i)
  | succ n ih =>
    rw [packDigits]
    cases i with
    | zero => simp only [Nat.pow_zero, Nat.div_one]; omega
    | succ i =>
      have hshift : (packDigits n (v / 10) * 16 + v % 10) / 16 = packDigits n (v / 10) := by omega
      rw [Nat.pow_succ', ← Nat.div_div_eq_div_mul, hshift, ih _ (Nat.lt_of_succ_lt_succ hi), Nat.pow_succ', Nat.div_div_eq_div_mul]

theorem testBit_word {n i : Nat} (b : Bool) (h : n / 2 ^ i % 2 = bit b) : n.testBit i = b := by
  rw [Nat.testBit_eq_decide_div_mod_eq, h, decide_bit]

/-- Each field of a billing record in its place. -/
theorem recordWords_fields {r : BillRecord} (hstation : r.station ≤ 3) (htenant : r.tenant ≤ 255) (hfirst : r.first ≤ 65535)
    (hlast : r.last ≤ 65535) (hmethod : r.method ≤ 8) :
    let word := fun i => ((recordWords r).getD i 0).toNat
    word 0 / 256 = r.station ∧ word 0 % 256 = r.tenant ∧ word 1 = r.first ∧ word 2 = r.last ∧ word 18 % 16 = r.method ∧
      (word 18).testBit 4 = r.inexact ∧ (word 18).testBit 5 = r.saturated ∧ (word 18).testBit 6 = r.unpriced ∧
      (word 18).testBit 7 = r.merged := by
  have h0 : ((recordWords r).getD 0 0).toNat = r.station * 256 + r.tenant :=
    toNat_word (n := r.station * 256 + r.tenant) (by omega)
  have h1 : ((recordWords r).getD 1 0).toNat = r.first := toNat_word (n := r.first) (by omega)
  have h2 : ((recordWords r).getD 2 0).toNat = r.last := toNat_word (n := r.last) (by omega)
  have hi := bit_le r.inexact
  have hs := bit_le r.saturated
  have hu := bit_le r.unpriced
  have hm := bit_le r.merged
  have h18 : ((recordWords r).getD 18 0).toNat =
      r.method + bit r.inexact * 16 + bit r.saturated * 32 + bit r.unpriced * 64 + bit r.merged * 128 :=
    toNat_word (n := r.method + bit r.inexact * 16 + bit r.saturated * 32 + bit r.unpriced * 64 + bit r.merged * 128) (by omega)
  dsimp only
  rw [h0, h1, h2, h18]
  refine ⟨by omega, by omega, rfl, rfl, by omega, testBit_word _ ?_, testBit_word _ ?_, testBit_word _ ?_, testBit_word _ ?_⟩
  all_goals omega

theorem recordWords_numbers {r : BillRecord} (hnumber : r.number ≤ 4294967295) (hcommitted : r.committed ≤ 281474976710655)
    (hexcess : r.excess ≤ 281474976710655) (hlost : r.lost ≤ 281474976710655) (hadmitted : r.admitted ≤ 4294967295)
    (hrefused : r.refused ≤ 4294967295) :
    let number := fun i n => wordsNat (((recordWords r).drop i).take n)
    number 3 2 = r.number ∧ number 5 3 = r.committed ∧ number 8 3 = r.excess ∧ number 11 3 = r.lost ∧
      number 14 2 = r.admitted ∧ number 16 2 = r.refused ∧
      number 19 5 = packDigits 19 r.magnitude * 16 + (if r.minus then 0xD else 0xC) := by
  have hpack := packDigits_lt 19 r.magnitude
  refine ⟨wordsNat_beWords 2 r.number (by omega), wordsNat_beWords 3 r.committed (by omega),
    wordsNat_beWords 3 r.excess (by omega), wordsNat_beWords 3 r.lost (by omega), wordsNat_beWords 2 r.admitted (by omega),
    wordsNat_beWords 2 r.refused (by omega), wordsNat_beWords 5 _ ?_⟩
  split <;> omega

/-! ## STATUS (R171) -/

theorem length_pairBytes (bs : List Nat) : (pairBytes bs).length = (bs.length + 1) / 2 := by
  induction bs using pairBytes.induct with
  | case1 a b rest ih => simp only [pairBytes, List.length_cons, ih]; omega
  | case2 a => simp [pairBytes]
  | case3 => simp [pairBytes]

/-- Byte by byte, what pairing puts into words: the even ones in the high byte, the odd ones in the low byte. -/
theorem pairBytes_word {bs : List Nat} (h : ∀ b ∈ bs, b < 256) (i : Nat) :
    ((pairBytes bs).getD i 0).toNat / 256 = bs.getD (2 * i) 0 ∧ ((pairBytes bs).getD i 0).toNat % 256 = bs.getD (2 * i + 1) 0 := by
  induction bs using pairBytes.induct generalizing i with
  | case1 a b rest ih =>
    have ha := h a (by simp)
    have hb := h b (by simp)
    cases i with
    | zero =>
      have hword : ((pairBytes (a :: b :: rest)).getD 0 0).toNat = a * 256 + b := toNat_word (n := a * 256 + b) (by omega)
      rw [hword]
      simp
      omega
    | succ i => exact ih (fun c hc => h c (by simp [hc])) i
  | case2 a =>
    have ha := h a (by simp)
    cases i with
    | zero =>
      have hword : ((pairBytes [a]).getD 0 0).toNat = a * 256 := toNat_word (n := a * 256) (by omega)
      rw [hword]
      simp
    | succ i => simp [pairBytes]
  | case3 => simp [pairBytes]

theorem portStatusByte_fields {x : PortStatus} (h : x.stage ≤ 6) : portStatusByte x < 256 ∧
    portStatusByte x % 8 = linkCode x.state ∧ portStatusByte x / 8 % 8 = x.stage ∧ (portStatusByte x).testBit 6 = x.latch := by
  have hstate := linkCode_le x.state
  have hlatch := bit_le x.latch
  unfold portStatusByte
  refine ⟨by omega, by omega, by omega, testBit_word _ ?_⟩
  omega

/-- The words of a STATUS behind those of the ports. -/
def statusTail (r : StatusReply) : List Word :=
  beWords 2 r.lineErrors ++ beWords 2 r.overruns ++ beWords 2 r.skipped ++ beWords 2 r.badSum
    ++ beWords 2 r.unclassSum ++ [BitVec.ofNat 16 (r.depth * 256 + r.tenantsPending)]

theorem statusWords_eq (r : StatusReply) : statusWords r =
    [BitVec.ofNat 16 (imageCode r.image * 256 + reasonCode r.reason), BitVec.ofNat 16 r.clamped,
      BitVec.ofNat 16 (r.level * 8192 + bit r.duplicate * 4096 + bit r.lineFault * 2048 + bit r.overrunLatch * 1024
        + r.condition)] ++ (pairBytes (r.ports.map portStatusByte) ++ statusTail r) := by
  simp [statusWords, statusTail]

section

variable {r : StatusReply} (hports : r.ports.length = 21)
include hports

theorem length_statusPorts : (pairBytes (r.ports.map portStatusByte)).length = 11 := by
  rw [length_pairBytes, List.length_map, hports]

theorem statusWords_port {i : Nat} (hi : i < 11) :
    (statusWords r).getD (3 + i) 0 = (pairBytes (r.ports.map portStatusByte)).getD i 0 := by
  rw [statusWords_eq, List.getD_append_right _ _ _ _ (by simp), List.getD_append _ _ _ _ (by rw [length_statusPorts hports]; simpa)]
  congr 1
  simp

theorem statusWords_tail (i : Nat) : (statusWords r).getD (14 + i) 0 = (statusTail r).getD i 0 := by
  have hlen := length_statusPorts hports
  rw [statusWords_eq, List.getD_append_right _ _ _ _ (by simp; omega), List.getD_append_right _ _ _ _ (by simp; omega), hlen]
  congr 1
  simp
  omega

end

/-- The byte of port p, the high or the low one of its word. -/
theorem statusWords_byte (hports : r.ports.length = 21) (hstage : ∀ x ∈ r.ports, x.stage ≤ 6) {p : Nat} (hp : p < 22) :
    (if p % 2 = 0 then ((statusWords r).getD (3 + p / 2) 0).toNat / 256 else ((statusWords r).getD (3 + p / 2) 0).toNat % 256) =
      (r.ports.map portStatusByte).getD p 0 := by
  obtain ⟨heven, hodd⟩ := pairBytes_word (bs := r.ports.map portStatusByte) (fun b hb => by
    obtain ⟨x, hx, rfl⟩ := List.mem_map.1 hb
    exact (portStatusByte_fields (hstage x hx)).1) (p / 2)
  rw [statusWords_port hports (by omega), heven, hodd]
  split
  · rw [show 2 * (p / 2) = p by omega]
  · rw [show 2 * (p / 2) + 1 = p by omega]

theorem statusWords_head (hclamped : r.clamped ≤ 65535) (hlevel : r.level ≤ 5) (hcond : r.condition ≤ 8) :
    let word := fun i => ((statusWords r).getD i 0).toNat
    word 0 / 256 = imageCode r.image ∧ word 0 % 256 = reasonCode r.reason ∧ word 1 = r.clamped ∧ word 2 / 8192 = r.level ∧
      (word 2).testBit 12 = r.duplicate ∧ (word 2).testBit 11 = r.lineFault ∧ (word 2).testBit 10 = r.overrunLatch ∧
      word 2 % 16 = r.condition := by
  have himage : imageCode r.image ≤ 2 := by cases r.image <;> decide
  have hreason : reasonCode r.reason ≤ 3 := by cases r.reason <;> decide
  have hd := bit_le r.duplicate
  have hl := bit_le r.lineFault
  have ho := bit_le r.overrunLatch
  have h0 : ((statusWords r).getD 0 0).toNat = imageCode r.image * 256 + reasonCode r.reason :=
    toNat_word (n := imageCode r.image * 256 + reasonCode r.reason) (by omega)
  have h1 : ((statusWords r).getD 1 0).toNat = r.clamped := toNat_word (n := r.clamped) (by omega)
  have h2 : ((statusWords r).getD 2 0).toNat =
      r.level * 8192 + bit r.duplicate * 4096 + bit r.lineFault * 2048 + bit r.overrunLatch * 1024 + r.condition :=
    toNat_word (n := r.level * 8192 + bit r.duplicate * 4096 + bit r.lineFault * 2048 + bit r.overrunLatch * 1024 + r.condition)
      (by omega)
  dsimp only
  rw [h0, h1, h2]
  refine ⟨by omega, by omega, rfl, by omega, testBit_word _ ?_, testBit_word _ ?_, testBit_word _ ?_, by omega⟩
  all_goals omega

theorem wordPair {v : Nat} (h : v ≤ 4294967295) :
    (BitVec.ofNat 16 (v / 65536)).toNat * 65536 + (BitVec.ofNat 16 v).toNat = v := by
  simp only [BitVec.toNat_ofNat]
  omega

theorem statusWords_counts {r : StatusReply} (hports : r.ports.length = 21) (herrors : r.lineErrors ≤ 4294967295)
    (hover : r.overruns ≤ 4294967295) (hskip : r.skipped ≤ 4294967295) (hbad : r.badSum ≤ 4294967295)
    (hunclass : r.unclassSum ≤ 4294967295) (hdepth : r.depth ≤ 64) (hpend : r.tenantsPending ≤ 255) :
    let word := fun i => ((statusWords r).getD i 0).toNat
    let number := fun i => word i * 65536 + word (i + 1)
    number 14 = r.lineErrors ∧ number 16 = r.overruns ∧ number 18 = r.skipped ∧ number 20 = r.badSum ∧
      number 22 = r.unclassSum ∧ word 24 / 256 = r.depth ∧ word 24 % 256 = r.tenantsPending := by
  have hlast : (BitVec.ofNat 16 (r.depth * 256 + r.tenantsPending)).toNat = r.depth * 256 + r.tenantsPending :=
    toNat_word (by omega)
  have htail : ∀ i, ((statusWords r).getD (14 + i) 0).toNat = ((statusTail r).getD i 0).toNat := fun i =>
    congrArg BitVec.toNat (statusWords_tail hports i)
  have h24 : ((statusWords r).getD 24 0).toNat = r.depth * 256 + r.tenantsPending := (htail 10).trans hlast
  dsimp only
  rw [h24, htail 0, htail 1, htail 2, htail 3, htail 4, htail 5, htail 6, htail 7, htail 8, htail 9]
  exact ⟨wordPair herrors, wordPair hover, wordPair hskip, wordPair hbad, wordPair hunclass, by omega, by omega⟩

/-- Settles O47: field by field, what is put into a format is read out of it. -/
theorem formatsRoundTrip : Obligations.FormatsRoundTrip := by
  unfold Obligations.FormatsRoundTrip
  refine ⟨fun k l hlevel hcount hf hr => readLevel_levelWords hlevel hcount hf hr, fun ms h => readAddressEntries_addressEntryWords h,
    fun h rest ho ht hc => readHeader_headerBytes rest ho ht hc, frameCheckOk_withFrameCheck, fun k => by cases k <;> rfl,
    fun k b => ⟨fun r sole => ?_, fun g => ⟨_, rfl, by cases g <;> rfl⟩, fun g => ⟨_, rfl, by cases g <;> rfl⟩, fun _ => rfl, rfl, rfl⟩,
    fun n w hw => ?_, fun r hstation htenant hfirst hlast hnumber hcommitted hexcess hlost hadmitted hrefused hmethod => ?_,
    fun r hclamped hlevel hcond hports hstage herrors hover hskip hbad hunclass hdepth hpend => ?_⟩
  · exact ⟨_, rfl, by cases r <;> cases sole <;> decide, by cases r <;> cases sole <;> rfl⟩
  · have hword : n.word = w := by rw [Notice.word, hw]; rfl
    rw [Notice.repeats, hword, BitVec.getLsbD, Nat.testBit_eq_decide_div_mod_eq, decide_eq_true_iff, Nat.pow_zero, Nat.div_one]
  · obtain ⟨hst, hte, hfi, hla, hme, hin, hsa, hun, hmg⟩ := recordWords_fields hstation htenant hfirst hlast hmethod
    obtain ⟨hnu, hco, hex, hlo, had, hre, hch⟩ := recordWords_numbers hnumber hcommitted hexcess hlost hadmitted hrefused
    refine ⟨rfl, hst, hte, hfi, hla, hnu, hco, hex, hlo, had, hre, hme, hin, hsa, hun, hmg, fun i hi => ?_, ?_⟩
    · have hdigits : wordsNat (((recordWords r).drop 19).take 5) / 16 = packDigits 19 r.magnitude := by
        refine (congrArg (· / 16) hch).trans ?_
        split <;> omega
      refine Eq.trans ?_ (packDigits_digit r.magnitude hi)
      rw [Nat.pow_succ', ← Nat.div_div_eq_div_mul]
      exact congrArg (fun c => c / 16 ^ i % 16) hdigits
    · refine (congrArg (· % 16) hch).trans ?_
      split <;> simp [Nat.add_mod]
  · obtain ⟨him, hre, hcl, hle, hdu, hli, hov, hco⟩ := statusWords_head hclamped hlevel hcond
    obtain ⟨hli', hov', hsk, hba, hun, hde, hpe⟩ := statusWords_counts hports herrors hover hskip hbad hunclass hdepth hpend
    have hlength : (statusWords r).length = 25 := by
      rw [statusWords_eq]
      simp [length_statusPorts hports, statusTail, length_beWords]
    have hbyte := fun p hp => statusWords_byte hports hstage (p := p) hp
    refine ⟨hlength, him, hre, hcl, hle, hdu, hli, hov, hco, fun p x hx => ?_, ?_, hli', hov', hsk, hba, hun, hde, hpe⟩
    · obtain ⟨hlt, -⟩ := List.getElem?_eq_some_iff.1 hx
      obtain ⟨-, hstate, hst, hlatch⟩ := portStatusByte_fields (hstage x (List.mem_of_getElem? hx))
      have hread : (r.ports.map portStatusByte).getD p 0 = portStatusByte x := by
        rw [List.getD_eq_getElem?_getD, List.getElem?_map, hx]
        rfl
      have hp := (hbyte p (by omega)).trans hread
      dsimp only
      rw [hp]
      exact ⟨hstate, hst, hlatch⟩
    · refine (hbyte 21 (by decide)).trans ?_
      rw [List.getD_eq_default]
      simp [hports]

end Sys2Proof.Machine
end

section
/-! Reception (R1 to R3, R6 to R9): which of its ways a received frame takes, and what an admission refuses (R12, R14). -/

namespace Sys2Proof.Machine

open Sys2Proof.Config

theorem bump_eq (v : Nat) : bump v = min 4294967295 (v + 1) := by
  unfold bump satAdd count32
  by_cases h : v + 1 > 4294967295
  · rw [if_pos h, Nat.min_eq_left (by omega)]
  · rw [if_neg h, Nat.min_eq_right (by omega)]

theorem portKind_cross_iff {p : Nat} : portKind p = .cross ↔ 18 ≤ p := by
  unfold portKind
  split
  · simp; omega
  · split
    · simp; omega
    · simp; omega

/-! ## Bytes of a frame -/

theorem byteAt_append_left {a : List Byte} (b : List Byte) {i : Nat} (h : i < a.length) : byteAt (a ++ b) i = byteAt a i := by
  unfold byteAt
  rw [List.getD_append _ _ _ _ h]

theorem addrAt_append_left {a : List Byte} (b : List Byte) {i : Nat} (h : i + 6 ≤ a.length) : addrAt (a ++ b) i = addrAt a i := by
  unfold addrAt
  rw [List.drop_append_of_le_length (by omega), List.take_append_of_le_length (by rw [List.length_drop]; omega)]

theorem frameBad_iff {bytes frame : List Byte} : frameBad bytes frame = true ↔
    frame.length < 64 ∨ 9216 < frame.length ∨ frameCheckOk bytes = false ∨ isGroup (addrAt frame 6) = true := by
  simp [frameBad, or_assoc]

theorem crossControl_iff {bytes : List Byte} : crossControl bytes = true ↔ bytes.take 6 = controlAddr ∧ be16 bytes 12 = 0x8808 := by
  simp [crossControl]

theorem typeOffset_of_control {bytes : List Byte} (h : be16 bytes 12 = 0x8808) : typeOffset bytes = 12 := by
  simp [typeOffset, isTagged, h]

namespace State

variable {s z : State} {p : Nat} {bytes : List Byte}

theorem headerBad_iff {h : GroupHeader} : s.headerBad p h = true ↔
    h.origin ≠ s.peerOfPort p ∨ h.tenant = 0 ∨ (h.borrowed = true ∧ h.flood = true) := by
  simp [State.headerBad, or_assoc]

/-! ## The ways of a received frame -/

/-- The state in which a received frame is checked: its reception is over (R1). -/
def received (s : State) (p : Nat) : State := s.setIntake p { s.intake p with reception := .idle }

theorem receiveFrame_of_checked {early : Bool} (h : (s.intake p).reception = .taken ∨ (s.intake p).reception = .cut ∧ early = true) :
    s.receiveFrame p { bytes := bytes, beforeFault := early } = (s.received p).checkFrame p bytes := by
  unfold State.receiveFrame
  dsimp only
  split
  · rfl
  · next hstate => simp [hstate] at h
  · next hstate =>
    have hearly : early = true := by simpa [hstate] using h
    rw [if_pos hearly]
    rfl
  · next hstate => simp [hstate] at h

theorem receiveFrame_of_discarded {frame : ReceivedFrame}
    (h : (s.intake p).reception = .discarded ∨ (s.intake p).reception = .cut ∧ frame.beforeFault = false) :
    s.receiveFrame p frame = s.received p := by
  unfold State.receiveFrame
  dsimp only
  split
  · next hstate => simp [hstate] at h
  · rfl
  · next hstate =>
    have hearly : frame.beforeFault = false := by simpa [hstate] using h
    rw [if_neg (by simp [hearly])]
    rfl
  · next hstate => simp [hstate] at h

theorem receiveFrame_of_idle {frame : ReceivedFrame} (h : (s.intake p).reception = .idle) : s.receiveFrame p frame = s := by
  unfold State.receiveFrame
  dsimp only
  split
  · next hstate => simp [hstate] at h
  · next hstate => simp [hstate] at h
  · next hstate => simp [hstate] at h
  · rfl

/-- An arrival with a group header: one on a cross port that is no control frame (R3, R8). -/
theorem checkFrame_of_grouped (hp : 18 ≤ p) (hcontrol : ¬crossControl bytes = true) : z.checkFrame p bytes =
    if frameBad bytes (bytes.drop 4) || z.headerBad p (readHeader bytes) then z.countBad p
    else z.forward .cross p (readHeader bytes).tenant (readHeader bytes).cls (bytes.drop 4) (readHeader bytes).borrowed
      (readHeader bytes).flood := by
  unfold State.checkFrame
  rw [if_pos (portKind_cross_iff.2 hp)]
  exact if_neg hcontrol

/-- A control frame, on a port of any kind (R3). -/
theorem checkFrame_of_control (h : 18 ≤ p → crossControl bytes = true) (hbad : ¬frameBad bytes bytes = true)
    (htype : be16 bytes (typeOffset bytes) = 0x8808) : z.checkFrame p bytes = z.controlFrame p bytes := by
  unfold State.checkFrame
  split
  · next hp => exact (if_pos (h (portKind_cross_iff.1 hp))).trans (if_neg hbad)
  · exact (if_neg hbad).trans (if_pos htype)

/-- A frame with no group header that fails the checks of R2. -/
theorem checkFrame_of_bad (h : 18 ≤ p → crossControl bytes = true) (hbad : frameBad bytes bytes = true) :
    z.checkFrame p bytes = z.countBad p := by
  unfold State.checkFrame
  split
  · next hp => exact (if_pos (h (portKind_cross_iff.1 hp))).trans (if_pos hbad)
  · exact if_pos hbad

/-- A good frame on an access port or an uplink that is no control frame (R6). -/
theorem checkFrame_of_plain (hp : p < 18) (hbad : ¬frameBad bytes bytes = true) (htype : be16 bytes (typeOffset bytes) ≠ 0x8808) :
    z.checkFrame p bytes = z.classify p bytes := by
  unfold State.checkFrame
  rw [if_neg (fun h => absurd (portKind_cross_iff.1 h) (by omega))]
  exact (if_neg hbad).trans (if_neg htype)

theorem intake_received (s : State) (p q : Nat) :
    (s.received p).intake q = if q = p then { s.intake p with reception := .idle } else s.intake q := intake_setIntake ..

theorem intake_countBad (z : State) (p q : Nat) :
    (z.countBad p).intake q = if q = p then { z.intake p with bad := bump (z.intake p).bad } else z.intake q := intake_setIntake ..

theorem intake_countUnclassified (z : State) (p q : Nat) : (z.countUnclassified p).intake q =
    if q = p then { z.intake p with unclassified := bump (z.intake p).unclassified } else z.intake q := intake_setIntake ..

theorem intake_congr {t : State} (h : t.iu.ports = s.iu.ports) (q : Nat) : t.intake q = s.intake q := by unfold State.intake; rw [h]

/-- A bad frame: what is counted, and that nothing else changes. -/
theorem received_countBad (s : State) (p : Nat) : let t := (s.received p).countBad p
    t = { s with iu := t.iu } ∧ t.iu.arrivals = s.iu.arrivals ∧
      t.intake p = { s.intake p with reception := .idle, bad := min 4294967295 ((s.intake p).bad + 1) } ∧
      ∀ q, q ≠ p → t.intake q = s.intake q := by
  refine ⟨rfl, rfl, ?_, fun q hq => ?_⟩
  · rw [intake_countBad, if_pos rfl, intake_received, if_pos rfl, bump_eq]
  · rw [intake_countBad, if_neg hq, intake_received, if_neg hq]

/-- Which frames the checks count as bad. -/
theorem checkFrame_counts
    (hbad : let grouped := 18 ≤ p ∧ ¬crossControl bytes = true
      let frame := if grouped then bytes.drop 4 else bytes
      frame.length < 64 ∨ 9216 < frame.length ∨ frameCheckOk bytes = false ∨ isGroup (addrAt frame 6) = true ∨
        (grouped ∧ z.headerBad p (readHeader bytes) = true) ∨
        (¬grouped ∧ be16 frame (typeOffset frame) = 0x8808 ∧ be16 frame (typeOffset frame + 2) ≠ 1)) :
    z.checkFrame p bytes = z.countBad p := by
  dsimp only at hbad
  by_cases hgrouped : 18 ≤ p ∧ ¬crossControl bytes = true
  · rw [if_pos hgrouped] at hbad
    rw [checkFrame_of_grouped hgrouped.1 hgrouped.2, if_pos]
    rw [Bool.or_eq_true, frameBad_iff]
    rcases hbad with h | h | h | h | h | h
    · exact .inl (.inl h)
    · exact .inl (.inr (.inl h))
    · exact .inl (.inr (.inr (.inl h)))
    · exact .inl (.inr (.inr (.inr h)))
    · exact .inr h.2
    · exact absurd hgrouped h.1
  · rw [if_neg hgrouped] at hbad
    have hcontrol : 18 ≤ p → crossControl bytes = true := fun hp => by_contra fun hc => hgrouped ⟨hp, hc⟩
    by_cases hframe : frameBad bytes bytes = true
    · exact checkFrame_of_bad hcontrol hframe
    · have htype : be16 bytes (typeOffset bytes) = 0x8808 ∧ be16 bytes (typeOffset bytes + 2) ≠ 1 := by
        rcases hbad with h | h | h | h | h | h
        · exact absurd (frameBad_iff.2 (.inl h)) hframe
        · exact absurd (frameBad_iff.2 (.inr (.inl h))) hframe
        · exact absurd (frameBad_iff.2 (.inr (.inr (.inl h)))) hframe
        · exact absurd (frameBad_iff.2 (.inr (.inr (.inr h)))) hframe
        · exact absurd h.1 hgrouped
        · exact h.2
      rw [checkFrame_of_control hcontrol hframe htype.1]
      exact if_neg htype.2

end State

/-- Settles O16: a reception is over, or its frame is counted bad, by the checks in turn. -/
theorem receptionTakenOrCounted : Obligations.ReceptionTakenOrCounted := by
  unfold Obligations.ReceptionTakenOrCounted
  refine ⟨fun s p => ⟨rfl, fun frame => ⟨fun h => ?_, fun h => ?_⟩⟩, fun s p bytes early htaken hbad => ?_, fun h rest hcls => ?_⟩
  · exact congrArg (fun z : State => Host.Outcome.next z.takeFrame) (State.receiveFrame_of_discarded h)
  · exact congrArg (fun z : State => Host.Outcome.next z.takeFrame) (State.receiveFrame_of_idle h)
  · have hcount : (s.received p).checkFrame p bytes = (s.received p).countBad p := by
      refine State.checkFrame_counts ?_
      simp only [crossControl_iff, State.headerBad_iff]
      exact hbad
    exact ⟨_, congrArg (fun z : State => Host.Outcome.next z.takeFrame) ((State.receiveFrame_of_checked htaken).trans hcount),
      State.received_countBad s p⟩
  · exact headerBytes_ne_controlAddr hcls rest

/-! ## Arrival records -/

/-- The cells of a length: the number of 256 bytes begun. -/
theorem cells_bounds (n : Nat) : n ≤ 256 * ((n + 255) / 256) ∧ 256 * ((n + 255) / 256) < n + 256 := by omega

/-- Settles O17: a good frame on an access port or an uplink is classified by the tenant map. -/
theorem plainArrivalRecorded : Obligations.PlainArrivalRecorded := by
  unfold Obligations.PlainArrivalRecorded
  intro s p bytes early htaken hp hlow hhigh hcheck hgroup htype
  have hgood : ¬frameBad bytes bytes = true := by
    rw [frameBad_iff]
    simp [hcheck, hgroup]
    omega
  have hrun : s.receiveFrame p { bytes := bytes, beforeFault := early } = (s.received p).classify p bytes :=
    (State.receiveFrame_of_checked htaken).trans (State.checkFrame_of_plain hp hgood htype)
  have hother : ∀ q, q ≠ p.val → (s.received p).intake q = s.intake q := fun q hq => by rw [State.intake_received, if_neg hq]
  dsimp only
  refine ⟨fun hkey => ?_, fun n hkey => ?_⟩
  · have hcount : (s.received p).classify p bytes = (s.received p).countUnclassified p := by
      unfold State.classify
      split
      · rfl
      · next n hn => exact nomatch hkey.symm.trans hn
    refine ⟨_, congrArg (fun z : State => Host.Outcome.next z.takeFrame) (hrun.trans hcount), rfl, rfl, fun q hq => ?_, ?_⟩
    · rw [State.intake_countUnclassified, if_neg hq, hother q hq]
    · rw [State.intake_countUnclassified, if_pos rfl, State.intake_received, if_pos rfl, bump_eq]
  · have hown : (s.received p).intake p = { s.intake p with reception := .idle } := by rw [State.intake_received, if_pos rfl]
    have hclassify : (s.received p).classify p bytes =
        if p.val < 16 then
          { s.received p with tab := (s.received p).tab.learn n (addrAt bytes 6) p }.forward .access p n
            (s.cfg.classMap.getD (priorityOf bytes) 0) bytes false false
        else (s.received p).forward .uplink p n (s.cfg.classMap.getD (priorityOf bytes) 0) bytes false false := by
      unfold State.classify
      split
      · next hnone => exact nomatch hkey.symm.trans hnone
      · next m hm =>
        cases hkey.symm.trans hm
        rfl
    have hcells := cells_bounds bytes.length
    by_cases haccess : p.val < 16
    · rw [if_pos haccess] at hclassify
      simp only [haccess, if_true]
      exact ⟨_, _, congrArg (fun z : State => Host.Outcome.next z.takeFrame) (hrun.trans hclassify), rfl, rfl, hown, hother, rfl, rfl,
        rfl, rfl, rfl, rfl, hcells.1, hcells.2, rfl, rfl, rfl, rfl, rfl, rfl⟩
    · rw [if_neg haccess] at hclassify
      simp only [haccess, if_false]
      exact ⟨_, _, congrArg (fun z : State => Host.Outcome.next z.takeFrame) (hrun.trans hclassify), rfl, rfl, hown, hother, rfl, rfl,
        rfl, rfl, rfl, rfl, hcells.1, hcells.2, rfl, rfl, rfl, rfl, rfl, rfl⟩

theorem drop_withFrameCheck_header (h : GroupHeader) (inner : List Byte) :
    (withFrameCheck (headerBytes h ++ inner)).drop 4 = inner ++ leBytes 4 (crc32 (headerBytes h ++ inner)).toNat := rfl

/-- Settles O18: a good frame behind a sound group header is recorded as the header says. -/
theorem crossArrivalRecorded : Obligations.CrossArrivalRecorded := by
  unfold Obligations.CrossArrivalRecorded
  intro s p h inner early htaken hp horigin htenant htenant' hcls hmarks hlow hhigh hgroup
  have hbytes : withFrameCheck (headerBytes h ++ inner) =
      headerBytes h ++ (inner ++ leBytes 4 (crc32 (headerBytes h ++ inner)).toNat) := List.append_assoc ..
  have hheader : readHeader (withFrameCheck (headerBytes h ++ inner)) = h := by
    rw [hbytes]
    exact readHeader_headerBytes _ (by rw [horigin]; unfold State.peerOfPort; omega) htenant' hcls
  have hnot : ¬crossControl (withFrameCheck (headerBytes h ++ inner)) = true := fun hc => by
    rw [hbytes] at hc
    exact headerBytes_ne_controlAddr hcls _ (crossControl_iff.1 hc).1
  have hlen : (inner ++ leBytes 4 (crc32 (headerBytes h ++ inner)).toNat).length = inner.length + 4 := by
    rw [List.length_append, length_leBytes]
  have haddr : ∀ i, i + 6 ≤ 60 → addrAt (inner ++ leBytes 4 (crc32 (headerBytes h ++ inner)).toNat) i = addrAt inner i :=
    fun i hi => addrAt_append_left _ (by omega)
  have hgood : ¬(frameBad (withFrameCheck (headerBytes h ++ inner)) ((withFrameCheck (headerBytes h ++ inner)).drop 4) ||
      (s.received p).headerBad p (readHeader (withFrameCheck (headerBytes h ++ inner)))) = true := by
    rw [Bool.or_eq_true, frameBad_iff, State.headerBad_iff, hheader, drop_withFrameCheck_header, hlen, haddr 6 (by decide),
      frameCheckOk_withFrameCheck, hgroup]
    have hpeer : h.origin = (s.received p).peerOfPort p := horigin
    simp only [not_or, Bool.true_eq_false, Bool.false_eq_true, not_false_eq_true, and_true]
    exact ⟨⟨by omega, by omega⟩, fun hne => hne hpeer, by omega, hmarks⟩
  have hrun : s.receiveFrame p { bytes := withFrameCheck (headerBytes h ++ inner), beforeFault := early } =
      (s.received p).forward .cross p h.tenant h.cls (inner ++ leBytes 4 (crc32 (headerBytes h ++ inner)).toNat) h.borrowed
        h.flood := by
    rw [State.receiveFrame_of_checked htaken, State.checkFrame_of_grouped hp hnot, if_neg hgood, hheader,
      drop_withFrameCheck_header]
  have hcells := cells_bounds (inner.length + 4)
  rw [← hlen] at hcells
  refine ⟨_, _, congrArg (fun z : State => Host.Outcome.next z.takeFrame) hrun, rfl, rfl, ?_, fun q hq => ?_, rfl, rfl, rfl, rfl, hlen,
    hcells.1, hcells.2, haddr 6 (by decide), haddr 0 (by decide), rfl, rfl, ?_, ?_⟩
  · exact (State.intake_received s p p).trans (if_pos rfl)
  · exact (State.intake_received s p q).trans (if_neg hq)
  · change (inner ++ leBytes 4 (crc32 (headerBytes h ++ inner)).toNat).take _ = inner
    rw [hlen, Nat.add_sub_cancel, List.take_left]
  · rw [← haddr 6 (by decide), ← haddr 0 (by decide)]
    rfl

/-! ## Hold frames (R168) -/

section

variable (base : Addr) (q time : Nat)

theorem toNat_portAddress : (portAddress base q).toNat = base.toNat / 256 * 256 + (base.toNat % 256 + q) % 256 := by
  have := base.isLt
  unfold portAddress
  rw [BitVec.toNat_ofNat, Nat.mod_eq_of_lt]
  omega

theorem isGroup_portAddress : isGroup (portAddress base q) = isGroup base := by
  unfold isGroup BitVec.getLsbD
  rw [toNat_portAddress, Nat.testBit_eq_decide_div_mod_eq, Nat.testBit_eq_decide_div_mod_eq, decide_eq_decide]
  omega

/-- The bytes of a hold frame before its frame check. -/
theorem holdFrameBytes_eq : holdFrameBytes base q time = controlAddr ++ (addrBytes (portAddress base q) ++
    ([0x88, 0x08, 0x00, 0x01] ++ (beBytes 2 time ++ (List.replicate 42 0 ++ leBytes 4 (crc32 (controlAddr ++
      addrBytes (portAddress base q) ++ [0x88, 0x08, 0x00, 0x01] ++ beBytes 2 time ++ List.replicate 42 0)).toNat)))) := by
  simp only [holdFrameBytes, withFrameCheck, List.append_assoc]

theorem holdFrameBytes_fields (htime : time ≤ 65535) :
    (holdFrameBytes base q time).length = 64 ∧ (holdFrameBytes base q time).take 6 = controlAddr ∧
      addrAt (holdFrameBytes base q time) 6 = portAddress base q ∧ be16 (holdFrameBytes base q time) 12 = 0x8808 ∧
      be16 (holdFrameBytes base q time) 14 = 1 ∧ be16 (holdFrameBytes base q time) 16 = time := by
  have haddress := (portAddress base q).isLt
  rw [holdFrameBytes_eq]
  have hbe16 : ∀ (bs : List Byte) i m n, byteAt bs i = m → byteAt bs (i + 1) = n → be16 bs i = m * 256 + n :=
    fun bs i m n hm hn => by rw [be16, hm, hn]
  refine ⟨by simp [controlAddr, addrBytes, length_beBytes, length_leBytes], rfl, ?_, hbe16 _ 12 0x88 0x08 rfl rfl,
    hbe16 _ 14 0 1 rfl rfl, ?_⟩
  · have htake : ∀ rest, ((controlAddr ++ (addrBytes (portAddress base q) ++ rest)).drop 6).take 6 = addrBytes (portAddress base q) :=
      fun _ => rfl
    unfold addrAt
    rw [htake, addrBytes, beNat_beBytes 6 _ (by omega), BitVec.ofNat_toNat, BitVec.setWidth_eq]
  · rw [hbe16 _ 16 (time / 256 % 256) (time % 256) rfl rfl]
    omega

end

namespace State

variable {s z : State} {p : Nat}

theorem receiveFrame_holdFrame {base : Addr} {q time : Nat} {early : Bool}
    (h : (s.intake p).reception = .taken ∨ (s.intake p).reception = .cut ∧ early = true) (hbase : isGroup base = false)
    (htime : time ≤ 65535) :
    s.receiveFrame p { bytes := holdFrameBytes base q time, beforeFault := early } = (s.received p).receivedHold p time := by
  obtain ⟨hlen, hcontrol, haddr, h12, h14, h16⟩ := holdFrameBytes_fields base q time htime
  have hgood : ¬frameBad (holdFrameBytes base q time) (holdFrameBytes base q time) = true := by
    rw [frameBad_iff, hlen, haddr, isGroup_portAddress, hbase]
    simp [holdFrameBytes, frameCheckOk_withFrameCheck]
  have hoffset := typeOffset_of_control h12
  rw [receiveFrame_of_checked h, checkFrame_of_control (fun _ => crossControl_iff.2 ⟨hcontrol, h12⟩) hgood (by rw [hoffset, h12])]
  unfold State.controlFrame
  rw [hoffset, if_pos h14, h16]

theorem receivedHold_of_not_live (h : z.live p = false) (time : Nat) : z.receivedHold p time = z := if_neg (by simp [h])

theorem receivedHold_starts (h : z.live p = true) {time : Nat} (htime : time ≠ 0) : z.receivedHold p time =
    z.setTx p { z.tx p with rxHold := some time, state := if (z.tx p).state = .idle then .held else (z.tx p).state } := by
  unfold State.receivedHold
  rw [if_pos h, if_neg htime]
  dsimp only
  congr 2
  split <;> simp [*]

theorem receivedHold_zero (h : z.live p = true) : ((z.tx p).rxHold = none → z.receivedHold p 0 = z) ∧
    ((z.tx p).rxHold ≠ none → z.receivedHold p 0 = z.endHold p) := by
  unfold State.receivedHold
  rw [if_pos h, if_pos rfl]
  cases hhold : (z.tx p).rxHold <;> simp

theorem endHold_of_held (h : (z.tx p).state = .held) : z.endHold p =
    (z.setTx p { z.tx p with rxHold := none, heldCount := 0, holdDue := false, state := .idle }).select p := by
  unfold State.endHold
  dsimp only
  split
  · rfl
  · next hstate => simp [hstate] at h
  · next hstate => simp [hstate] at h

theorem endHold_of_not_held (h : (z.tx p).state ≠ .held) : z.endHold p =
    z.setTx p { z.tx p with rxHold := none, heldCount := 0, holdDue := false } := by
  unfold State.endHold
  dsimp only
  split
  · next hstate => exact absurd hstate h
  · rfl
  · rfl

end State

/-- Settles O19: a hold frame comes through the checks to its port's transmitter. -/
theorem holdFramePauses : Obligations.HoldFramePauses := by
  unfold Obligations.HoldFramePauses
  intro s p base q time early htaken hbase htime
  have hrun : exec (.frameReception p { bytes := holdFrameBytes base q time, beforeFault := early }) s =
      .next ((s.received p).receivedHold p time).takeFrame :=
    congrArg (fun z : State => Host.Outcome.next z.takeFrame) (State.receiveFrame_holdFrame htaken hbase htime)
  have hlive : (s.received p).live p = s.live p := rfl
  have htx : (s.received p).tx p = s.tx p := rfl
  refine ⟨fun hpos => ⟨_, hrun, ?_⟩, fun hzero => ?_⟩
  · have hown : (s.received p).intake p = { s.intake p with reception := .idle } := by rw [State.intake_received, if_pos rfl]
    have hother : ∀ r, r ≠ p.val → (s.received p).intake r = s.intake r := fun r hr => by rw [State.intake_received, if_neg hr]
    cases hdead : s.live p with
    | false =>
      rw [State.receivedHold_of_not_live (hlive.trans hdead)]
      exact ⟨rfl, rfl, rfl, hown, fun r hr => ⟨hother r hr, rfl⟩, fun _ => rfl, nofun⟩
    | true =>
      rw [State.receivedHold_starts (hlive.trans hdead) (by omega)]
      refine ⟨rfl, rfl, rfl, hown, fun r hr => ⟨hother r hr, ?_⟩, nofun, fun _ => ?_⟩
      · exact (State.tx_setTx ..).trans (if_neg hr)
      · exact (State.tx_setTx ..).trans (if_pos rfl)
  · subst hzero
    refine ⟨fun hno => ?_, fun hlv hhold => ⟨fun hheld => ?_, fun hheld => ?_⟩⟩
    · cases hdead : s.live p with
      | false => rw [hrun, State.receivedHold_of_not_live (hlive.trans hdead)]; rfl
      | true =>
        rw [hrun, (State.receivedHold_zero (hlive.trans hdead)).1 (by rw [htx]; simpa [hdead] using hno)]
        rfl
    · rw [hrun, (State.receivedHold_zero (hlive.trans hlv)).2 hhold, State.endHold_of_held (htx ▸ hheld)]
      rfl
    · rw [hrun, (State.receivedHold_zero (hlive.trans hlv)).2 hhold, State.endHold_of_not_held (htx ▸ hheld)]
      rfl

/-! ## Admission refused -/

namespace State

variable {s : State} {p : Nat} {a : Arrival} {rest : List Arrival}

theorem admitFrom_of_waiting (h : takeArrival p s.iu.arrivals = some (a, rest)) :
    s.admitFrom p = { s with iu := { s.iu with arrivals := rest } }.admitArrival a := by
  unfold State.admitFrom
  split
  · next b others heq => cases h.symm.trans heq; rfl
  · next hnone => exact nomatch h.symm.trans hnone

theorem admitArrival_of_refused (h : s.admitDecision a (s.withinLimits a) = .refused) : s.admitArrival a =
    { s with bm := { s.bm with refusals := if a.kind = .cross then s.bm.refusals else s.bm.refusals ++ [a.tenant] } } := by
  unfold State.admitArrival
  dsimp only
  split
  · split <;> rfl
  · next hnot => exact absurd h hnot

theorem admitDecision_refused_iff {ds : List Dest} : s.admitDecision a ds = .refused ↔
    ds = [] ∨ s.bm.freeDescriptors < ds.length ∨ s.bm.freeCells < a.cells ∨
      (a.kind ≠ .cross ∧ (s.tenant a.tenant).share < s.inUse a.tenant + a.cells ∧
        (s.cfg.excessCut ≤ s.rc.level ∨ s.bm.freeCells - a.cells < s.cfg.excessReserve)) := by
  unfold State.admitDecision
  split
  · next hshort =>
    refine iff_of_true rfl ?_
    rcases hshort with h | h | h
    · exact .inl h
    · exact .inr (.inl h)
    · exact .inr (.inr (.inl h))
  · next hshort =>
    obtain ⟨hsome, hdesc, hcells⟩ := by simpa only [not_or] using hshort
    simp only [hsome, hdesc, hcells, false_or]
    split
    · next hcross => exact iff_of_false nofun fun h => h.1 hcross
    · next hcross =>
      split
      · exact iff_of_false nofun fun h => by omega
      · split
        · exact iff_of_false nofun fun h => by omega
        · exact iff_of_true rfl ⟨hcross, by omega, by omega⟩

end State

/-- Settles O21: what R12 refuses, and that a refusal only counts. -/
theorem admissionRefuses : Obligations.AdmissionRefuses := by
  unfold Obligations.AdmissionRefuses
  intro s p a rest htake ds hrefuse
  have hdecide : State.admitDecision { s with iu := { s.iu with arrivals := rest } } a
      (State.withinLimits { s with iu := { s.iu with arrivals := rest } } a) = .refused :=
    State.admitDecision_refused_iff.2 hrefuse
  exact congrArg Host.Outcome.next ((State.admitFrom_of_waiting htake).trans (State.admitArrival_of_refused hdecide))

end Sys2Proof.Machine
end

section
/-! The Path Unit (Chapter 5): what each of its operations leaves of the bindings, the borrow records and the lend records, and
which messages it keeps. -/

namespace Sys2Proof.Machine

open Sys2Proof.Config

/-! ## Messages that wait -/

/-- A message that waits stays there when another is queued, unless that one takes its place. -/
theorem mem_placeMsg_of_mem {m n : Msg} {ms : List Msg} (h : m ∈ ms) (hkey : m.sameKey n = true → m = n) : m ∈ placeMsg n ms := by
  induction ms with
  | nil => exact nomatch h
  | cons x xs ih =>
    unfold placeMsg
    split
    · next hsame =>
      rcases List.mem_cons.1 h with rfl | hx
      · rw [hkey hsame]; exact List.mem_cons_self
      · exact List.mem_cons_of_mem _ hx
    · rcases List.mem_cons.1 h with rfl | hx
      · exact List.mem_cons_self
      · exact List.mem_cons_of_mem _ (ih hx)

/-- A borrow record that its event frees when no path is bound toward its peer (R69). -/
def BorrowRecord.freed (b : BorrowRecord) (path : Bool) : BorrowRecord := if b.state.isActive && !path then b.ended else b

theorem BorrowRecord.freed_freed (b : BorrowRecord) (path : Bool) : (b.freed path).freed path = b.freed path := by
  unfold BorrowRecord.freed
  split <;> simp [*, BorrowRecord.ended, BorrowState.isActive]

theorem BorrowRecord.freed_of_not_active {b : BorrowRecord} (h : b.state.isActive = false) (path : Bool) : b.freed path = b := by
  simp [BorrowRecord.freed, h]

theorem BorrowRecord.freed_of_path (b : BorrowRecord) : b.freed true = b := by simp [BorrowRecord.freed]

theorem BorrowRecord.freed_exclusion (b : BorrowRecord) (path : Bool) :
    (b.freed path).exclusion = b.exclusion ∧ (b.freed path).noUplink = b.noUplink := by
  unfold BorrowRecord.freed
  split <;> exact ⟨rfl, rfl⟩

theorem BorrowRecord.abandoned_exclusion (b : BorrowRecord) :
    b.abandoned.exclusion = b.exclusion ∧ b.abandoned.noUplink = b.noUplink := by
  unfold BorrowRecord.abandoned
  split <;> exact ⟨rfl, rfl⟩

theorem BorrowRecord.abandoned_of_ne {b : BorrowRecord} (h : b.state ≠ .requested .fault) : b.abandoned = b := if_neg h

/-- A borrow record for which a request has been made (R72). -/
def BorrowRecord.requested (b : BorrowRecord) (r : Reason) : BorrowRecord :=
  { b with state := .requested r, timer := 2, upgrade := false }

namespace State

variable {s t z : State}

/-! ## What the Path Unit reads -/

/-- The states agree on what the Path Unit reads beside its own tables: image, settings, links and peers. -/
def SameGround (s t : State) : Prop := t.il = s.il ∧ t.cfg = s.cfg ∧ t.ls = s.ls ∧ t.pv = s.pv

theorem SameGround.peers (h : s.SameGround t) : t.peers = s.peers := by unfold State.peers; rw [h.1]

theorem SameGround.live (h : s.SameGround t) (p : Nat) : t.live p = s.live p := live_congr h.2.2.1 p

theorem SameGround.anyUplink (h : s.SameGround t) : t.anyUplink = s.anyUplink := by
  unfold State.anyUplink; rw [h.live, h.live]

theorem SameGround.crossPort (h : s.SameGround t) (k : Nat) : t.crossPort k = s.crossPort k := by
  unfold State.crossPort; rw [h.1]

theorem SameGround.crossLive (h : s.SameGround t) (k : Nat) : t.crossLive k = s.crossLive k := by
  unfold State.crossLive; rw [h.live, h.crossPort]

theorem SameGround.homePort (h : s.SameGround t) (i : Nat) : t.homePort i = s.homePort i := by
  unfold State.homePort; rw [h.2.1]

theorem SameGround.peer (h : s.SameGround t) (k : Nat) : t.peer k = s.peer k := by unfold State.peer; rw [h.2.2.2]

theorem SameGround.peerLive (h : s.SameGround t) (k : Nat) : t.peerLive k = s.peerLive k := by
  unfold State.peerLive; rw [h.peer]

theorem SameGround.trans {u : State} (h : s.SameGround t) (h' : t.SameGround u) : s.SameGround u :=
  ⟨h'.1.trans h.1, h'.2.1.trans h.2.1, h'.2.2.1.trans h.2.2.1, h'.2.2.2.trans h.2.2.2⟩

theorem binding_congr (h : t.pu.bindings = s.pu.bindings) (i : Nat) : t.binding i = s.binding i := by
  unfold State.binding; rw [h]

theorem borrow_congr (h : t.pu.borrows = s.pu.borrows) (k : Nat) : t.borrow k = s.borrow k := by
  unfold State.borrow; rw [h]

theorem lend_congr (h : t.pu.lends = s.pu.lends) (k : Nat) : t.lend k = s.lend k := by unfold State.lend; rw [h]

theorem hasPathToward_congr (h : ∀ i ∈ paths, t.binding i = s.binding i) (k : Nat) : t.hasPathToward k = s.hasPathToward k := by
  unfold State.hasPathToward
  rw [Bool.eq_iff_iff, List.any_eq_true, List.any_eq_true]
  exact exists_congr fun i => and_congr_right fun hi => by rw [h i hi]

theorem hasUnbound_congr (h : ∀ i ∈ paths, t.binding i = s.binding i) : t.hasUnbound = s.hasUnbound := by
  unfold State.hasUnbound
  rw [Bool.eq_iff_iff, List.any_eq_true, List.any_eq_true]
  exact exists_congr fun i => and_congr_right fun hi => by rw [h i hi]

theorem hasUnbound_iff : s.hasUnbound = true ↔ ∃ i ∈ paths, s.binding i = .unbound := by simp [State.hasUnbound]

theorem hasPathToward_iff {k : Nat} : s.hasPathToward k = true ↔ ∃ i ∈ paths, (s.binding i).toward = some k := by
  simp [State.hasPathToward]

theorem lender_congr (hp : t.peers = s.peers) (h : ∀ k ∈ s.peers, (t.borrow k).state = (s.borrow k).state) (r : Reason) :
    t.lender r = s.lender r := by
  unfold State.lender
  rw [hp]
  exact List.find?_congr fun k hk => by rw [h k hk]

/-! ## Records freed, abandoned, requested -/

/-- A change of the borrow records and of the messages, and of nothing else. -/
def Rerecorded (s t : State) : Prop := t = { s with pu := { s.pu with borrows := t.pu.borrows }, xc := t.xc }

namespace Rerecorded

variable (h : s.Rerecorded t)
include h

theorem ground : s.SameGround t := by rw [h]; exact ⟨rfl, rfl, rfl, rfl⟩

theorem binding (i : Nat) : t.binding i = s.binding i := by rw [h]; rfl

theorem lend (k : Nat) : t.lend k = s.lend k := by rw [h]; rfl

theorem hasUnbound : t.hasUnbound = s.hasUnbound := hasUnbound_congr fun i _ => h.binding i

theorem hasPathToward (k : Nat) : t.hasPathToward k = s.hasPathToward k := hasPathToward_congr (fun i _ => h.binding i) k

theorem trans {u : State} (h' : t.Rerecorded u) : s.Rerecorded u := by
  unfold Rerecorded at *
  generalize u.pu.borrows = b at h'
  generalize u.xc = x at h'
  subst h'
  generalize t.pu.borrows = b' at h
  generalize t.xc = x' at h
  subst h
  rfl

end Rerecorded

theorem Rerecorded.refl (s : State) : s.Rerecorded s := rfl

theorem rerecorded_setBorrow (s : State) (k : Nat) (b : BorrowRecord) : s.Rerecorded (s.setBorrow k b) := rfl

theorem rerecorded_of_line {x : CrosslineController} : s.Rerecorded { s with xc := x } := rfl

theorem rerecorded_sendReturn (s : State) (k : Nat) : s.Rerecorded (s.sendReturn k) := rfl

theorem rerecorded_request (s : State) (k : Nat) (r : Reason) : s.Rerecorded (s.request k r) := rfl

theorem rerecorded_freeRecord (s : State) (k : Nat) : s.Rerecorded (s.freeRecord k) := by
  unfold State.freeRecord
  split
  · dsimp only
    split <;> rfl
  · rfl

theorem rerecorded_each {f : State → Nat → State} (hf : ∀ (z : State) k, z.Rerecorded (f z k)) (s : State) (ks : List Nat) :
    s.Rerecorded (s.each ks f) :=
  foldl_induct (f := f) (P := fun z => s.Rerecorded z) (fun z k hz => hz.trans (hf z k)) ks (.refl s)

theorem rerecorded_freeRecords (s : State) (ks : List Nat) : s.Rerecorded (s.each ks State.freeRecord) :=
  rerecorded_each rerecorded_freeRecord s ks

theorem rerecorded_mapBorrows (s : State) (ks : List Nat) (f : BorrowRecord → BorrowRecord) : s.Rerecorded (s.mapBorrows ks f) :=
  rerecorded_each (fun z k => rerecorded_setBorrow z k _) s ks

theorem rerecorded_abandonFault (s : State) : s.Rerecorded s.abandonFault := by
  unfold State.abandonFault
  split
  · rfl
  · exact rerecorded_mapBorrows ..

theorem rerecorded_faultRequest (s : State) : s.Rerecorded s.faultRequest := by
  unfold State.faultRequest
  split
  · split
    · exact rerecorded_request ..
    · rfl
  · rfl

theorem rerecorded_settlePaths (s : State) : s.Rerecorded s.settlePaths :=
  ((rerecorded_freeRecords s s.peers).trans (rerecorded_abandonFault _)).trans (rerecorded_faultRequest _)

theorem borrow_freeRecord (s : State) (k j : Nat) :
    (s.freeRecord k).borrow j = if j = k then (s.borrow k).freed (s.hasPathToward k) else s.borrow j := by
  unfold State.freeRecord BorrowRecord.freed
  split
  · next h =>
    dsimp only
    have hset : ((s.setBorrow k (s.borrow k).ended).sendReturn k).borrow j = (s.setBorrow k (s.borrow k).ended).borrow j := rfl
    split
    · rw [hset, borrow_setBorrow]
    · rw [borrow_setBorrow]
  · split
    · next hjk => rw [hjk]
    · rfl

theorem borrow_freeRecords (s : State) (ks : List Nat) (j : Nat) :
    (s.each ks State.freeRecord).borrow j = if j ∈ ks then (s.borrow j).freed (s.hasPathToward j) else s.borrow j := by
  induction ks generalizing s with
  | nil => rfl
  | cons k ks ih =>
    rw [show s.each (k :: ks) State.freeRecord = (s.freeRecord k).each ks State.freeRecord from rfl, ih,
      (rerecorded_freeRecord s k).hasPathToward, borrow_freeRecord]
    by_cases hjk : j = k
    · subst hjk; simp [BorrowRecord.freed_freed]
    · simp [hjk]

theorem borrow_abandonFault (s : State) (j : Nat) :
    s.abandonFault.borrow j = if s.hasUnbound = false ∧ j ∈ s.peers then (s.borrow j).abandoned else s.borrow j := by
  unfold State.abandonFault
  cases s.hasUnbound with
  | true => simp
  | false => simp [borrow_mapBorrows s (nodup_peers s)]

/-- Does an event call for a fault request (R72)? -/
def callsFault (s : State) : Prop := s.hasUnbound = true ∧ s.lender .fault = none

theorem faultRequest_of_calls (h : s.callsFault) {k : Nat} (hk : s.candidate .fault = some k) :
    s.faultRequest = s.request k .fault := by
  unfold State.faultRequest State.hasFaultRecord State.faultBorrow
  rw [h.1, h.2, hk]
  rfl

theorem faultRequest_of_no_candidate (hk : s.candidate .fault = none) : s.faultRequest = s := by
  unfold State.faultRequest
  rw [hk]
  split <;> rfl

theorem faultRequest_of_not_calls (h : ¬s.callsFault) : s.faultRequest = s := by
  unfold State.faultRequest State.hasFaultRecord State.faultBorrow
  rw [if_neg]
  intro hcall
  rw [Bool.and_eq_true] at hcall
  exact h ⟨hcall.1, by simpa using hcall.2⟩

theorem faultRequest_of_bound (h : s.hasUnbound = false) : s.faultRequest = s :=
  faultRequest_of_not_calls fun hc => nomatch h.symm.trans hc.1

theorem borrow_request (s : State) (k : Nat) (r : Reason) (j : Nat) :
    (s.request k r).borrow j = if j = k then (s.borrow k).requested r else s.borrow j := borrow_setBorrow ..

/-- A fault request changes the record of its candidate at most. -/
theorem borrow_faultRequest (s : State) (j : Nat) : s.faultRequest.borrow j = s.borrow j ∨
    (s.callsFault ∧ s.candidate .fault = some j ∧ s.faultRequest.borrow j = (s.borrow j).requested .fault) := by
  by_cases hcall : s.callsFault
  · cases hk : s.candidate .fault with
    | none => exact .inl (by rw [faultRequest_of_no_candidate hk])
    | some k =>
      rw [faultRequest_of_calls hcall hk, borrow_request]
      by_cases hj : j = k
      · subst hj; exact .inr ⟨hcall, rfl, if_pos rfl⟩
      · exact .inl (if_neg hj)
  · exact .inl (by rw [faultRequest_of_not_calls hcall])

/-! ## The candidate (R71) -/

/-- The level a peer's stored LEVEL shows. -/
def shownLevel (s : State) (k : Nat) : Nat := match (s.peer k).stored with
  | some l => l.level
  | none => 0

theorem betterLender_iff {a b : Nat} {x y : LevelFields} (ha : (s.peer a).stored = some x) (hb : (s.peer b).stored = some y) :
    betterLender s a b = true ↔ s.shownLevel a < s.shownLevel b ∨ s.shownLevel a = s.shownLevel b ∧ a < b := by
  simp [betterLender, State.shownLevel, ha, hb]

/-- The conditions of R71 on peer k as a lender for a reason. -/
def qualifies (s : State) (r : Reason) (k : Nat) : Bool := match r with
  | .fault => s.eligible k
  | .relief => s.eligibleRelief k

/-- The better of two lenders, as the candidate is chosen. -/
def better (s : State) (best : Option Nat) (k : Nat) : Option Nat := match best with
  | none => some k
  | some b => if betterLender s k b then some k else some b

theorem candidate_eq (s : State) (r : Reason) : s.candidate r = (s.peers.filter (s.qualifies r)).foldl s.better none := by
  unfold State.candidate State.qualifies State.better
  cases r <;> rfl

theorem foldl_better_isSome (s : State) (ks : List Nat) {best : Option Nat} (h : best.isSome = true) :
    (ks.foldl s.better best).isSome = true := by
  induction ks generalizing best with
  | nil => exact h
  | cons k ks ih =>
    refine ih ?_
    unfold State.better
    split
    · rfl
    · split <;> rfl

/-- Of the lenders gone through, and the best before, the one that comes first. -/
theorem foldl_better_least (s : State) {ks : List Nat} (hstored : ∀ k ∈ ks, (s.peer k).stored.isSome = true) {best : Option Nat}
    (hbest : ∀ b, best = some b → (s.peer b).stored.isSome = true) {k : Nat} (h : ks.foldl s.better best = some k) :
    (k ∈ ks ∨ best = some k) ∧ ∀ j, j ∈ ks ∨ best = some j →
      s.shownLevel k < s.shownLevel j ∨ s.shownLevel k = s.shownLevel j ∧ k ≤ j := by
  induction ks generalizing best with
  | nil =>
    have hk : best = some k := h
    refine ⟨.inr hk, fun j hj => ?_⟩
    rcases hj with hj | hj
    · exact nomatch hj
    · cases hk.symm.trans hj; exact .inr ⟨rfl, Nat.le_refl k⟩
  | cons a ks ih =>
    have ha := hstored a (by simp)
    have hnext : ∀ b, s.better best a = some b → (b = a ∨ best = some b) ∧ (s.peer b).stored.isSome = true ∧
        ∀ c, c = a ∨ best = some c → s.shownLevel b < s.shownLevel c ∨ s.shownLevel b = s.shownLevel c ∧ b ≤ c := by
      intro b hb
      cases hb0 : best with
      | none =>
        rw [hb0] at hb
        cases (show some a = some b from hb)
        refine ⟨.inl rfl, ha, fun c hc => ?_⟩
        rcases hc with rfl | hc
        · exact .inr ⟨rfl, Nat.le_refl c⟩
        · exact nomatch hc
      | some b0 =>
        have hs0 := hbest b0 hb0
        obtain ⟨x, hx⟩ := Option.isSome_iff_exists.1 ha
        obtain ⟨y, hy⟩ := Option.isSome_iff_exists.1 hs0
        rw [hb0] at hb
        have hcmp := betterLender_iff hx hy
        have hval : (if betterLender s a b0 then some a else some b0) = some b := hb
        split at hval
        · next hless =>
          cases hval
          refine ⟨.inl rfl, ha, fun c hc => ?_⟩
          rcases hc with rfl | hc
          · exact .inr ⟨rfl, Nat.le_refl c⟩
          · cases hc
            have := hcmp.1 hless
            omega
        · next hless =>
          cases hval
          refine ⟨.inr rfl, hs0, fun c hc => ?_⟩
          rcases hc with rfl | hc
          · have := mt hcmp.2 hless
            omega
          · cases hc; exact .inr ⟨rfl, Nat.le_refl b⟩
    obtain ⟨hmem, hleast⟩ := ih (fun k hk => hstored k (by simp [hk])) (fun b hb => (hnext b hb).2.1) h
    have hfirst : ∀ b, s.better best a = some b → s.shownLevel k < s.shownLevel b ∨ s.shownLevel k = s.shownLevel b ∧ k ≤ b :=
      fun b hb => hleast b (.inr hb)
    refine ⟨?_, fun j hj => ?_⟩
    · rcases hmem with hk | hk
      · exact .inl (List.mem_cons_of_mem a hk)
      · rcases (hnext k hk).1 with rfl | hb
        · exact .inl List.mem_cons_self
        · exact .inr hb
    · by_cases hj' : j ∈ ks
      · exact hleast j (.inl hj')
      · have hja : j = a ∨ best = some j := by
          rcases hj with hj | hj
          · exact .inl ((List.mem_cons.1 hj).resolve_right hj')
          · exact .inr hj
        have hsome : (s.better best a).isSome = true := by
          unfold State.better
          split
          · rfl
          · split <;> rfl
        obtain ⟨b, hb⟩ := Option.isSome_iff_exists.1 hsome
        have h1 := hfirst b hb
        have h2 := (hnext b hb).2.2 j hja
        omega

theorem eligible_iff {k : Nat} : s.eligible k = true ↔ (s.peer k).state = .live ∧ s.crossLive k = true ∧ (s.borrow k).exclusion = 0 ∧
    ∃ l, (s.peer k).stored = some l ∧ (l.u0.isLive = true ∨ l.u1.isLive = true) := by
  unfold State.eligible State.peerLive
  cases (s.peer k).stored <;> simp [and_assoc]

theorem eligibleRelief_iff {k : Nat} : s.eligibleRelief k = true ↔ s.eligible k = true ∧
    (∃ l, (s.peer k).stored = some l ∧ l.lendOffer = true) ∧ s.lender .fault ≠ some k ∧
    (s.lend k).map LendRecord.reason ≠ some .relief := by
  unfold State.eligibleRelief
  cases (s.peer k).stored <;> cases (s.lend k) <;> simp [and_assoc]

theorem qualifies_eligible {r : Reason} {k : Nat} (h : s.qualifies r k = true) : s.eligible k = true := by
  cases r with
  | fault => exact h
  | relief => exact (eligibleRelief_iff.1 h).1

theorem candidate_qualifies {r : Reason} {k : Nat} (h : s.candidate r = some k) : k ∈ s.peers ∧ s.qualifies r k = true := by
  rw [candidate_eq] at h
  have hstored : ∀ j ∈ s.peers.filter (s.qualifies r), (s.peer j).stored.isSome = true := fun j hj => by
    obtain ⟨l, hl, -⟩ := (eligible_iff.1 (qualifies_eligible (List.mem_filter.1 hj).2)).2.2.2
    rw [hl]; rfl
  exact List.mem_filter.1 (((foldl_better_least s hstored (best := none) nofun h).1).resolve_right nofun)

end State

/-! ## The choice of a lender -/

theorem LinkState.isLive_iff {l : LinkState} : l.isLive = true ↔ l = .up ∨ l = .suspect := by cases l <;> simp [LinkState.isLive]

/-- Settles O33: the candidate is the first, by level and number, of the peers that qualify. -/
theorem lenderChosen : Obligations.LenderChosen := by
  unfold Obligations.LenderChosen
  intro s r
  dsimp only
  have hmeets : ∀ k, (k ∈ s.peers ∧ (s.peer k).state = .live ∧ s.live (s.crossPort k) = true ∧
      (s.borrow k).exclusion = 0 ∧ ∃ l, (s.peer k).stored = some l ∧
        (l.u0 = .up ∨ l.u0 = .suspect ∨ l.u1 = .up ∨ l.u1 = .suspect) ∧
        (r = .relief → l.lendOffer = true ∧ s.lender .fault ≠ some k ∧ (s.lend k).map LendRecord.reason ≠ some .relief)) ↔
      k ∈ s.peers.filter (s.qualifies r) := fun k => by
    rw [List.mem_filter]
    refine and_congr_right fun _ => ?_
    have huplink : ∀ l : LevelFields, (l.u0 = .up ∨ l.u0 = .suspect ∨ l.u1 = .up ∨ l.u1 = .suspect) ↔
        l.u0.isLive = true ∨ l.u1.isLive = true := fun l => by rw [LinkState.isLive_iff, LinkState.isLive_iff, or_assoc]
    simp only [huplink]
    cases r with
    | fault =>
      refine Iff.trans ?_ State.eligible_iff.symm
      simp [State.crossLive]
    | relief =>
      refine Iff.trans ?_ State.eligibleRelief_iff.symm
      rw [State.eligible_iff]
      cases (s.peer k).stored with
      | none => simp
      | some l => simp [State.crossLive]; tauto
  simp only [hmeets, State.candidate_eq]
  have hstored : ∀ j ∈ s.peers.filter (s.qualifies r), (s.peer j).stored.isSome = true := fun j hj => by
    obtain ⟨l, hl, -⟩ := (State.eligible_iff.1 (State.qualifies_eligible (List.mem_filter.1 hj).2)).2.2.2
    rw [hl]; rfl
  refine ⟨fun k hk => ?_, fun hnone k hk => ?_⟩
  · obtain ⟨hmem, hleast⟩ := State.foldl_better_least s hstored (best := none) nofun hk
    exact ⟨hmem.resolve_right nofun, fun j hj => hleast j (.inl hj)⟩
  · cases hks : s.peers.filter (s.qualifies r) with
    | nil => rw [hks] at hk; exact nomatch hk
    | cons a ks =>
      rw [hks] at hnone
      have hsome := State.foldl_better_isSome s ks (best := s.better none a) rfl
      rw [show ks.foldl s.better (s.better none a) = none from hnone] at hsome
      exact nomatch hsome

end Sys2Proof.Machine
end

section
/-! The events of the borrower and the lender (R73 to R76, R80, R81): what settles after the paths have moved, and what each
message leaves. -/

namespace Sys2Proof.Machine

open Sys2Proof.Config

namespace State

variable {s t z : State}

/-! ## Re-placed paths -/

theorem binding_replacePaths (s : State) (e : Option Nat) (p : Nat → Binding → Bool) (j : Nat) :
    (s.replacePaths e p).binding j = if j ∈ paths ∧ p j (s.binding j) = true then s.replacement e j else s.binding j := by
  unfold State.replacePaths
  rw [binding_rebind]
  exact if_congr (by simp) rfl rfl

theorem binding_bindUnbound (s : State) (k j : Nat) :
    (s.bindUnbound k).binding j = if j ∈ paths ∧ s.binding j = .unbound then .replacePeer k else s.binding j := by
  unfold State.bindUnbound
  rw [binding_rebind]
  exact if_congr (by simp) rfl rfl

/-- A change of the bindings and of nothing else. -/
def Rebound (s t : State) : Prop := t = { s with pu := { s.pu with bindings := t.pu.bindings } }

theorem rebound_rebind (s : State) (is : List Nat) (f : Nat → Binding) : s.Rebound (s.rebind is f) :=
  foldl_induct (f := fun (z : State) i => z.setBinding i (f i)) (P := fun z => s.Rebound z) (fun z i hz => by
    unfold Rebound at *
    rw [show z.setBinding i (f i) = { z with pu := { z.pu with bindings := (z.setBinding i (f i)).pu.bindings } } from rfl]
    generalize (z.setBinding i (f i)).pu.bindings = b
    rw [hz]) is rfl

theorem Rebound.ground (h : s.Rebound t) : s.SameGround t := by rw [h]; exact ⟨rfl, rfl, rfl, rfl⟩

theorem Rebound.borrow (h : s.Rebound t) (k : Nat) : t.borrow k = s.borrow k := by rw [h]; rfl

theorem Rebound.lend (h : s.Rebound t) (k : Nat) : t.lend k = s.lend k := by rw [h]; rfl

theorem rebound_replacePaths (s : State) (e : Option Nat) (p : Nat → Binding → Bool) : s.Rebound (s.replacePaths e p) :=
  rebound_rebind ..

theorem faultTarget_spec {e : Option Nat} {f : Nat} (h : s.faultTarget e = some f) :
    f ∈ s.peers ∧ (s.borrow f).state = .active .fault ∧ (s.borrow f).upgrade = false ∧ e ≠ some f := by
  have hmem := List.mem_of_find?_eq_some h
  have hp := List.find?_some h
  simp only [Bool.and_eq_true, beq_iff_eq, Bool.not_eq_true', bne_iff_ne, ne_eq] at hp
  exact ⟨hmem, hp.1.1, hp.1.2, hp.2⟩

theorem replacement_of_home {i : Nat} (e : Option Nat) (h : s.live (s.homePort i) = true) : s.replacement e i = .home := if_pos h

theorem replacement_of_other {i : Nat} (e : Option Nat) (h : s.live (s.homePort i) = false)
    (ho : s.live (otherUplink (s.homePort i)) = true) : s.replacement e i = .replaceUplink := by
  unfold State.replacement
  rw [if_neg (by simp [h]), if_pos ho]

/-- With neither uplink live a path is re-placed toward the fault lender, or left UNBOUND. -/
theorem replacement_of_dead {i : Nat} (e : Option Nat) (h : s.live (s.homePort i) = false)
    (ho : s.live (otherUplink (s.homePort i)) = false) :
    (∃ f, s.faultTarget e = some f ∧ s.replacement e i = .replacePeer f) ∨ (s.faultTarget e = none ∧ s.replacement e i = .unbound) := by
  unfold State.replacement
  rw [if_neg (by simp [h]), if_neg (by simp [ho])]
  cases s.faultTarget e with
  | none => exact .inr ⟨rfl, rfl⟩
  | some f => exact .inl ⟨f, rfl, rfl⟩

/-- A re-placed path is not bound toward the peer whose arrangement ends. -/
theorem replacement_toward {i : Nat} (k : Nat) : (s.replacement (some k) i).toward ≠ some k := by
  cases h : s.live (s.homePort i) with
  | true => rw [replacement_of_home _ h]; exact nofun
  | false =>
    cases ho : s.live (otherUplink (s.homePort i)) with
    | true => rw [replacement_of_other _ h ho]; exact nofun
    | false =>
      rcases replacement_of_dead (some k) h ho with ⟨f, hf, hr⟩ | ⟨-, hr⟩
      · rw [hr]
        intro heq
        exact (faultTarget_spec hf).2.2.2 (congrArg some (Option.some.inj heq).symm)
      · rw [hr]; exact nofun

theorem borrow_loseLender (s : State) (k : Nat) (noUplink : Bool) (j : Nat) :
    (s.loseLender k noUplink).borrow j = if j = k then (s.borrow k).ended.excluded noUplink else s.borrow j := by
  unfold State.loseLender
  dsimp only
  rw [borrow_setBorrow, (rebound_replacePaths ..).borrow, (rebound_replacePaths ..).borrow]

theorem binding_loseLender (s : State) (k : Nat) (noUplink : Bool) {j : Nat} (hj : j ∈ paths) : (s.loseLender k noUplink).binding j =
    if (s.binding j).toward = some k then s.replacement (some k) j else s.binding j := by
  have hset : (s.loseLender k noUplink).binding j =
      (s.replacePaths (some k) (fun _ b => b.toward == some k)).binding j := rfl
  rw [hset, binding_replacePaths]
  exact if_congr (by simp [hj]) rfl rfl

/-! ## What settles (R69, R72) -/

/-- A record as it stands when its path-less ACTIVE records are freed, and, with no path UNBOUND, a fault request is abandoned. -/
def cleared (s : State) (j : Nat) : BorrowRecord :=
  if s.hasUnbound then (s.borrow j).freed (s.hasPathToward j) else ((s.borrow j).freed (s.hasPathToward j)).abandoned

theorem borrow_cleared (s : State) {j : Nat} (hj : j ∈ s.peers) :
    (s.each s.peers State.freeRecord).abandonFault.borrow j = s.cleared j := by
  have hfreed := rerecorded_freeRecords s s.peers
  rw [borrow_abandonFault, hfreed.hasUnbound, hfreed.ground.peers, borrow_freeRecords, if_pos hj, State.cleared]
  cases s.hasUnbound <;> simp [hj]

theorem cleared_exclusion (s : State) (j : Nat) : (s.cleared j).exclusion = (s.borrow j).exclusion ∧
    (s.cleared j).noUplink = (s.borrow j).noUplink := by
  unfold State.cleared
  split
  · exact BorrowRecord.freed_exclusion ..
  · rw [(BorrowRecord.abandoned_exclusion _).1, (BorrowRecord.abandoned_exclusion _).2]
    exact BorrowRecord.freed_exclusion ..

theorem not_peer_cleared (s : State) {j : Nat} (hj : j ∉ s.peers) :
    (s.each s.peers State.freeRecord).abandonFault.borrow j = s.borrow j := by
  have hfreed := rerecorded_freeRecords s s.peers
  rw [borrow_abandonFault, hfreed.ground.peers, borrow_freeRecords, if_neg hj, if_neg fun h => hj h.2]

/-- What settling leaves of a peer's record: it is cleared, or is the candidate of the fault request made. -/
theorem borrow_settlePaths (s : State) {j : Nat} (hj : j ∈ s.peers) : s.settlePaths.borrow j = s.cleared j ∨
    (s.hasUnbound = true ∧ (s.borrow j).exclusion = 0 ∧ s.settlePaths.borrow j = (s.cleared j).requested .fault) := by
  have hclear := borrow_cleared s hj
  have hground := ((rerecorded_freeRecords s s.peers).trans (rerecorded_abandonFault _))
  unfold State.settlePaths
  rcases borrow_faultRequest (s.each s.peers State.freeRecord).abandonFault j with h | ⟨hcall, hcand, h⟩
  · exact .inl (h.trans hclear)
  · refine .inr ⟨hground.hasUnbound ▸ hcall.1, ?_, by rw [h, hclear]⟩
    have hexcl := (eligible_iff.1 (qualifies_eligible (candidate_qualifies hcand).2)).2.2.1
    rwa [hclear, (cleared_exclusion s j).1] at hexcl

theorem borrow_settlePaths_of_bound (s : State) {j : Nat} (hj : j ∈ s.peers) (h : s.hasUnbound = false) :
    s.settlePaths.borrow j = ((s.borrow j).freed (s.hasPathToward j)).abandoned := by
  rcases borrow_settlePaths s hj with hc | ⟨hu, -⟩
  · rw [hc, State.cleared, h]; rfl
  · exact nomatch h.symm.trans hu

/-- A record that is NONE and excluded stays. -/
theorem borrow_settlePaths_of_excluded (s : State) {j : Nat} (hnone : (s.borrow j).state = .none) (hexcl : (s.borrow j).exclusion ≠ 0) :
    s.settlePaths.borrow j = s.borrow j := by
  by_cases hj : j ∈ s.peers
  · rcases borrow_settlePaths s hj with hc | ⟨-, h0, -⟩
    · rw [hc, State.cleared, BorrowRecord.freed_of_not_active (by rw [hnone]; rfl),
        BorrowRecord.abandoned_of_ne (by rw [hnone]; exact nofun), ite_self]
    · exact absurd h0 hexcl
  · have hclear := not_peer_cleared s hj
    unfold State.settlePaths
    rcases borrow_faultRequest (s.each s.peers State.freeRecord).abandonFault j with h | ⟨-, hcand, -⟩
    · exact h.trans hclear
    · refine absurd ?_ hj
      have hmem := (candidate_qualifies hcand).1
      rwa [((rerecorded_freeRecords s s.peers).trans (rerecorded_abandonFault _)).ground.peers] at hmem

/-! ## Reports and messages -/

theorem urgent_queueLevel (s : State) : s.queueLevel.xc.urgent = s.xc.urgent := by
  unfold State.queueLevel
  split <;> rfl

theorem urgent_reofferLend (s : State) : s.reofferLend.xc.urgent = s.xc.urgent := by
  unfold State.reofferLend
  split
  · rfl
  · exact urgent_queueLevel _

theorem urgent_reportPaths (b s : State) : (b.reportPaths s).xc.urgent = s.xc.urgent := by
  unfold State.reportPaths
  dsimp only
  repeat' split
  · rfl
  · exact urgent_queueLevel _
  · exact urgent_reofferLend _
  · exact (urgent_reofferLend _).trans (urgent_queueLevel _)

/-- A waiting message that a queued LEVEL does not replace by another. -/
def Waits (m : Msg) (s : State) : Prop := m ∈ s.xc.normal ∧ (m.sameKey .level = true → m = .level)

theorem waits_queueLevel {m : Msg} (h : Waits m s) : Waits m s.queueLevel := by
  unfold State.queueLevel
  split
  · exact ⟨mem_placeMsg_of_mem h.1 h.2, h.2⟩
  · exact h

theorem waits_reofferLend {m : Msg} (h : Waits m s) : Waits m s.reofferLend := by
  unfold State.reofferLend
  split
  · exact h
  · exact waits_queueLevel (s := { s with rc := { s.rc with lendOffer := s.offerNow } }) h

theorem waits_reportPaths {m : Msg} (b : State) (h : Waits m s) : Waits m (b.reportPaths s) := by
  unfold State.reportPaths
  dsimp only
  repeat' split
  · exact h
  · exact waits_queueLevel h
  · exact waits_reofferLend h
  · exact waits_reofferLend (waits_queueLevel h)

theorem level_waits_queueLevel (h : s.il.state = .configured) : Waits .level s.queueLevel := by
  unfold State.queueLevel
  rw [if_pos (configured_iff.2 h)]
  exact ⟨mem_placeMsg_self .., fun _ => rfl⟩

/-- A change of what a LEVEL says of the paths queues a LEVEL. -/
theorem level_waits_reportPaths {b : State} (hconf : s.il.state = .configured) (h : b.pathReport ≠ s.pathReport) :
    Waits .level (b.reportPaths s) := by
  unfold State.reportPaths
  rw [if_neg h]
  dsimp only
  split
  · exact level_waits_queueLevel hconf
  · exact waits_reofferLend (level_waits_queueLevel hconf)

theorem level_of_lendCount {b : State} (hconf : s.il.state = .configured) (h : (b.reportPaths s).lendCount ≠ b.lendCount) :
    .level ∈ (b.reportPaths s).xc.normal := by
  have hpeers : (b.reportPaths s).peers = s.peers := by unfold State.peers; simp
  have hcount : (b.reportPaths s).lendCount = s.lendCount := by
    unfold State.lendCount
    rw [hpeers]
    exact congrArg List.length (List.filter_congr fun k _ => by rw [lend_congr (s := s) (by simp)])
  refine (level_waits_reportPaths hconf fun heq => h ?_).1
  rw [hcount]
  exact (congrArg (fun r => r.2.2.2) heq).symm

theorem waits_sendReturn {m : Msg} (j : Nat) (h : Waits m s) : Waits m (s.sendReturn j) ∨ m.sameKey (.ret j) = true := by
  by_cases hkey : m.sameKey (.ret j) = true
  · exact .inr hkey
  · exact .inl ⟨mem_placeMsg_of_mem h.1 fun h => absurd h hkey, h.2⟩

theorem ret_waits_sendReturn (k : Nat) : Waits (.ret k) (s.sendReturn k) := ⟨mem_placeMsg_self .., nofun⟩

/-- A RETURN that waits stays while other records are freed. -/
theorem ret_waits_freeRecord {k : Nat} (j : Nat) (h : Waits (.ret k) s) : Waits (.ret k) (s.freeRecord j) := by
  unfold State.freeRecord
  split
  · dsimp only
    split
    · refine ⟨mem_placeMsg_of_mem h.1 fun hkey => ?_, h.2⟩
      have : k = j := by simpa [Msg.sameKey, Msg.kind, Msg.dest] using hkey
      rw [this]
    · exact h
  · exact h

theorem ret_waits_freeRecords {k : Nat} (js : List Nat) (h : Waits (.ret k) s) : Waits (.ret k) (s.each js State.freeRecord) :=
  foldl_induct (f := State.freeRecord) (P := Waits (.ret k)) (fun _ j hz => ret_waits_freeRecord j hz) js h

theorem urgent_freeRecords (s : State) (js : List Nat) : (s.each js State.freeRecord).xc.urgent = s.xc.urgent :=
  foldl_induct (f := State.freeRecord) (P := fun z => z.xc.urgent = s.xc.urgent) (fun z j hz => by
    unfold State.freeRecord
    split
    · dsimp only
      split <;> exact hz
    · exact hz) js rfl

theorem xc_mapBorrows (s : State) (ks : List Nat) (f : BorrowRecord → BorrowRecord) : (s.mapBorrows ks f).xc = s.xc :=
  foldl_induct (f := fun (z : State) k => z.setBorrow k (f (z.borrow k))) (P := fun z => z.xc = s.xc) (fun _ _ hz => hz) ks rfl

theorem xc_abandonFault (s : State) : s.abandonFault.xc = s.xc := by
  unfold State.abandonFault
  split
  · rfl
  · exact xc_mapBorrows ..

/-- With no path UNBOUND, settling queues RETURNs and nothing else. -/
theorem settlePaths_of_bound (h : s.hasUnbound = false) : s.settlePaths = (s.each s.peers State.freeRecord).abandonFault :=
  faultRequest_of_bound
    ((((rerecorded_freeRecords s s.peers).trans (rerecorded_abandonFault _)).hasUnbound).trans h)

theorem urgent_settlePaths_of_bound (h : s.hasUnbound = false) : s.settlePaths.xc.urgent = s.xc.urgent := by
  rw [settlePaths_of_bound h, xc_abandonFault, urgent_freeRecords]

theorem ret_waits_settlePaths {k : Nat} (h : s.hasUnbound = false) (hw : Waits (.ret k) s) : Waits (.ret k) s.settlePaths := by
  rw [settlePaths_of_bound h]
  unfold Waits
  rw [xc_abandonFault]
  exact ret_waits_freeRecords _ hw

/-- A record freed for want of a path sends a RETURN to a peer that is reached. -/
theorem ret_waits_of_freed {k : Nat} (hk : k ∈ s.peers) (h : s.hasUnbound = false) (hactive : (s.borrow k).state.isActive = true)
    (hpath : s.hasPathToward k = false) (hlive : s.peerLive k = true) (hcross : s.crossLive k = true) :
    Waits (.ret k) s.settlePaths := by
  have hfree : ∀ (js : List Nat) (z : State), z.SameGround s → k ∈ js → (z.borrow k).state.isActive = true →
      z.hasPathToward k = false → Waits (.ret k) (z.each js State.freeRecord) := by
    intro js
    induction js with
    | nil => exact fun _ _ hmem => nomatch hmem
    | cons j js ih =>
      intro z hz hmem hact hp
      have hcons : z.each (j :: js) State.freeRecord = (z.freeRecord j).each js State.freeRecord := rfl
      rw [hcons]
      by_cases hj : j = k
      · subst hj
        refine ret_waits_freeRecords js ?_
        unfold State.freeRecord
        rw [if_pos (by simp [hact, hp])]
        dsimp only
        rw [if_pos (by rw [← hz.peerLive, ← hz.crossLive]; simp [hlive, hcross])]
        exact ret_waits_sendReturn j
      · have hstep := rerecorded_freeRecord z j
        refine ih _ ?_ ((List.mem_cons.1 hmem).resolve_left (Ne.symm hj)) ?_ ((hstep.hasPathToward k).trans hp)
        · obtain ⟨h1, h2, h3, h4⟩ := hstep.ground
          obtain ⟨g1, g2, g3, g4⟩ := hz
          exact ⟨g1.trans h1.symm, g2.trans h2.symm, g3.trans h3.symm, g4.trans h4.symm⟩
        · rw [borrow_freeRecord, if_neg (Ne.symm hj)]
          exact hact
  rw [settlePaths_of_bound h]
  unfold Waits
  rw [xc_abandonFault]
  exact hfree s.peers s ⟨rfl, rfl, rfl, rfl⟩ hk hactive hpath

/-- A fault borrow that begins or ends has the lend offer evaluated (R97). -/
theorem lendOffer_reportPaths {b : State} (h : (b.lender .fault).isSome ≠ (s.lender .fault).isSome) :
    (b.reportPaths s).rc.lendOffer =
      (decide (s.rc.level < s.cfg.lendLimit) && (s.live 16 || s.live 17) && (s.lender .fault).isNone) := by
  have hoffer : ∀ z : State, z.reofferLend.rc.lendOffer = z.offerNow := fun z => by
    unfold State.reofferLend
    split
    · next heq => exact heq.symm
    · simp
  have hnow : ∀ z : State, s.SameGround z → z.rc = s.rc → z.pu = s.pu → z.offerNow =
      (decide (s.rc.level < s.cfg.lendLimit) && (s.live 16 || s.live 17) && (s.lender .fault).isNone) := fun z hz hrc hpu => by
    have hlend : z.lender .fault = s.lender .fault := lender_congr hz.peers
      (fun k _ => congrArg BorrowRecord.state (borrow_congr (congrArg PathUnit.borrows hpu) k)) _
    unfold State.offerNow State.faultBorrow
    rw [hrc, hz.2.1, hz.anyUplink, hlend, ← Option.not_isSome]
    rfl
  unfold State.reportPaths State.faultBorrow
  dsimp only
  rw [if_neg h, hoffer]
  split
  · exact hnow s ⟨rfl, rfl, rfl, rfl⟩ rfl rfl
  · exact hnow _ ⟨by simp, by simp, by simp, by simp⟩ (by simp) (by simp)

/-- While no fault borrow begins or ends the Relief Controller is told nothing. -/
theorem rc_reportPaths {b : State} (h : b.faultBorrow = s.faultBorrow) : (b.reportPaths s).rc = s.rc := by
  unfold State.reportPaths
  dsimp only
  rw [if_pos h]
  split
  · rfl
  · simp

/-! ## WITHDRAW and RETURN (R76, R81) -/

theorem withdrawFrom_of_none {k : Nat} (w : WithdrawReason) (h : (s.borrow k).state = .none) : s.withdrawFrom k w = s := by
  unfold State.withdrawFrom
  dsimp only
  split
  · next heq => exact nomatch h.symm.trans heq
  · next heq => exact nomatch h.symm.trans heq
  · rfl

theorem withdrawFrom_of_active {k : Nat} (w : WithdrawReason) (h : (s.borrow k).state.isActive = true) :
    s.withdrawFrom k w = s.reportPaths (s.loseLender k (w == .noUplink)).settlePaths := by
  unfold State.withdrawFrom
  dsimp only
  split
  · rfl
  · next heq => rw [heq] at h; exact nomatch h
  · next heq => rw [heq] at h; exact nomatch h

theorem withdrawFrom_of_requested {k : Nat} {r : Reason} (w : WithdrawReason) (h : (s.borrow k).state = .requested r) :
    s.withdrawFrom k w = s.reportPaths (s.setBorrow k ((s.borrow k).ended.excluded (w == .noUplink))).settlePaths := by
  unfold State.withdrawFrom
  dsimp only
  split
  · next heq => exact nomatch h.symm.trans heq
  · rfl
  · next heq => exact nomatch h.symm.trans heq

theorem borrow_reportPaths (b s : State) (k : Nat) : (b.reportPaths s).borrow k = s.borrow k := borrow_congr (by simp) k

theorem binding_reportPaths (b s : State) (i : Nat) : (b.reportPaths s).binding i = s.binding i := binding_congr (by simp) i

theorem lend_reportPaths (b s : State) (k : Nat) : (b.reportPaths s).lend k = s.lend k := lend_congr (by simp) k

/-- A record that is ended and excluded stands after its event. -/
theorem borrow_settled_excluded {k : Nat} {b : BorrowRecord} {noUplink : Bool} (h : z.borrow k = b.ended.excluded noUplink) (y : State) :
    (y.reportPaths z.settlePaths).borrow k = b.ended.excluded noUplink := by
  rw [borrow_reportPaths, borrow_settlePaths_of_excluded z (by rw [h]; rfl) (by rw [h]; exact nofun), h]

theorem borrow_withdrawFrom {k : Nat} (w : WithdrawReason) (h : (s.borrow k).state ≠ .none) :
    (s.withdrawFrom k w).borrow k = (s.borrow k).ended.excluded (w == .noUplink) := by
  cases hstate : (s.borrow k).state with
  | none => exact absurd hstate h
  | active r =>
    rw [withdrawFrom_of_active w (by rw [hstate]; rfl)]
    exact borrow_settled_excluded (by rw [borrow_loseLender, if_pos rfl]) s
  | requested r =>
    rw [withdrawFrom_of_requested w hstate]
    exact borrow_settled_excluded (by rw [borrow_setBorrow, if_pos rfl]) s

theorem binding_withdrawFrom {k i : Nat} (w : WithdrawReason) (h : (s.borrow k).state.isActive = true) (hi : i ∈ paths) :
    (s.withdrawFrom k w).binding i = if (s.binding i).toward = some k then s.replacement (some k) i else s.binding i := by
  rw [withdrawFrom_of_active w h, binding_reportPaths, (rerecorded_settlePaths _).binding, binding_loseLender _ _ _ hi]

theorem noUplink_of_word (w : Word) : (withdrawOfCode w.toNat == .noUplink) = decide (w = 1) := by
  unfold withdrawOfCode
  by_cases h : w = 1
  · subst h; rfl
  · have hne : w.toNat ≠ 1 := fun hw => h (BitVec.eq_of_toNat_eq hw)
    rw [if_neg hne, decide_eq_false h]
    rfl

theorem lendCount_congr (hil : t.il = s.il) (h : ∀ k, t.lend k = s.lend k) : t.lendCount = s.lendCount := by
  unfold State.lendCount State.peers
  rw [hil]
  exact congrArg List.length (List.filter_congr fun k _ => by rw [h])

end State

/-- Settles O36: what WITHDRAW and RETURN leave of the sender's records and of the paths. -/
theorem withdrawAndReturnTaken : Obligations.WithdrawAndReturnTaken := by
  unfold Obligations.WithdrawAndReturnTaken
  refine ⟨fun s n rest hconf hn hkind => ?_, fun s n rest hconf hn hkind => ?_⟩
  · have hrun := State.process_of_front (p := fun n => n.isKind .withdraw) (act := State.actWithdraw) hn (Notice.isKind_of_eq hkind)
      (State.actsOn_of_configured hconf _)
    refine ⟨_, congrArg Host.Outcome.next hrun, State.eq_iff.2 (by simp [State.actWithdraw, State.withNotices]), fun hnone => ?_,
      fun hsome => ?_, fun hactive i hi => ?_⟩
    · exact State.withdrawFrom_of_none _ hnone
    · have hrecord := State.borrow_withdrawFrom (s := s.withNotices rest) (withdrawOfCode n.word.toNat) hsome
      rw [State.actWithdraw, hrecord]
      exact ⟨rfl, rfl, State.noUplink_of_word n.word⟩
    · have hpath : ((s.withNotices rest).actWithdraw n).binding i = if (s.binding i).toward = some n.sender
          then (s.withNotices rest).replacement (some n.sender) i else s.binding i :=
        State.binding_withdrawFrom (s := s.withNotices rest) _ hactive hi
      rw [hpath]
      refine ⟨fun htoward => ?_, fun htoward => if_neg htoward⟩
      rw [if_pos htoward]
      exact ⟨State.replacement_toward n.sender, fun hlive => State.replacement_of_home _ hlive,
        fun hdead hother => State.replacement_of_other _ hdead hother⟩
  · have hrun := State.process_of_front (p := fun n => n.isKind .ret) (act := fun z n => z.returnFrom n.sender) hn (Notice.isKind_of_eq hkind)
      (State.actsOn_of_configured hconf _)
    have hlend : ∀ j, ((s.withNotices rest).returnFrom n.sender).lend j = if j = n.sender then none else s.lend j := fun j =>
      (State.lend_reportPaths ..).trans (State.lend_dropLend ..)
    refine ⟨_, congrArg Host.Outcome.next hrun, ?_, by rw [hlend, if_pos rfl], fun j hj => by rw [hlend, if_neg hj], fun hcount => ?_⟩
    · have hrc : ((s.withNotices rest).returnFrom n.sender).rc = s.rc := State.rc_reportPaths rfl
      refine State.eq_iff.2 ?_
      simp only [hrc]
      simp [State.returnFrom, State.dropLend, State.withNotices]
    · have hconf' : ((s.withNotices rest).dropLend n.sender).il.state = .configured := hconf
      exact State.level_of_lendCount (b := s.withNotices rest) hconf' hcount

/-! ## Shed and return requests (R73) -/

namespace State

variable {s t z : State}

theorem shed_of_active {k : Nat} (h : s.activeRelief = some k) : s.shed = s.reportPaths (s.splitLowest k).settlePaths := by
  unfold State.shed
  split
  · next heq => cases h.symm.trans heq; rfl
  · next heq => exact nomatch h.symm.trans heq

theorem shed_of_requested (h : s.activeRelief = none) (hr : s.requestedRelief ≠ none) : s.shed = s := by
  unfold State.shed
  split
  · next heq => exact nomatch h.symm.trans heq
  · split
    · rfl
    · next heq => exact absurd heq hr

theorem shed_of_none (h : s.activeRelief = none) (hr : s.requestedRelief = none) :
    (∀ k, s.candidate .relief = some k → s.shed = s.reportPaths (s.request k .relief).settlePaths) ∧
    (s.candidate .relief = none → s.shed = s) := by
  unfold State.shed
  split
  · next heq => exact nomatch h.symm.trans heq
  · split
    · next heq => exact nomatch hr.symm.trans heq
    · split
      · next heq => exact ⟨fun k hk => by cases heq.symm.trans hk; rfl, fun hk => nomatch heq.symm.trans hk⟩
      · next heq => exact ⟨fun k hk => (nomatch heq.symm.trans hk), fun _ => rfl⟩

theorem giveBackPath_of_split {i : Nat} (h : s.highestSplit = some i) :
    s.giveBackPath = s.reportPaths (s.setBinding i .home).settlePaths := by
  unfold State.giveBackPath
  split
  · next heq => cases h.symm.trans heq; rfl
  · next heq => exact nomatch h.symm.trans heq

theorem giveBackPath_of_no_split (h : s.highestSplit = none) :
    (∀ k, s.requestedRelief = some k → s.giveBackPath = s.reportPaths (s.setBorrow k (s.borrow k).ended).settlePaths) ∧
    (s.requestedRelief = none → s.giveBackPath = s) := by
  unfold State.giveBackPath
  split
  · next heq => exact nomatch h.symm.trans heq
  · split
    · next heq => exact ⟨fun k hk => by cases heq.symm.trans hk; rfl, fun hk => nomatch heq.symm.trans hk⟩
    · next heq => exact ⟨fun k hk => (nomatch heq.symm.trans hk), fun _ => rfl⟩

theorem splitLowest_of_some {i : Nat} (h : s.lowestHome = some i) (k : Nat) : s.splitLowest k = s.setBinding i (.split k) := by
  unfold State.splitLowest
  split
  · next heq => cases h.symm.trans heq; rfl
  · next heq => exact nomatch h.symm.trans heq

theorem splitLowest_of_none (h : s.lowestHome = none) (k : Nat) : s.splitLowest k = s := by
  unfold State.splitLowest
  split
  · next heq => exact nomatch h.symm.trans heq
  · rfl

/-- Settling and reporting move no path. -/
theorem binding_settled (b z : State) (i : Nat) : (b.reportPaths z.settlePaths).binding i = z.binding i :=
  (binding_reportPaths ..).trans ((rerecorded_settlePaths z).binding i)

/-- Settling and reporting leave the rest of the Path Unit's state. -/
theorem pu_settled (b z : State) : (b.reportPaths z.settlePaths).pu = { z.pu with borrows := (b.reportPaths z.settlePaths).pu.borrows } := by
  have hpu : (b.reportPaths z.settlePaths).pu = z.settlePaths.pu := by simp
  rw [hpu]
  have hsettle := rerecorded_settlePaths z
  unfold Rerecorded at hsettle
  exact congrArg State.pu hsettle

theorem shedDue_shed (s : State) : s.shed.pu.shedDue = s.pu.shedDue := by
  have hmoved : ∀ z : State, z.pu.shedDue = s.pu.shedDue → (s.reportPaths z.settlePaths).pu.shedDue = s.pu.shedDue := fun z hz => by
    rw [pu_settled]; exact hz
  cases hactive : s.activeRelief with
  | some k =>
    rw [shed_of_active hactive]
    refine hmoved _ ?_
    cases hlow : s.lowestHome with
    | some i => rw [splitLowest_of_some hlow]; rfl
    | none => rw [splitLowest_of_none hlow]
  | none =>
    by_cases hreq : s.requestedRelief = none
    · cases hcand : s.candidate .relief with
      | some k => rw [(shed_of_none hactive hreq).1 k hcand]; exact hmoved _ rfl
      | none => rw [(shed_of_none hactive hreq).2 hcand]
    · rw [shed_of_requested hactive hreq]

theorem returnDue_giveBackPath (s : State) : s.giveBackPath.pu.returnDue = s.pu.returnDue := by
  have hmoved : ∀ z : State, z.pu.returnDue = s.pu.returnDue → (s.reportPaths z.settlePaths).pu.returnDue = s.pu.returnDue :=
    fun z hz => by rw [pu_settled]; exact hz
  cases hsplit : s.highestSplit with
  | some i => rw [giveBackPath_of_split hsplit]; exact hmoved _ rfl
  | none =>
    cases hreq : s.requestedRelief with
    | some k => rw [(giveBackPath_of_no_split hsplit).1 k hreq]; exact hmoved _ rfl
    | none => rw [(giveBackPath_of_no_split hsplit).2 hreq]

theorem mem_peers_of_requestedRelief {k : Nat} (h : s.requestedRelief = some k) : k ∈ s.peers := List.mem_of_find?_eq_some h

end State

/-- Settles O37: a shed request and a return request, by what they find. -/
theorem shedAndReturnRequests : Obligations.ShedAndReturnRequests := by
  unfold Obligations.ShedAndReturnRequests
  refine ⟨fun s hdue => ?_, fun s hdue => ?_⟩
  · have htake : s.takeShed = State.shed { s with pu := { s.pu with shedDue := s.pu.shedDue - 1 } } := if_pos hdue
    refine ⟨_, congrArg (fun z : State => Host.Outcome.next z.takeFrame) htake, State.eq_iff.2 (by simp), State.shedDue_shed _, ?_⟩
    generalize hz : { s with pu := { s.pu with shedDue := s.pu.shedDue - 1 } } = z
    have hbinding : ∀ j, z.binding j = s.binding j := fun _ => by rw [← hz]; rfl
    have hactive : z.activeRelief = s.activeRelief := by rw [← hz]; rfl
    have hrequested : z.requestedRelief = s.requestedRelief := by rw [← hz]; rfl
    have hlowest : z.lowestHome = s.lowestHome := by rw [← hz]; rfl
    have hcandidate : z.candidate .relief = s.candidate .relief := by rw [← hz]; rfl
    have hunbound : z.hasUnbound = s.hasUnbound := by rw [← hz]; rfl
    have hsole : z.pu.solePath = s.pu.solePath := by rw [← hz]
    rw [← hactive, ← hrequested, ← hlowest, ← hcandidate, ← hunbound, ← hsole]
    simp only [← hbinding]
    refine ⟨fun k hk => ⟨fun i hi => ?_, fun hnone j => ?_⟩, fun hnone => ⟨fun j => ?_, fun hreq => ?_, fun k hreq hcand hbound => ?_⟩⟩
    · rw [State.shed_of_active hk, State.splitLowest_of_some hi, State.binding_settled, State.binding_setBinding, if_pos rfl]
      exact ⟨rfl, fun j hj => by rw [State.binding_settled, State.binding_setBinding, if_neg hj]⟩
    · rw [State.shed_of_active hk, State.splitLowest_of_none hnone, State.binding_settled]
    · by_cases hreq : z.requestedRelief = none
      · cases hcand : z.candidate .relief with
        | some k => rw [(State.shed_of_none hnone hreq).1 k hcand, State.binding_settled]; rfl
        | none => rw [(State.shed_of_none hnone hreq).2 hcand]
      · rw [State.shed_of_requested hnone hreq]
    · exact State.shed_of_requested hnone hreq
    · rw [(State.shed_of_none hnone hreq).1 k hcand]
      have hk := (State.candidate_qualifies hcand).1
      have hbound' : (z.request k .relief).hasUnbound = false := hbound
      have hrecord : (z.reportPaths (z.request k .relief).settlePaths).borrow k = (z.borrow k).requested .relief := by
        rw [State.borrow_reportPaths, State.borrow_settlePaths_of_bound (z.request k .relief) (by exact hk) hbound',
          State.borrow_request, if_pos rfl]
        rfl
      rw [hrecord, State.urgent_reportPaths, State.urgent_settlePaths_of_bound hbound']
      exact ⟨rfl, rfl, mem_placeMsg_self ..⟩
  · have htake : s.takeReturn = State.giveBackPath { s with pu := { s.pu with returnDue := s.pu.returnDue - 1 } } := if_pos hdue
    refine ⟨_, congrArg (fun z : State => Host.Outcome.next z.takeFrame) htake, State.eq_iff.2 (by simp), State.returnDue_giveBackPath _, ?_⟩
    generalize hz : { s with pu := { s.pu with returnDue := s.pu.returnDue - 1 } } = z
    have hbinding : ∀ j, z.binding j = s.binding j := fun _ => by rw [← hz]; rfl
    have hrequested : z.requestedRelief = s.requestedRelief := by rw [← hz]; rfl
    have hsplit : z.highestSplit = s.highestSplit := by rw [← hz]; rfl
    have hunbound : z.hasUnbound = s.hasUnbound := by rw [← hz]; rfl
    rw [← hrequested, ← hsplit, ← hunbound]
    simp only [← hbinding]
    refine ⟨fun i hi => ?_, fun hnone => ⟨fun j => ?_, fun k hreq hbound => ?_⟩⟩
    · rw [State.giveBackPath_of_split hi, State.binding_settled, State.binding_setBinding, if_pos rfl]
      exact ⟨rfl, fun j hj => by rw [State.binding_settled, State.binding_setBinding, if_neg hj]⟩
    · cases hreq : z.requestedRelief with
      | some k => rw [(State.giveBackPath_of_no_split hnone).1 k hreq, State.binding_settled]; rfl
      | none => rw [(State.giveBackPath_of_no_split hnone).2 hreq]
    · have hk := State.mem_peers_of_requestedRelief hreq
      rw [(State.giveBackPath_of_no_split hnone).1 k hreq, State.borrow_reportPaths,
        State.borrow_settlePaths_of_bound (z.setBorrow k _) (by exact hk) (by exact hbound), State.borrow_setBorrow, if_pos rfl]
      rfl

end Sys2Proof.Machine
end

section
/-! BORROW and GRANT (R74, R75, R80): the answer by the first case that applies, and what a GRANT makes of the record. -/

namespace Sys2Proof.Machine

open Sys2Proof.Config

namespace State

variable {s t z : State} {k : Nat}

/-! ## The answer to a BORROW (R80) -/

/-- An answer: only messages, the borrow records and the lend records change. -/
def Answered (s t : State) : Prop :=
  t = { s with pu := { s.pu with borrows := t.pu.borrows, lends := t.pu.lends }, xc := t.xc }

theorem answered_sendGrant (s : State) (k : Nat) (g : GrantResult) : s.Answered (s.sendGrant k g) := by
  unfold State.sendGrant
  split <;> rfl

/-- What an answer to peer k leaves: the lend record, the GRANT that waits, and the borrow record. -/
structure Answer (s : State) (k : Nat) (l : Option LendRecord) (g : GrantResult) (b : BorrowRecord) (t : State) : Prop where
  answered : s.Answered t
  lend : ∀ j, t.lend j = if j = k then l else s.lend j
  grant : .grant k g ∈ t.xc.urgent
  borrow : ∀ j, t.borrow j = if j = k then b else s.borrow j

theorem grant_sendGrant (s : State) (k : Nat) (g : GrantResult) : .grant k g ∈ (s.sendGrant k g).xc.urgent := mem_placeMsg_self ..

theorem lend_sendGrant (s : State) (k : Nat) (g : GrantResult) (j : Nat) : (s.sendGrant k g).lend j = s.lend j :=
  lend_congr (by simp) j

theorem borrow_sendGrant (s : State) (k : Nat) (g : GrantResult) (j : Nat) : (s.sendGrant k g).borrow j = s.borrow j :=
  borrow_congr (by simp) j

theorem eq_if_self {α : Type} (f : Nat → α) (j k : Nat) : f j = if j = k then f k else f j := by
  split
  · next h => rw [h]
  · rfl

theorem answer_keep (s : State) (k : Nat) (g : GrantResult) : s.Answer k (s.lend k) g (s.borrow k) (s.sendGrant k g) :=
  ⟨answered_sendGrant .., fun j => (lend_sendGrant ..).trans (eq_if_self s.lend j k), grant_sendGrant ..,
    fun j => (borrow_sendGrant ..).trans (eq_if_self s.borrow j k)⟩

theorem answered_trans {y : State} (h : s.Answered y) (h' : y.Answered t) : s.Answered t := by
  unfold Answered at *
  generalize t.pu.borrows = b at h'
  generalize t.pu.lends = l at h'
  generalize t.xc = x at h'
  subst h'
  generalize y.pu.borrows = b' at h
  generalize y.pu.lends = l' at h
  generalize y.xc = x' at h
  subst h
  rfl

/-- An answer given after the lend record of its peer has been set or dropped. -/
theorem answer_after {y : State} {l : Option LendRecord} (g : GrantResult) (hy : s.Answered y)
    (hlend : ∀ j, y.lend j = if j = k then l else s.lend j) (hborrow : ∀ j, y.borrow j = if j = k then y.borrow k else s.borrow j) :
    s.Answer k l g (y.borrow k) (y.sendGrant k g) :=
  ⟨answered_trans hy (answered_sendGrant ..), fun j => (lend_sendGrant ..).trans (hlend j), grant_sendGrant ..,
    fun j => (borrow_sendGrant ..).trans (hborrow j)⟩

theorem answer_lendFault (s : State) (k : Nat) (sole : Bool) :
    s.Answer k (some { reason := .fault, solePath := sole }) .granted (s.borrow k) (s.lendFault k sole) :=
  answer_after .granted (y := s.setLend k { reason := .fault, solePath := sole }) rfl (fun _ => lend_setLend ..)
    (fun j => eq_if_self s.borrow j k)

theorem answer_lendRelief (s : State) (k : Nat) :
    s.Answer k (some { reason := .relief, solePath := false }) .granted (s.borrow k) (s.lendRelief k) :=
  answer_after .granted (y := s.setLend k { reason := .relief, solePath := false }) rfl (fun _ => lend_setLend ..)
    (fun j => eq_if_self s.borrow j k)

theorem answer_refuse_relief (s : State) (k : Nat) (g : GrantResult) : s.Answer k none g (s.borrow k) (s.refuse k .relief g) :=
  answer_after g (y := s.dropLend k) rfl (fun _ => lend_dropLend ..) (fun j => eq_if_self s.borrow j k)

/-- The answer to a RELIEF request from a peer to which no relief is lent (R80). -/
theorem answer_relief (s : State) (k : Nat) : ∃ l g b, s.Answer k l g b (s.answerRelief k) ∧
    (s.cfg.lendLimit ≤ s.rc.level → l = none ∧ g = .levelHigh ∧ b = s.borrow k) ∧
    (s.rc.level < s.cfg.lendLimit →
      ((s.borrow k).state = .active .relief → l = none ∧ g = .mutualRelief ∧ b = s.borrow k) ∧
      ((s.borrow k).state = .requested .relief → s.il.station < k → l = none ∧ g = .mutualRelief ∧ b = s.borrow k) ∧
      ((s.borrow k).state = .requested .relief → k ≤ s.il.station →
        l = some { reason := .relief, solePath := false } ∧ g = .granted ∧ b = (s.borrow k).ended) ∧
      ((s.borrow k).state ≠ .active .relief → (s.borrow k).state ≠ .requested .relief →
        l = some { reason := .relief, solePath := false } ∧ g = .granted ∧ b = s.borrow k)) := by
  unfold State.answerRelief
  split
  · next hlevel => exact ⟨_, _, _, answer_refuse_relief s k .levelHigh, fun _ => ⟨rfl, rfl, rfl⟩, fun h => by omega⟩
  · next hlevel =>
    split
    · next hactive =>
      exact ⟨_, _, _, answer_refuse_relief s k .mutualRelief, fun h => by omega, fun _ => ⟨fun _ => ⟨rfl, rfl, rfl⟩,
        fun h => (nomatch hactive.symm.trans h), fun h => (nomatch hactive.symm.trans h), fun h => absurd hactive h⟩⟩
    · next hactive =>
      split
      · next hrequested =>
        split
        · next hstation =>
          exact ⟨_, _, _, answer_refuse_relief s k .mutualRelief, fun h => by omega, fun _ => ⟨fun h => absurd h hactive,
            fun _ _ => ⟨rfl, rfl, rfl⟩, fun _ h => by omega, fun _ h => absurd hrequested h⟩⟩
        · next hstation =>
          have hlend := answer_lendRelief (s.setBorrow k (s.borrow k).ended) k
          refine ⟨_, _, (s.borrow k).ended, ⟨answered_trans (y := s.setBorrow k (s.borrow k).ended) rfl hlend.answered, hlend.lend, hlend.grant, fun j => ?_⟩, fun h => by omega,
            fun _ => ⟨fun h => absurd h hactive, fun _ h => absurd h hstation, fun _ _ => ⟨rfl, rfl, rfl⟩,
              fun _ h => absurd hrequested h⟩⟩
          rw [hlend.borrow, borrow_setBorrow, borrow_setBorrow, if_pos rfl]
          split <;> rfl
      · next hrequested =>
        exact ⟨_, _, _, answer_lendRelief s k, fun h => by omega, fun _ => ⟨fun h => absurd h hactive, fun h => absurd h hrequested,
          fun h => absurd h hrequested, fun _ _ => ⟨rfl, rfl, rfl⟩⟩⟩

/-- The answer to a FAULT request (R80). -/
theorem answer_fault (s : State) (k : Nat) (sole : Bool) : ∃ l g, s.Answer k l g (s.borrow k) (s.answerBorrow k .fault sole) ∧
    (s.lend k ≠ none ∨ s.anyUplink = true → l = some { reason := .fault, solePath := sole } ∧ g = .granted) ∧
    (s.lend k = none → s.anyUplink = false → l = none ∧ g = .noUplink) := by
  unfold State.answerBorrow
  cases hlend : s.lend k with
  | some l => exact ⟨_, _, answer_lendFault s k sole, fun _ => ⟨rfl, rfl⟩, nofun⟩
  | none =>
    dsimp only
    split
    · next hup => exact ⟨_, _, answer_lendFault s k sole, fun _ => ⟨rfl, rfl⟩, fun _ h => by simp [hup] at h⟩
    · next hup =>
      have hkeep := answer_keep s k .noUplink
      rw [hlend] at hkeep
      exact ⟨_, _, hkeep, fun h => by simp [hup] at h, fun _ _ => ⟨rfl, rfl⟩⟩

/-- The answer to a RELIEF request (R80). -/
theorem answerBorrow_relief (s : State) (k : Nat) (sole : Bool) :
    ((s.lend k).map LendRecord.reason = some .relief → s.answerBorrow k .relief sole = s.sendGrant k .granted) ∧
    ((s.lend k).map LendRecord.reason ≠ some .relief → s.answerBorrow k .relief sole =
      if s.anyUplink then s.answerRelief k else s.refuse k .relief .noUplink) := by
  unfold State.answerBorrow
  cases hlend : s.lend k with
  | none => exact ⟨nofun, fun _ => rfl⟩
  | some l =>
    refine ⟨fun h => if_pos (Option.some.inj h), fun h => if_neg fun heq => h (congrArg some heq)⟩

/-- Whom R80 answers and how: what the answer leaves, case by case. -/
theorem answerBorrow_answer (s : State) (k : Nat) (r : Reason) (sole : Bool) : ∃ l g b, s.Answer k l g b (s.answerBorrow k r sole) ∧
    (b.state = (s.borrow k).state ∨ (s.borrow k).state = .requested .relief ∧ k ≤ s.il.station) ∧
    (r = .fault → s.lend k ≠ none ∨ s.anyUplink = true → l = some { reason := .fault, solePath := sole } ∧ g = .granted) ∧
    (r = .fault → s.lend k = none → s.anyUplink = false → l = none ∧ g = .noUplink) ∧
    (r = .relief → (s.lend k).map LendRecord.reason = some .relief → l = s.lend k ∧ g = .granted) ∧
    (r = .relief → (s.lend k).map LendRecord.reason ≠ some .relief → s.anyUplink = false → l = none ∧ g = .noUplink) ∧
    (r = .relief → (s.lend k).map LendRecord.reason ≠ some .relief → s.anyUplink = true → s.cfg.lendLimit ≤ s.rc.level →
      l = none ∧ g = .levelHigh) ∧
    (r = .relief → (s.lend k).map LendRecord.reason ≠ some .relief → s.anyUplink = true → s.rc.level < s.cfg.lendLimit →
      ((s.borrow k).state = .active .relief → l = none ∧ g = .mutualRelief) ∧
      ((s.borrow k).state = .requested .relief → s.il.station < k → l = none ∧ g = .mutualRelief) ∧
      ((s.borrow k).state = .requested .relief → k ≤ s.il.station →
        l = some { reason := .relief, solePath := false } ∧ g = .granted ∧ b.state = .none) ∧
      ((s.borrow k).state ≠ .active .relief → (s.borrow k).state ≠ .requested .relief →
        l = some { reason := .relief, solePath := false } ∧ g = .granted)) := by
  cases r with
  | fault =>
    obtain ⟨l, g, ha, hgrant, hrefuse⟩ := answer_fault s k sole
    exact ⟨l, g, s.borrow k, ha, .inl rfl, fun _ => hgrant, fun _ => hrefuse, nofun, nofun, nofun, nofun⟩
  | relief =>
    obtain ⟨hheld, hasks⟩ := answerBorrow_relief s k sole
    by_cases hlend : (s.lend k).map LendRecord.reason = some .relief
    · rw [hheld hlend]
      exact ⟨_, _, _, answer_keep s k .granted, .inl rfl, nofun, nofun, fun _ _ => ⟨rfl, rfl⟩, fun _ h => absurd hlend h,
        fun _ h => absurd hlend h, fun _ h => absurd hlend h⟩
    · rw [hasks hlend]
      cases hup : s.anyUplink with
      | false =>
        exact ⟨_, _, _, answer_refuse_relief s k .noUplink, .inl rfl, nofun, nofun, fun _ h => absurd h hlend,
          fun _ _ _ => ⟨rfl, rfl⟩, nofun, nofun⟩
      | true =>
        obtain ⟨l, g, b, ha, hhigh, hlow⟩ := answer_relief s k
        refine ⟨l, g, b, ha, ?_, nofun, nofun, fun _ h => absurd h hlend, nofun,
          fun _ _ _ h => ⟨(hhigh h).1, (hhigh h).2.1⟩, fun _ _ _ h => ?_⟩
        · rcases Nat.lt_or_ge s.rc.level s.cfg.lendLimit with h | h
          · obtain ⟨hactive, hafter, hbefore, hother⟩ := hlow h
            by_cases h1 : (s.borrow k).state = .active .relief
            · exact .inl (by rw [(hactive h1).2.2])
            · by_cases h2 : (s.borrow k).state = .requested .relief
              · rcases Nat.lt_or_ge s.il.station k with h3 | h3
                · exact .inl (by rw [(hafter h2 h3).2.2])
                · exact .inr ⟨h2, h3⟩
              · exact .inl (by rw [(hother h1 h2).2.2])
          · exact .inl (by rw [(hhigh h).2.2])
        · obtain ⟨hactive, hafter, hbefore, hother⟩ := hlow h
          refine ⟨fun h1 => ⟨(hactive h1).1, (hactive h1).2.1⟩, fun h1 h2 => ⟨(hafter h1 h2).1, (hafter h1 h2).2.1⟩,
            fun h1 h2 => ?_, fun h1 h2 => ⟨(hother h1 h2).1, (hother h1 h2).2.1⟩⟩
          obtain ⟨hl, hg, hb⟩ := hbefore h1 h2
          exact ⟨hl, hg, by rw [hb]; rfl⟩

theorem borrowFrom_of_reached (h : s.peerLive k = true ∧ s.crossLive k = true) (r : Reason) (sole : Bool) :
    s.borrowFrom k r sole = s.reportPaths (s.answerBorrow k r sole) := if_pos (by simp [h.1, h.2])

theorem borrowFrom_of_not_reached (h : ¬(s.peerLive k = true ∧ s.crossLive k = true)) (r : Reason) (sole : Bool) :
    s.borrowFrom k r sole = s := if_neg fun hb => h (by simpa using hb)

end State

/-- Settles O34: the answer to a BORROW by its reason and the first case of R80 that applies. -/
theorem borrowAnswered : Obligations.BorrowAnswered := by
  unfold Obligations.BorrowAnswered
  intro s n rest hconf hn hkind
  have hrun := State.process_of_front (p := fun n => n.isKind .borrow) (act := State.actBorrow) hn (Notice.isKind_of_eq hkind)
    (State.actsOn_of_configured hconf _)
  refine ⟨_, congrArg Host.Outcome.next hrun, State.eq_iff.2 (by simp [State.actBorrow, State.withNotices]), ?_⟩
  by_cases hreached : s.peerLive n.sender = true ∧ s.crossLive n.sender = true
  · have hact : (s.withNotices rest).actBorrow n = (s.withNotices rest).reportPaths ((s.withNotices rest).answerBorrow n.sender
        (if n.word.getLsbD 0 then .relief else .fault) (n.word.getLsbD 1)) := State.borrowFrom_of_reached (s := s.withNotices rest) hreached _ _
    obtain ⟨l, g, b, ha, hstate, hfault, hfault', hheld, hdown, hhigh, hlow⟩ := State.answerBorrow_answer (s.withNotices rest) n.sender
      (if n.word.getLsbD 0 then .relief else .fault) (n.word.getLsbD 1)
    have hbinding : ∀ i, ((s.withNotices rest).answerBorrow n.sender (if n.word.getLsbD 0 then .relief else .fault)
        (n.word.getLsbD 1)).binding i = s.binding i := fun i => by rw [ha.answered]; rfl
    have hconf' : ((s.withNotices rest).answerBorrow n.sender (if n.word.getLsbD 0 then .relief else .fault)
        (n.word.getLsbD 1)).il.state = .configured := by rw [ha.answered]; exact hconf
    have hreason : ∀ {b : Bool}, b = true → (if b then Reason.relief else .fault) = .relief := fun h => if_pos h
    have hreason' : ∀ {b : Bool}, ¬b = true → (if b then Reason.relief else .fault) = .fault := fun h => if_neg h
    rw [hact]
    generalize (s.withNotices rest).answerBorrow n.sender (if n.word.getLsbD 0 then .relief else .fault) (n.word.getLsbD 1) = a
      at ha hbinding hconf'
    have hlend : ∀ j, ((s.withNotices rest).reportPaths a).lend j = if j = n.sender then l else s.lend j :=
      fun j => (State.lend_reportPaths ..).trans (ha.lend j)
    have hown : ((s.withNotices rest).reportPaths a).lend n.sender = l := by rw [hlend, if_pos rfl]
    have hborrow : ∀ j, ((s.withNotices rest).reportPaths a).borrow j = if j = n.sender then b else s.borrow j :=
      fun j => (State.borrow_reportPaths ..).trans (ha.borrow j)
    have hrecord : ((s.withNotices rest).reportPaths a).borrow n.sender = b := by rw [hborrow, if_pos rfl]
    have hgrant : .grant n.sender g ∈ ((s.withNotices rest).reportPaths a).xc.urgent := by
      rw [State.urgent_reportPaths]; exact ha.grant
    refine ⟨fun h => absurd hreached h, ⟨fun _ hr h => ?_, fun _ hr h1 h2 => ?_, fun _ hr h => ?_, fun hr h => ?_, fun hr h1 h2 => ?_,
      fun hr h1 h2 => ⟨fun h3 => ?_, fun h3 h4 => ?_, fun h3 h4 => ?_, fun h3 h4 => ?_⟩⟩, fun i => ?_, fun j hj => ⟨?_, ?_⟩, ?_,
      fun hcount => ?_⟩
    · obtain ⟨hl, hg⟩ := hfault (hreason' hr) (h.imp_left fun h1 h2 => h1 (congrArg _ h2))
      exact ⟨hown.trans hl, hg ▸ hgrant⟩
    · obtain ⟨hl, hg⟩ := hfault' (hreason' hr) (Option.map_eq_none_iff.1 h1) h2
      exact ⟨hown.trans hl, hg ▸ hgrant⟩
    · obtain ⟨hl, hg⟩ := hheld (hreason hr) h
      exact ⟨hown.trans hl, hg ▸ hgrant⟩
    · obtain ⟨hl, hg⟩ := hdown (hreason hr.2.1) hr.2.2 h
      exact ⟨hown.trans hl, hg ▸ hgrant⟩
    · obtain ⟨hl, hg⟩ := hhigh (hreason hr.2.1) hr.2.2 h1 h2
      exact ⟨hown.trans hl, hg ▸ hgrant⟩
    · obtain ⟨hl, hg⟩ := (hlow (hreason hr.2.1) hr.2.2 h1 h2).1 h3
      exact ⟨hown.trans hl, hg ▸ hgrant⟩
    · obtain ⟨hl, hg⟩ := (hlow (hreason hr.2.1) hr.2.2 h1 h2).2.1 h3 h4
      exact ⟨hown.trans hl, hg ▸ hgrant⟩
    · obtain ⟨hl, hg, hb⟩ := (hlow (hreason hr.2.1) hr.2.2 h1 h2).2.2.1 h3 h4
      exact ⟨hown.trans hl, hg ▸ hgrant, hrecord ▸ hb⟩
    · obtain ⟨hl, hg⟩ := (hlow (hreason hr.2.1) hr.2.2 h1 h2).2.2.2 h3 h4
      exact ⟨hown.trans hl, hg ▸ hgrant⟩
    · exact (State.binding_reportPaths ..).trans (hbinding i)
    · rw [hlend, if_neg hj]
    · rw [hborrow, if_neg hj]
    · rw [hrecord]
      exact hstate
    · exact State.level_of_lendCount (b := s.withNotices rest) hconf' hcount
  · have hact : (s.withNotices rest).actBorrow n = s.withNotices rest := State.borrowFrom_of_not_reached (s := s.withNotices rest) hreached _ _
    rw [hact]
    exact ⟨fun _ => rfl, ⟨fun h => absurd h hreached, fun h => absurd h hreached, fun h => absurd h hreached,
      fun h => absurd h.1 hreached, fun h => absurd h.1 hreached, fun h => absurd h.1 hreached⟩, fun _ => rfl,
      fun _ _ => ⟨rfl, rfl⟩, .inl rfl, fun h => absurd rfl h⟩

/-! ## GRANT (R74, R75) -/

namespace State

variable {s t z : State} {k : Nat}

theorem grantFrom_of_none (h : (s.borrow k).state = .none) (g : GrantResult) :
    s.grantFrom k g = if g = .granted then s.sendReturn k else s := by
  unfold State.grantFrom
  dsimp only
  split
  · next heq => exact nomatch h.symm.trans heq
  · next heq => exact nomatch h.symm.trans heq
  · rfl

theorem grantFrom_of_requested_fault (h : (s.borrow k).state = .requested .fault) : s.grantFrom k .granted =
    s.reportPaths ((s.setBorrow k { s.borrow k with state := .active .fault, timer := 0, upgrade := false }).bindUnbound k).settlePaths := by
  unfold State.grantFrom
  dsimp only
  split
  · next q heq =>
    cases h.symm.trans heq
    rfl
  · next heq => exact nomatch h.symm.trans heq
  · next heq => exact nomatch h.symm.trans heq

theorem grantFrom_of_requested_relief (h : (s.borrow k).state = .requested .relief) : s.grantFrom k .granted =
    s.reportPaths ((s.setBorrow k { s.borrow k with state := .active .relief, timer := 0, upgrade := false }).splitLowest k).settlePaths := by
  unfold State.grantFrom
  dsimp only
  split
  · next q heq =>
    cases h.symm.trans heq
    rfl
  · next heq => exact nomatch h.symm.trans heq
  · next heq => exact nomatch h.symm.trans heq

theorem grantFrom_of_requested_refused {r : Reason} (h : (s.borrow k).state = .requested r) {g : GrantResult} (hg : g ≠ .granted) :
    s.grantFrom k g = s.reportPaths (s.setBorrow k ((s.borrow k).ended.excluded false)).settlePaths := by
  unfold State.grantFrom
  dsimp only
  split
  · exact if_neg hg
  · next heq => exact nomatch h.symm.trans heq
  · next heq => exact nomatch h.symm.trans heq

theorem grantFrom_of_active {r : Reason} (h : (s.borrow k).state = .active r) (g : GrantResult) : s.grantFrom k g =
    if (s.borrow k).upgrade then
      if g = .granted then s.reportPaths ((s.setBorrow k { s.borrow k with upgrade := false, timer := 0 }).bindUnbound k).settlePaths
      else s.reportPaths (s.loseLender k false).settlePaths
    else s := by
  unfold State.grantFrom
  dsimp only
  split
  · next heq => exact nomatch h.symm.trans heq
  · rfl
  · next heq => exact nomatch h.symm.trans heq

theorem rebound_splitLowest (s : State) (k : Nat) : s.Rebound (s.splitLowest k) := by
  unfold State.splitLowest
  split <;> rfl

theorem rebound_bindUnbound (s : State) (k : Nat) : s.Rebound (s.bindUnbound k) := rebound_rebind ..

/-- A GRANT ends in a report of what it moved, or is disregarded, or is answered with a RETURN. -/
theorem grantFrom_cases (s : State) (k : Nat) (g : GrantResult) :
    (∃ y : State, s.grantFrom k g = s.reportPaths y.settlePaths ∧ s.SameGround y ∧ y.rc = s.rc) ∨ s.grantFrom k g = s ∨
      s.grantFrom k g = s.sendReturn k := by
  have hmoved : ∀ (b : BorrowRecord) (y : State), (s.setBorrow k b).Rebound y → s.SameGround y ∧ y.rc = s.rc := fun b y hy => by
    rw [hy]; exact ⟨⟨rfl, rfl, rfl, rfl⟩, rfl⟩
  cases hstate : (s.borrow k).state with
  | none =>
    rw [grantFrom_of_none hstate]
    split
    · exact .inr (.inr rfl)
    · exact .inr (.inl rfl)
  | requested r =>
    by_cases hg : g = .granted
    · subst hg
      cases r
      · exact .inl ⟨_, grantFrom_of_requested_fault hstate, hmoved _ _ (rebound_bindUnbound ..)⟩
      · exact .inl ⟨_, grantFrom_of_requested_relief hstate, hmoved _ _ (rebound_splitLowest ..)⟩
    · exact .inl ⟨_, grantFrom_of_requested_refused hstate hg, ⟨rfl, rfl, rfl, rfl⟩, rfl⟩
  | active r =>
    rw [grantFrom_of_active hstate]
    split
    · split
      · exact .inl ⟨_, rfl, hmoved _ _ (rebound_bindUnbound ..)⟩
      · exact .inl ⟨_, rfl, ⟨by simp, by simp, by simp, by simp⟩, by simp⟩
    · exact .inr (.inl rfl)

/-- After the UNBOUND paths are bound toward an ACTIVE fault lender with no upgrade, its record stands. -/
theorem settled_bindUnbound (hk : k ∈ z.peers) (hunbound : z.hasUnbound = true) (hactive : (z.borrow k).state = .active .fault)
    (b : State) : (b.reportPaths (z.bindUnbound k).settlePaths).borrow k = z.borrow k ∧
      ∀ i ∈ paths, (b.reportPaths (z.bindUnbound k).settlePaths).binding i =
        if z.binding i = .unbound then .replacePeer k else z.binding i := by
  have hbinding : ∀ i ∈ paths, (z.bindUnbound k).binding i = if z.binding i = .unbound then .replacePeer k else z.binding i :=
    fun i hi => by rw [binding_bindUnbound]; exact if_congr (by simp [hi]) rfl rfl
  have hbound : (z.bindUnbound k).hasUnbound = false := by
    rw [Bool.eq_false_iff]
    intro h
    obtain ⟨i, hi, hun⟩ := hasUnbound_iff.1 h
    rw [hbinding i hi] at hun
    split at hun
    · exact nomatch hun
    · next hne => exact hne hun
  have hpath : (z.bindUnbound k).hasPathToward k = true := by
    obtain ⟨i, hi, hun⟩ := hasUnbound_iff.1 hunbound
    exact hasPathToward_iff.2 ⟨i, hi, by rw [hbinding i hi, if_pos hun]; rfl⟩
  have hsame := rebound_bindUnbound z k
  refine ⟨?_, fun i hi => ?_⟩
  · rw [borrow_reportPaths, borrow_settlePaths_of_bound _ (by rwa [hsame.ground.peers]) hbound, hpath, BorrowRecord.freed_of_path,
      hsame.borrow, BorrowRecord.abandoned_of_ne (by rw [hactive]; exact nofun)]
  · rw [binding_settled, hbinding i hi]

theorem mem_paths_of_lowestHome {i : Nat} (h : s.lowestHome = some i) : i ∈ paths ∧ s.binding i = .home :=
  ⟨List.mem_of_find?_eq_some h, by simpa using List.find?_some h⟩

/-- A relief lender that grants takes the lowest HOME path. -/
theorem settled_splitLowest (hk : k ∈ z.peers) (hbound : z.hasUnbound = false) (hactive : (z.borrow k).state = .active .relief)
    {i : Nat} (hi : z.lowestHome = some i) (b : State) :
    (b.reportPaths (z.splitLowest k).settlePaths).borrow k = z.borrow k ∧
      (b.reportPaths (z.splitLowest k).settlePaths).binding i = .split k ∧
      ∀ j, j ≠ i → (b.reportPaths (z.splitLowest k).settlePaths).binding j = z.binding j := by
  obtain ⟨hmem, -⟩ := mem_paths_of_lowestHome hi
  rw [splitLowest_of_some hi]
  have hnone : (z.setBinding i (.split k)).hasUnbound = false := by
    rw [Bool.eq_false_iff] at hbound ⊢
    intro h
    obtain ⟨j, hj, hun⟩ := hasUnbound_iff.1 h
    rw [binding_setBinding] at hun
    split at hun
    · exact nomatch hun
    · exact hbound (hasUnbound_iff.2 ⟨j, hj, hun⟩)
  have hpath : (z.setBinding i (.split k)).hasPathToward k = true :=
    hasPathToward_iff.2 ⟨i, hmem, by rw [binding_setBinding, if_pos rfl]; rfl⟩
  refine ⟨?_, ?_, fun j hj => ?_⟩
  · rw [borrow_reportPaths, borrow_settlePaths_of_bound _ (by exact hk) hnone, hpath, BorrowRecord.freed_of_path,
      BorrowRecord.abandoned_of_ne (by exact fun h => nomatch hactive.symm.trans h)]
    rfl
  · rw [binding_settled, binding_setBinding, if_pos rfl]
  · rw [binding_settled, binding_setBinding, if_neg hj]

theorem grantOfCode_granted : grantOfCode 0 = some .granted := rfl

theorem grantOfCode_refused {g : Nat} (h1 : 1 ≤ g) (h3 : g ≤ 3) : ∃ r, grantOfCode g = some r ∧ r ≠ .granted := by
  have hcases : g = 1 ∨ g = 2 ∨ g = 3 := by omega
  rcases hcases with rfl | rfl | rfl
  · exact ⟨_, rfl, nofun⟩
  · exact ⟨_, rfl, nofun⟩
  · exact ⟨_, rfl, nofun⟩

theorem grantOfCode_some {g : Nat} (h : g ≤ 3) : ∃ r, grantOfCode g = some r := by
  rcases Nat.eq_zero_or_pos g with rfl | h1
  · exact ⟨_, grantOfCode_granted⟩
  · obtain ⟨r, hr, -⟩ := grantOfCode_refused h1 h
    exact ⟨r, hr⟩

theorem grantOfCode_none {g : Nat} (h : 3 < g) : grantOfCode g = none := by
  unfold grantOfCode
  split
  · omega
  · omega
  · omega
  · omega
  · rfl

theorem actGrant_of_some {n : Notice} {g : GrantResult} (h : grantOfCode n.word.toNat = some g) :
    s.actGrant n = s.grantFrom n.sender g := by
  unfold State.actGrant
  split
  · next heq => cases h.symm.trans heq; rfl
  · next heq => exact nomatch h.symm.trans heq

theorem actGrant_of_none {n : Notice} (h : grantOfCode n.word.toNat = none) : s.actGrant n = s.lineError := by
  unfold State.actGrant
  split
  · next heq => exact nomatch h.symm.trans heq
  · rfl

theorem lineError_eq (s : State) : s.lineError = { s with xc := { s.xc with lineErrors := min 4294967295 (s.xc.lineErrors + 1) } } := by
  unfold State.lineError
  rw [bump_eq]

end State

/-- Settles O35: a GRANT by the state of its sender's record. -/
theorem grantTaken : Obligations.GrantTaken := by
  unfold Obligations.GrantTaken
  intro s n rest hconf hn hkind hpeer
  have hrun := State.process_of_front (p := fun n => n.isKind .grant) (act := State.actGrant) hn (Notice.isKind_of_eq hkind)
    (State.actsOn_of_configured hconf _)
  have hupgrade : ∀ ns, ((s.withNotices ns).borrow n.sender).upgrade = (s.borrow n.sender).upgrade := fun _ => rfl
  have hzero : ∀ {g}, g = n.word.toNat → g = 0 →
      (s.withNotices rest).actGrant n = (s.withNotices rest).grantFrom n.sender .granted := fun hg h0 =>
    State.actGrant_of_some (by rw [← hg, h0]; rfl)
  refine ⟨_, congrArg Host.Outcome.next hrun, State.eq_iff.2 (by simp [State.withNotices]), fun h3 => ?_,
    fun h0 hstate hunbound => ?_, fun i h0 hstate hbound hlow => ?_, fun h0 hstate hbound hlow hpath hlive hcross => ?_,
    fun h0 hstate => ?_, fun h1 h3 hstate => ?_, fun h3 hchange => ?_, fun h1 h3 hstate => ?_, fun h3 hup hstate => ?_⟩
  · rw [State.actGrant_of_none (State.grantOfCode_none h3), State.lineError_eq]
    rfl
  · rw [hzero rfl h0]
    rcases hstate with hreq | ⟨hup, hactive⟩
    · rw [State.grantFrom_of_requested_fault (s := s.withNotices rest) hreq]
      have hset : ((s.withNotices rest).setBorrow n.sender { (s.withNotices rest).borrow n.sender with
          state := .active .fault, timer := 0, upgrade := false }).borrow n.sender = { s.borrow n.sender with
          state := .active .fault, timer := 0, upgrade := false } := (State.borrow_setBorrow ..).trans (if_pos rfl)
      obtain ⟨hrecord, hpaths⟩ := State.settled_bindUnbound (k := n.sender)
        (z := (s.withNotices rest).setBorrow n.sender { (s.withNotices rest).borrow n.sender with
          state := .active .fault, timer := 0, upgrade := false }) hpeer hunbound (by rw [hset]) (s.withNotices rest)
      exact ⟨by rw [hrecord, hset], by rw [hrecord, hset], hpaths⟩
    · rw [State.grantFrom_of_active (s := s.withNotices rest) hactive, hupgrade rest, if_pos hup, if_pos rfl]
      have hset : ((s.withNotices rest).setBorrow n.sender { (s.withNotices rest).borrow n.sender with
          upgrade := false, timer := 0 }).borrow n.sender = { s.borrow n.sender with
          upgrade := false, timer := 0 } := (State.borrow_setBorrow ..).trans (if_pos rfl)
      obtain ⟨hrecord, hpaths⟩ := State.settled_bindUnbound (k := n.sender)
        (z := (s.withNotices rest).setBorrow n.sender { (s.withNotices rest).borrow n.sender with
          upgrade := false, timer := 0 }) hpeer hunbound (by rw [hset]; exact hactive) (s.withNotices rest)
      exact ⟨by rw [hrecord, hset]; exact hactive, by rw [hrecord, hset], hpaths⟩
  · rw [hzero rfl h0, State.grantFrom_of_requested_relief (s := s.withNotices rest) hstate]
    have hset : ((s.withNotices rest).setBorrow n.sender { (s.withNotices rest).borrow n.sender with
        state := .active .relief, timer := 0, upgrade := false }).borrow n.sender = { s.borrow n.sender with
        state := .active .relief, timer := 0, upgrade := false } := (State.borrow_setBorrow ..).trans (if_pos rfl)
    obtain ⟨hrecord, hown, hother⟩ := State.settled_splitLowest (k := n.sender)
      (z := (s.withNotices rest).setBorrow n.sender { (s.withNotices rest).borrow n.sender with
        state := .active .relief, timer := 0, upgrade := false }) hpeer hbound (by rw [hset]) hlow (s.withNotices rest)
    exact ⟨by rw [hrecord, hset], hown, hother⟩
  · rw [hzero rfl h0, State.grantFrom_of_requested_relief (s := s.withNotices rest) hstate]
    have hset : ((s.withNotices rest).setBorrow n.sender { (s.withNotices rest).borrow n.sender with
        state := .active .relief, timer := 0, upgrade := false }).borrow n.sender = { s.borrow n.sender with
        state := .active .relief, timer := 0, upgrade := false } := (State.borrow_setBorrow ..).trans (if_pos rfl)
    rw [State.splitLowest_of_none (s := (s.withNotices rest).setBorrow n.sender _) hlow]
    refine ⟨(State.waits_reportPaths _ (State.ret_waits_of_freed (k := n.sender) (s := (s.withNotices rest).setBorrow n.sender _) hpeer
      hbound (by rw [hset]; rfl) hpath hlive hcross)).1, fun j => ?_⟩
    rw [State.binding_settled]
    rfl
  · rw [hzero rfl h0, State.grantFrom_of_none (s := s.withNotices rest) hstate, if_pos rfl]
    exact ⟨(State.ret_waits_sendReturn n.sender).1, rfl⟩
  · obtain ⟨g, hg, hnot⟩ := State.grantOfCode_refused h1 h3
    rw [State.actGrant_of_some hg]
    rcases hstate with ⟨r, hreq⟩ | ⟨hup, r, hactive⟩
    · rw [State.grantFrom_of_requested_refused (s := s.withNotices rest) hreq hnot]
      have hrecord := State.borrow_settled_excluded (k := n.sender) (b := s.borrow n.sender) (noUplink := false)
        (z := (s.withNotices rest).setBorrow n.sender (((s.withNotices rest).borrow n.sender).ended.excluded false))
        ((State.borrow_setBorrow ..).trans (if_pos rfl)) (s.withNotices rest)
      rw [hrecord]
      exact ⟨rfl, rfl, rfl, fun ⟨q, hq⟩ => nomatch hreq.symm.trans hq⟩
    · rw [State.grantFrom_of_active (s := s.withNotices rest) hactive, hupgrade rest, if_pos hup, if_neg hnot]
      have hrecord := State.borrow_settled_excluded (k := n.sender) (b := s.borrow n.sender) (noUplink := false)
        (z := (s.withNotices rest).loseLender n.sender false) ((State.borrow_loseLender ..).trans (if_pos rfl)) (s.withNotices rest)
      rw [hrecord]
      refine ⟨rfl, rfl, rfl, fun _ i hi => ?_⟩
      rw [State.binding_settled, State.binding_loseLender _ _ _ hi]
      split
      · exact State.replacement_toward n.sender
      · next hne => exact hne
  · have hsame : ∀ {y : State}, y.il = s.il → y.pu = s.pu → (s.lender .fault).isSome = (y.lender .fault).isSome := fun hil hpu => by
      have hpeers : ∀ {y : State}, y.il = s.il → y.peers = s.peers := fun h => by unfold State.peers; rw [h]
      rw [State.lender_congr (hpeers hil) fun k _ => congrArg BorrowRecord.state (State.borrow_congr (congrArg PathUnit.borrows hpu) k)]
    obtain ⟨g, hg⟩ := State.grantOfCode_some h3
    rw [State.actGrant_of_some hg] at hchange ⊢
    rcases State.grantFrom_cases (s.withNotices rest) n.sender g with ⟨y, heq, hground, hrc⟩ | heq | heq
    · rw [heq] at hchange ⊢
      have hlend : ((s.withNotices rest).reportPaths y.settlePaths).lender .fault = y.settlePaths.lender .fault :=
        State.lender_congr (by unfold State.peers; simp) (fun k _ => by rw [State.borrow_reportPaths]) _
      rw [hlend] at hchange ⊢
      have hoffer := State.lendOffer_reportPaths (b := s.withNotices rest) (s := y.settlePaths) hchange
      have hsettled := hground.trans (State.rerecorded_settlePaths y).ground
      have hlevel : y.settlePaths.rc = s.rc := (State.settlePaths_frame y).2.2.2.2.2.2.2.2.1.trans hrc
      rw [hoffer, hlevel, hsettled.2.1, hsettled.live, hsettled.live]
      rfl
    · rw [heq] at hchange
      exact absurd (hsame rfl rfl) hchange
    · rw [heq] at hchange
      exact absurd (hsame rfl rfl) hchange
  · obtain ⟨g, hg, hnot⟩ := State.grantOfCode_refused h1 h3
    rw [State.actGrant_of_some hg, State.grantFrom_of_none (s := s.withNotices rest) hstate, if_neg hnot]
    rfl
  · obtain ⟨r, hactive⟩ := hstate
    obtain ⟨g, hg⟩ := State.grantOfCode_some h3
    rw [State.actGrant_of_some hg, State.grantFrom_of_active (s := s.withNotices rest) hactive, hupgrade rest,
      if_neg (by rw [hup]; exact nofun)]
    rfl

end Sys2Proof.Machine
end

section
/-! Paths, borrows and lends stay in agreement with links and peers (R65, R66, R69, R70, R77): the agreement with some peers still to
be given up, and what each move of the Path Unit does to it. -/

namespace Sys2Proof.Machine

open Sys2Proof.Config

namespace State

variable {s t z : State} {dead : Nat → Prop}

/-! ## The agreement -/

/-- Peer k is LIVE behind a live cross port, or its arrangements are still to be given up. -/
def Reaches (dead : Nat → Prop) (s : State) (k : Nat) : Prop := dead k ∨ (s.peerLive k = true ∧ s.crossLive k = true)

/-- What the invariant asks of path i bound as b (R65, R66, R69). -/
def BindingOk (dead : Nat → Prop) (s : State) (i : Nat) : Binding → Prop
  | .unbound => s.anyUplink = false
  | .home => s.live (s.homePort i) = true
  | .replaceUplink => s.live (otherUplink (s.homePort i)) = true
  | .replacePeer k => k ∈ s.peers ∧ s.Reaches dead k ∧ (s.borrow k).state = .active .fault
  | .split k => k ∈ s.peers ∧ s.Reaches dead k ∧ (s.borrow k).state = .active .relief ∧ s.live (s.homePort i) = true

/-- The borrow and lend records agree with each other and with the peers, and the sole-path flag with the uplinks. -/
structure Recorded (dead : Nat → Prop) (s : State) : Prop where
  homes : ∀ h ∈ s.cfg.homes, h ≤ 1
  sole : s.pu.solePath = !s.anyUplink
  reach : ∀ k ∈ s.peers, (s.borrow k).state ≠ .none → s.Reaches dead k
  upgrade : ∀ k ∈ s.peers, (s.borrow k).upgrade = true → (s.borrow k).state = .active .fault
  relief : ∀ k ∈ s.peers, (s.lend k).map LendRecord.reason = some .relief → (s.borrow k).state.hasReason .relief = false
  one : ∀ j ∈ s.peers, ∀ k ∈ s.peers, ∀ r, (s.borrow j).state.hasReason r = true → (s.borrow k).state.hasReason r = true → j = k

/-- Every path's binding is as the invariant asks. -/
def Bound (dead : Nat → Prop) (s : State) : Prop := ∀ i ∈ paths, s.BindingOk dead i (s.binding i)

/-- Bindings and records agree, but for ACTIVE records with no path. -/
def Tied (dead : Nat → Prop) (s : State) : Prop := s.Recorded dead ∧ s.Bound dead

/-- No ACTIVE record is without a path (R69). -/
def Used (s : State) : Prop := ∀ k ∈ s.peers, (s.borrow k).state.isActive = true → s.hasPathToward k = true

/-- The agreement between two events. -/
def Agrees (s : State) : Prop := s.Tied (fun _ => False) ∧ s.Used

theorem reaches_live {k : Nat} : s.Reaches (fun _ => False) k ↔ s.peerLive k = true ∧ s.crossLive k = true := by
  simp [State.Reaches]

theorem bindingSound_iff {i : Nat} : s.bindingSound i = true ↔ s.BindingOk (fun _ => False) i (s.binding i) := by
  unfold State.bindingSound State.BindingOk
  cases s.binding i <;> simp [reaches_live, and_assoc]

theorem agrees_iff : s.Agrees ↔ (∀ h ∈ s.cfg.homes, h ≤ 1) ∧ s.pu.solePath = !s.anyUplink ∧ (∀ i ∈ paths, s.bindingSound i = true) ∧
    (∀ k ∈ s.peers, s.recordsSound k) ∧
    (∀ j ∈ s.peers, ∀ k ∈ s.peers, ∀ r ∈ [Reason.fault, Reason.relief],
      (s.borrow j).state.hasReason r = true → (s.borrow k).state.hasReason r = true → j = k) := by
  have hreasons : ∀ r : Reason, r ∈ [Reason.fault, .relief] := fun r => by cases r <;> decide
  constructor
  · rintro ⟨⟨⟨hhomes, hsole, hreach, hup, hrelief, hone⟩, hbound⟩, hused⟩
    exact ⟨hhomes, hsole, fun i hi => bindingSound_iff.2 (hbound i hi),
      fun k hk => ⟨fun h => reaches_live.1 (hreach k hk h), hused k hk, hup k hk, hrelief k hk⟩, fun j hj k hk r _ => hone j hj k hk r⟩
  · rintro ⟨hhomes, hsole, hbound, hrecords, hone⟩
    exact ⟨⟨⟨hhomes, hsole, fun k hk h => reaches_live.2 ((hrecords k hk).1 h), fun k hk => (hrecords k hk).2.2.1,
      fun k hk => (hrecords k hk).2.2.2, fun j hj k hk r => hone j hj k hk r (hreasons r)⟩,
      fun i hi => bindingSound_iff.1 (hbound i hi)⟩, fun k hk => (hrecords k hk).2.1⟩

theorem homePort_cases (h : ∀ x ∈ s.cfg.homes, x ≤ 1) (i : Nat) : s.homePort i = u0 ∨ s.homePort i = u1 := by
  unfold State.homePort u0 u1
  rw [List.getD_eq_getElem?_getD]
  cases hget : s.cfg.homes[i]? with
  | none => exact .inl rfl
  | some x =>
    have := h x (List.mem_of_getElem? hget)
    simp only [Option.getD_some]
    omega

theorem live_home_iff (h : ∀ x ∈ s.cfg.homes, x ≤ 1) (i : Nat) :
    s.anyUplink = (s.live (s.homePort i) || s.live (otherUplink (s.homePort i))) := by
  rcases homePort_cases h i with hi | hi
  · rw [hi]; rfl
  · rw [hi, Bool.or_comm]; rfl

/-! ## Changes of the ground -/

/-- A change of links and peers that the uplinks do not see, and by which no peer that counts is lost. -/
theorem Tied.transport {dead' : Nat → Prop} (h : s.Tied dead) (hil : t.il.station = s.il.station) (hhomes : t.cfg.homes = s.cfg.homes)
    (hbind : t.pu.bindings = s.pu.bindings) (hborrow : t.pu.borrows = s.pu.borrows) (hlend : t.pu.lends = s.pu.lends)
    (hsole : t.pu.solePath = s.pu.solePath) (h0 : t.live u0 = s.live u0) (h1 : t.live u1 = s.live u1)
    (hreach : ∀ k ∈ s.peers, s.Reaches dead k → t.Reaches dead' k) : t.Tied dead' := by
  obtain ⟨⟨homes, sole, reach, upgrade, relief, one⟩, hbound⟩ := h
  have hpeers : t.peers = s.peers := by unfold State.peers; rw [hil]
  have huplink : t.anyUplink = s.anyUplink := by unfold State.anyUplink; rw [h0, h1]
  have hport : ∀ i, t.homePort i = s.homePort i := fun i => by unfold State.homePort; rw [hhomes]
  have hhome : ∀ i, t.live (s.homePort i) = s.live (s.homePort i) := fun i => by
    rcases homePort_cases homes i with hi | hi <;> rw [hi] <;> assumption
  have hother : ∀ i, t.live (otherUplink (s.homePort i)) = s.live (otherUplink (s.homePort i)) := fun i => by
    rcases homePort_cases homes i with hi | hi
    · rw [hi]; exact h1
    · rw [hi]; exact h0
  have hb : ∀ k, t.borrow k = s.borrow k := borrow_congr hborrow
  have hl : ∀ k, t.lend k = s.lend k := lend_congr hlend
  refine ⟨⟨hhomes ▸ homes, by rw [hsole, huplink]; exact sole, fun k hk hne => ?_, fun k hk => ?_, fun k hk => ?_, fun j hj k hk => ?_⟩,
    fun i hi => ?_⟩
  · rw [hpeers] at hk
    rw [hb] at hne
    exact hreach k hk (reach k hk hne)
  · rw [hb]; exact upgrade k (hpeers ▸ hk)
  · rw [hb, hl]; exact relief k (hpeers ▸ hk)
  · rw [hb, hb]; exact one j (hpeers ▸ hj) k (hpeers ▸ hk)
  · have hok := hbound i hi
    rw [binding_congr hbind]
    cases hcase : s.binding i with
    | unbound =>
      rw [hcase] at hok
      exact huplink.trans hok
    | home =>
      rw [hcase] at hok
      exact (congrArg t.live (hport i)).trans ((hhome i).trans hok)
    | replaceUplink =>
      rw [hcase] at hok
      exact (congrArg (fun p => t.live (otherUplink p)) (hport i)).trans ((hother i).trans hok)
    | replacePeer k =>
      rw [hcase] at hok
      obtain ⟨hk, hr, hs⟩ := hok
      exact ⟨hpeers ▸ hk, hreach k hk hr, by rw [hb]; exact hs⟩
    | split k =>
      rw [hcase] at hok
      obtain ⟨hk, hr, hs, hlive⟩ := hok
      exact ⟨hpeers ▸ hk, hreach k hk hr, by rw [hb]; exact hs, (congrArg t.live (hport i)).trans ((hhome i).trans hlive)⟩

theorem SameGround.reaches (h : s.SameGround t) {k : Nat} (hr : s.Reaches dead k) : t.Reaches dead k := by
  unfold State.Reaches
  rw [h.peerLive, h.crossLive]
  exact hr

theorem Tied.of_ground (h : s.Tied dead) (hg : s.SameGround t) (hpu : t.pu = s.pu) : t.Tied dead :=
  h.transport (by rw [hg.1]) (by rw [hg.2.1]) (by rw [hpu]) (by rw [hpu]) (by rw [hpu]) (by rw [hpu]) (hg.live _) (hg.live _)
    fun _ _ => hg.reaches

theorem Used.of_ground (h : s.Used) (hil : t.il.station = s.il.station) (hbind : t.pu.bindings = s.pu.bindings)
    (hborrow : t.pu.borrows = s.pu.borrows) : t.Used := fun k hk hactive => by
  have hpeers : t.peers = s.peers := by unfold State.peers; rw [hil]
  rw [hasPathToward_congr (s := s) (fun i _ => binding_congr hbind i)]
  rw [borrow_congr hborrow] at hactive
  exact h k (hpeers ▸ hk) hactive

theorem Agrees.of_ground (h : s.Agrees) (hg : s.SameGround t) (hpu : t.pu = s.pu) : t.Agrees :=
  ⟨h.1.of_ground hg hpu, h.2.of_ground (by rw [hg.1]) (by rw [hpu]) (by rw [hpu])⟩

/-! ## Moves of paths -/

theorem Recorded.rebound (h : s.Recorded dead) (hr : s.Rebound t) : t.Recorded dead := by
  rw [hr]
  exact ⟨h.homes, h.sole, h.reach, h.upgrade, h.relief, h.one⟩

theorem bindingOk_rebound (hr : s.Rebound t) {i : Nat} {b : Binding} (h : s.BindingOk dead i b) : t.BindingOk dead i b := by
  rw [hr]
  exact h

/-- Paths moved one by one, each to where the invariant lets it be. -/
theorem Tied.rebind (h : s.Tied dead) {is : List Nat} {f : Nat → Binding} (hf : ∀ i ∈ is, s.BindingOk dead i (f i)) :
    (s.rebind is f).Tied dead := by
  refine ⟨h.1.rebound (rebound_rebind ..), fun i hi => bindingOk_rebound (rebound_rebind ..) ?_⟩
  rw [binding_rebind]
  split
  · next hmem => exact hf i hmem
  · exact h.2 i hi

/-- A re-placed path is bound as the invariant asks. -/
theorem bindingOk_replacement (h : s.Recorded dead) (e : Option Nat) (i : Nat) : s.BindingOk dead i (s.replacement e i) := by
  cases hhome : s.live (s.homePort i) with
  | true => rw [replacement_of_home _ hhome]; exact hhome
  | false =>
    cases hother : s.live (otherUplink (s.homePort i)) with
    | true => rw [replacement_of_other _ hhome hother]; exact hother
    | false =>
      rcases replacement_of_dead e hhome hother with ⟨f, hf, heq⟩ | ⟨-, heq⟩
      · obtain ⟨hpeer, hactive, -, -⟩ := faultTarget_spec hf
        rw [heq]
        exact ⟨hpeer, h.reach f hpeer (by rw [hactive]; exact nofun), hactive⟩
      · rw [heq]
        exact (live_home_iff h.homes i).trans (by rw [hhome, hother]; rfl)

theorem Tied.replacePaths (h : s.Tied dead) (e : Option Nat) (p : Nat → Binding → Bool) : (s.replacePaths e p).Tied dead :=
  h.rebind fun i _ => bindingOk_replacement h.1 e i

/-! ## Changes of one record -/

/-- What a new record for a peer must meet among the records. -/
structure Suits (dead : Nat → Prop) (s : State) (k : Nat) (b : BorrowRecord) : Prop where
  reach : b.state ≠ .none → s.Reaches dead k
  upgrade : b.upgrade = true → b.state = .active .fault
  relief : (s.lend k).map LendRecord.reason = some .relief → b.state.hasReason .relief = false
  one : ∀ j ∈ s.peers, j ≠ k → ∀ r, b.state.hasReason r = true → (s.borrow j).state.hasReason r = false

/-- What a new record for a peer must meet, among the records and for the paths. -/
structure Fits (dead : Nat → Prop) (s : State) (k : Nat) (b : BorrowRecord) : Prop extends Suits dead s k b where
  bound : ∀ i ∈ paths, (s.binding i = .replacePeer k → b.state = .active .fault) ∧ (s.binding i = .split k → b.state = .active .relief)

theorem Recorded.setBorrow (h : s.Recorded dead) {k : Nat} {b : BorrowRecord} (hb : s.Suits dead k b) :
    (s.setBorrow k b).Recorded dead := by
  obtain ⟨homes, sole, reach, upgrade, relief, one⟩ := h
  have hread : ∀ j, (s.setBorrow k b).borrow j = if j = k then b else s.borrow j := fun j => borrow_setBorrow s k j b
  refine ⟨homes, sole, fun j hj => ?_, fun j hj => ?_, fun j hj => ?_, fun i hi j hj r => ?_⟩
  · rw [hread]
    split
    · next hjk => subst hjk; exact hb.reach
    · exact reach j hj
  · rw [hread]
    split
    · exact hb.upgrade
    · exact upgrade j hj
  · rw [hread]
    split
    · next hjk => subst hjk; exact hb.relief
    · exact relief j hj
  · rw [hread, hread]
    split
    · next hik =>
      split
      · next hjk => exact fun _ _ => hik.trans hjk.symm
      · next hjk => exact fun h1 h2 => absurd h2 (by rw [hb.one j hj hjk r h1]; exact nofun)
    · next hik =>
      split
      · exact fun h1 h2 => absurd h1 (by rw [hb.one i hi hik r h2]; exact nofun)
      · exact one i hi j hj r

theorem Tied.setBorrow (h : s.Tied dead) {k : Nat} {b : BorrowRecord} (hb : s.Fits dead k b) : (s.setBorrow k b).Tied dead := by
  have hread : ∀ j, (s.setBorrow k b).borrow j = if j = k then b else s.borrow j := fun j => borrow_setBorrow s k j b
  refine ⟨h.1.setBorrow hb.toSuits, fun i hi => ?_⟩
  have hok := h.2 i hi
  change (s.setBorrow k b).BindingOk dead i (s.binding i)
  cases hcase : s.binding i with
  | unbound => rw [hcase] at hok; exact hok
  | home => rw [hcase] at hok; exact hok
  | replaceUplink => rw [hcase] at hok; exact hok
  | replacePeer j =>
    rw [hcase] at hok
    obtain ⟨hj, hr, hs⟩ := hok
    refine ⟨hj, hr, ?_⟩
    rw [hread]
    split
    · next hjk => subst hjk; exact (hb.bound i hi).1 hcase
    · exact hs
  | split j =>
    rw [hcase] at hok
    obtain ⟨hj, hr, hs, hlive⟩ := hok
    refine ⟨hj, hr, ?_, hlive⟩
    rw [hread]
    split
    · next hjk => subst hjk; exact (hb.bound i hi).2 hcase
    · exact hs

/-- A record that is NONE fits where no path is bound toward its peer. -/
theorem fits_none {k : Nat} {b : BorrowRecord} (hnone : b.state = .none) (hup : b.upgrade = false)
    (hpath : ∀ i ∈ paths, (s.binding i).toward ≠ some k) : s.Fits dead k b where
  bound i hi := ⟨fun h => absurd (by rw [h]; rfl) (hpath i hi), fun h => absurd (by rw [h]; rfl) (hpath i hi)⟩
  reach h := absurd hnone h
  upgrade h := nomatch hup.symm.trans h
  relief _ := by rw [hnone]; rfl
  one j _ _ r h := by rw [hnone] at h; exact nomatch h

/-- A record whose state stands fits. -/
theorem Tied.fits_same (h : s.Tied dead) {k : Nat} (hk : k ∈ s.peers) {b : BorrowRecord} (hstate : b.state = (s.borrow k).state)
    (hup : b.upgrade = true → (s.borrow k).upgrade = true) : s.Fits dead k b where
  bound i hi := by
    have hok := h.2 i hi
    exact ⟨fun hb => by rw [hb] at hok; exact hstate.trans hok.2.2, fun hb => by rw [hb] at hok; exact hstate.trans hok.2.2.1⟩
  reach hne := h.1.reach k hk (hstate ▸ hne)
  upgrade hu := hstate.trans (h.1.upgrade k hk (hup hu))
  relief hl := by rw [hstate]; exact h.1.relief k hk hl
  one j hj hjk r hr := by
    rw [hstate] at hr
    rw [Bool.eq_false_iff]
    exact fun hj' => hjk (h.1.one j hj k hk r hj' hr)

/-- No path is bound toward a peer whose record is not ACTIVE. -/
theorem Tied.no_path (h : s.Tied dead) {k : Nat} (hstate : (s.borrow k).state.isActive = false) :
    ∀ i ∈ paths, (s.binding i).toward ≠ some k := fun i hi htoward => by
  have hok := h.2 i hi
  cases hcase : s.binding i with
  | unbound => rw [hcase] at htoward; exact nomatch htoward
  | home => rw [hcase] at htoward; exact nomatch htoward
  | replaceUplink => rw [hcase] at htoward; exact nomatch htoward
  | replacePeer j =>
    rw [hcase] at htoward hok
    cases htoward
    rw [hok.2.2] at hstate
    exact nomatch hstate
  | split j =>
    rw [hcase] at htoward hok
    cases htoward
    rw [hok.2.2.1] at hstate
    exact nomatch hstate

theorem no_path_of_not_hasPathToward {k : Nat} (h : s.hasPathToward k = false) : ∀ i ∈ paths, (s.binding i).toward ≠ some k :=
  fun i hi htoward => by
    have := hasPathToward_iff.2 ⟨i, hi, htoward⟩
    rw [h] at this
    exact nomatch this

/-! ## Settling -/

theorem Tied.rerecorded_line (h : s.Tied dead) (hr : t = { s with xc := t.xc }) : t.Tied dead :=
  h.of_ground (by rw [hr]; exact ⟨rfl, rfl, rfl, rfl⟩) (by rw [hr])

theorem Tied.freeRecord (h : s.Tied dead) (k : Nat) : (s.freeRecord k).Tied dead := by
  unfold State.freeRecord
  split
  · next hfree =>
    rw [Bool.and_eq_true] at hfree
    have hended : (s.setBorrow k (s.borrow k).ended).Tied dead :=
      h.setBorrow (fits_none rfl rfl (no_path_of_not_hasPathToward (by simpa using hfree.2)))
    dsimp only
    split
    · exact hended.rerecorded_line rfl
    · exact hended
  · exact h

theorem Tied.each {f : State → Nat → State} (hf : ∀ {z : State} k, z.Tied dead → (f z k).Tied dead) (h : s.Tied dead) (ks : List Nat) :
    (s.each ks f).Tied dead :=
  foldl_induct (f := f) (P := fun z => z.Tied dead) (fun _ k hz => hf k hz) ks h

theorem Tied.freeRecords (h : s.Tied dead) (ks : List Nat) : (s.each ks State.freeRecord).Tied dead :=
  Tied.each (fun k hz => hz.freeRecord k) h ks

theorem used_freeRecords (s : State) : (s.each s.peers State.freeRecord).Used := fun k hk hactive => by
  have hfreed := rerecorded_freeRecords s s.peers
  rw [hfreed.ground.peers] at hk
  rw [hfreed.hasPathToward]
  rw [borrow_freeRecords, if_pos hk] at hactive
  by_contra hpath
  unfold BorrowRecord.freed at hactive
  split at hactive
  · exact nomatch hactive
  · next hnot => exact hnot (by rw [hactive, Bool.eq_false_iff.2 hpath]; rfl)

theorem Tied.mapBorrows (h : s.Tied dead) {f : BorrowRecord → BorrowRecord}
    (hf : ∀ {z : State} {k}, z.Tied dead → k ∈ z.peers → z.Fits dead k (f (z.borrow k))) : (s.mapBorrows s.peers f).Tied dead := by
  have hsub : ∀ (ks : List Nat) (z : State), z.Tied dead → (∀ k ∈ ks, k ∈ z.peers) → (z.mapBorrows ks f).Tied dead := by
    intro ks
    induction ks with
    | nil => exact fun _ hz _ => hz
    | cons k ks ih =>
      intro z hz hks
      exact ih (z.setBorrow k (f (z.borrow k))) (hz.setBorrow (hf hz (hks k (by simp)))) fun j hj => hks j (by simp [hj])
  exact hsub s.peers s h fun _ hk => hk

theorem Tied.fits_abandoned (h : s.Tied dead) {k : Nat} (hk : k ∈ s.peers) : s.Fits dead k (s.borrow k).abandoned := by
  by_cases hstate : (s.borrow k).state = .requested .fault
  · rw [BorrowRecord.abandoned, if_pos hstate]
    exact fits_none rfl rfl (h.no_path (by rw [hstate]; rfl))
  · rw [BorrowRecord.abandoned_of_ne hstate]
    exact h.fits_same hk rfl id

theorem Tied.abandonFault (h : s.Tied dead) : s.abandonFault.Tied dead := by
  unfold State.abandonFault
  split
  · exact h
  · exact h.mapBorrows fun hz hk => hz.fits_abandoned hk

theorem Used.abandonFault (h : s.Used) : s.abandonFault.Used := fun k hk hactive => by
  have hr := rerecorded_abandonFault s
  rw [hr.ground.peers] at hk
  rw [hr.hasPathToward]
  refine h k hk ?_
  rw [borrow_abandonFault] at hactive
  split at hactive
  · unfold BorrowRecord.abandoned at hactive
    split at hactive
    · exact nomatch hactive
    · exact hactive
  · exact hactive

theorem lender_none_iff {r : Reason} : s.lender r = none ↔ ∀ k ∈ s.peers, (s.borrow k).state.hasReason r = false := by
  unfold State.lender
  rw [List.find?_eq_none]
  exact forall₂_congr fun k _ => by simp

/-- With a path UNBOUND and no fault record no path is bound toward any peer (R65). -/
theorem Tied.no_path_of_calls (h : s.Tied dead) (hcall : s.callsFault) (k : Nat) : ∀ i ∈ paths, (s.binding i).toward ≠ some k :=
  fun i hi htoward => by
    obtain ⟨hunbound, hnone⟩ := hcall
    obtain ⟨j, hj, hun⟩ := hasUnbound_iff.1 hunbound
    have hdown : s.anyUplink = false := by
      have hok := h.2 j hj
      rw [hun] at hok
      exact hok
    have hok := h.2 i hi
    cases hcase : s.binding i with
    | unbound => rw [hcase] at htoward; exact nomatch htoward
    | home => rw [hcase] at htoward; exact nomatch htoward
    | replaceUplink => rw [hcase] at htoward; exact nomatch htoward
    | replacePeer f =>
      rw [hcase] at hok
      have hno := lender_none_iff.1 hnone f hok.1
      rw [hok.2.2] at hno
      exact nomatch hno
    | split f =>
      rw [hcase] at hok
      have hup := live_home_iff h.1.homes i
      rw [hdown, hok.2.2.2] at hup
      exact nomatch hup

/-- A request fits where no path is bound toward the candidate and no other record has the reason. -/
theorem Tied.request (h : s.Tied dead) {k : Nat} {r : Reason} (hk : s.qualifies r k = true)
    (hpath : ∀ i ∈ paths, (s.binding i).toward ≠ some k) (hnone : s.lender r = none) : (s.request k r).Tied dead := by
  obtain ⟨hlive, hcross, -, -⟩ := eligible_iff.1 (qualifies_eligible hk)
  have hfits : s.Fits dead k ((s.borrow k).requested r) := {
    bound := fun i hi => ⟨fun hb => absurd (by rw [hb]; rfl) (hpath i hi), fun hb => absurd (by rw [hb]; rfl) (hpath i hi)⟩
    reach := fun _ => .inr ⟨by rw [State.peerLive, hlive]; rfl, hcross⟩
    upgrade := nofun
    relief := fun hl => by
      cases r with
      | fault => rfl
      | relief => exact absurd hl (eligibleRelief_iff.1 hk).2.2.2
    one := fun j hj _ q hq => by
      have hqr : r = q := by simpa [BorrowRecord.requested, BorrowState.hasReason] using hq
      exact hqr ▸ lender_none_iff.1 hnone j hj }
  exact (h.setBorrow hfits).rerecorded_line rfl

theorem Tied.faultRequest (h : s.Tied dead) : s.faultRequest.Tied dead := by
  by_cases hcall : s.callsFault
  · cases hk : s.candidate .fault with
    | none => rwa [faultRequest_of_no_candidate hk]
    | some k =>
      rw [faultRequest_of_calls hcall hk]
      exact h.request (candidate_qualifies hk).2 (h.no_path_of_calls hcall k) hcall.2
  · rwa [faultRequest_of_not_calls hcall]

theorem Used.faultRequest (h : s.Used) : s.faultRequest.Used := fun k hk hactive => by
  have hr := rerecorded_faultRequest s
  rw [hr.ground.peers] at hk
  rw [hr.hasPathToward]
  rcases borrow_faultRequest s k with heq | ⟨-, -, heq⟩
  · exact h k hk (heq ▸ hactive)
  · rw [heq] at hactive; exact nomatch hactive

theorem Tied.settlePaths (h : s.Tied dead) : s.settlePaths.Tied dead := (h.freeRecords s.peers).abandonFault.faultRequest

theorem used_settlePaths (s : State) : s.settlePaths.Used := (used_freeRecords s).abandonFault.faultRequest

theorem Tied.reportPaths (b : State) (h : s.Tied dead) : (b.reportPaths s).Tied dead :=
  h.of_ground ⟨by simp, by simp, by simp, by simp⟩ (by simp)

theorem Used.reportPaths (b : State) (h : s.Used) : (b.reportPaths s).Used := h.of_ground (by simp) (by simp) (by simp)

/-- After an event's moves, what settles and is reported is in agreement. -/
theorem Tied.settled (h : s.Tied dead) (b : State) : (b.reportPaths s.settlePaths).Tied dead ∧ (b.reportPaths s.settlePaths).Used :=
  ⟨h.settlePaths.reportPaths b, (used_settlePaths s).reportPaths b⟩

end State

end Sys2Proof.Machine
end

section
/-! The events of the Path Unit keep its agreement (R66 to R69, R72 to R78, R80 to R82). -/

namespace Sys2Proof.Machine

open Sys2Proof.Config

namespace State

variable {s t z : State} {dead : Nat → Prop}

/-! ## Lends -/

theorem Tied.dropLend (h : s.Tied dead) (k : Nat) : (s.dropLend k).Tied dead := by
  obtain ⟨⟨homes, sole, reach, upgrade, relief, one⟩, hbound⟩ := h
  refine ⟨⟨homes, sole, reach, upgrade, fun j hj hl => ?_, one⟩, hbound⟩
  rw [lend_dropLend] at hl
  split at hl
  · exact nomatch hl
  · exact relief j hj hl

theorem Tied.setLend (h : s.Tied dead) {k : Nat} {l : LendRecord}
    (hl : k ∈ s.peers → l.reason = .relief → (s.borrow k).state.hasReason .relief = false) : (s.setLend k l).Tied dead := by
  obtain ⟨⟨homes, sole, reach, upgrade, relief, one⟩, hbound⟩ := h
  refine ⟨⟨homes, sole, reach, upgrade, fun j hj hr => ?_, one⟩, hbound⟩
  rw [lend_setLend] at hr
  split at hr
  · next hjk => subst hjk; exact hl hj (Option.some.inj hr)
  · exact relief j hj hr

/-- Bindings stand and no record becomes ACTIVE. -/
theorem Used.of_records (h : s.Used) (hpeers : t.peers = s.peers) (hbind : ∀ i, t.binding i = s.binding i)
    (hactive : ∀ k ∈ s.peers, (t.borrow k).state.isActive = true → (s.borrow k).state.isActive = true) : t.Used := fun k hk hact => by
  rw [hasPathToward_congr (s := s) fun i _ => hbind i]
  exact h k (hpeers ▸ hk) (hactive k (hpeers ▸ hk) hact)

theorem Agrees.rerecorded_line (h : s.Agrees) (hr : t = { s with xc := t.xc }) : t.Agrees :=
  h.of_ground (by rw [hr]; exact ⟨rfl, rfl, rfl, rfl⟩) (by rw [hr])

theorem Agrees.dropLend (h : s.Agrees) (k : Nat) : (s.dropLend k).Agrees :=
  ⟨h.1.dropLend k, h.2.of_records rfl (fun _ => rfl) fun _ _ hact => hact⟩

theorem Agrees.setLend (h : s.Agrees) {k : Nat} {l : LendRecord}
    (hl : k ∈ s.peers → l.reason = .relief → (s.borrow k).state.hasReason .relief = false) : (s.setLend k l).Agrees :=
  ⟨h.1.setLend hl, h.2.of_records rfl (fun _ => rfl) fun _ _ hact => hact⟩

theorem Agrees.reportPaths (b : State) (h : s.Agrees) : (b.reportPaths s).Agrees := ⟨h.1.reportPaths b, h.2.reportPaths b⟩

/-- A record that ends, or whose state stands, leaves every ACTIVE record its path. -/
theorem Agrees.setBorrow (h : s.Agrees) {k : Nat} {b : BorrowRecord} (hb : s.Fits (fun _ => False) k b)
    (hactive : b.state.isActive = true → (s.borrow k).state.isActive = true) : (s.setBorrow k b).Agrees :=
  ⟨h.1.setBorrow hb, h.2.of_records rfl (fun _ => rfl) fun j _ hact => by
    rw [borrow_setBorrow] at hact
    split at hact
    · next hjk => subst hjk; exact hactive hact
    · exact hact⟩

theorem agrees_sendGrant (h : s.Agrees) (k : Nat) (g : GrantResult) : (s.sendGrant k g).Agrees := by
  unfold State.sendGrant
  split
  · exact h.rerecorded_line rfl
  · exact h.rerecorded_line rfl

/-! ## A lost peer (R77) -/

/-- A peer whose record is NONE counts no longer among those to be given up. -/
theorem Tied.lose {dead' : Nat → Prop} (h : s.Tied dead) {k : Nat} (hnone : (s.borrow k).state = .none)
    (hdead : ∀ j, dead j → j ≠ k → dead' j) : s.Tied dead' := by
  have hreach : ∀ {j}, (s.borrow j).state ≠ .none → s.Reaches dead j → s.Reaches dead' j := fun {j} hne hr =>
    hr.imp_left fun hd => hdead j hd fun hjk => hne (hjk ▸ hnone)
  refine ⟨⟨h.1.homes, h.1.sole, fun j hj hne => hreach hne (h.1.reach j hj hne), h.1.upgrade, h.1.relief, h.1.one⟩, fun i hi => ?_⟩
  have hok := h.2 i hi
  cases hcase : s.binding i with
  | unbound => rw [hcase] at hok; exact hok
  | home => rw [hcase] at hok; exact hok
  | replaceUplink => rw [hcase] at hok; exact hok
  | replacePeer j =>
    rw [hcase] at hok
    obtain ⟨hj, hr, hs⟩ := hok
    exact ⟨hj, hreach (by rw [hs]; exact nofun) hr, hs⟩
  | split j =>
    rw [hcase] at hok
    obtain ⟨hj, hr, hs, hlive⟩ := hok
    exact ⟨hj, hreach (by rw [hs]; exact nofun) hr, hs, hlive⟩

theorem no_path_replacePaths (s : State) (k : Nat) :
    ∀ i ∈ paths, ((s.replacePaths (some k) (fun _ b => b.toward == some k)).binding i).toward ≠ some k := fun i hi => by
  rw [binding_replacePaths]
  split
  · exact replacement_toward k
  · next hnot => exact fun htoward => hnot ⟨hi, by simp [htoward]⟩

theorem Tied.loseLender (h : s.Tied dead) (k : Nat) (noUplink : Bool) : (s.loseLender k noUplink).Tied dead :=
  (h.replacePaths (some k) _).setBorrow (fits_none rfl rfl (no_path_replacePaths s k))

theorem Tied.endArrangements (h : s.Tied dead) (k : Nat) :
    (s.endArrangements k).Tied dead ∧ ((s.endArrangements k).borrow k).state = .none := by
  have hend : ∀ y : State, y.Tied dead → (∀ i ∈ paths, (y.binding i).toward ≠ some k) →
      ((y.setBorrow k (y.borrow k).ended).dropLend k).Tied dead ∧
        (((y.setBorrow k (y.borrow k).ended).dropLend k).borrow k).state = .none := fun y hy hpath =>
    ⟨(hy.setBorrow (fits_none rfl rfl hpath)).dropLend k, by
      rw [show ∀ x : State, (x.dropLend k).borrow k = x.borrow k from fun _ => rfl, borrow_setBorrow, if_pos rfl]; rfl⟩
  unfold State.endArrangements
  split
  · exact hend _ (h.replacePaths _ _) (no_path_replacePaths s k)
  · next hactive => exact hend s h (h.no_path (Bool.eq_false_iff.2 hactive))

theorem Tied.pathsPeerLost {dead' : Nat → Prop} (h : s.Tied dead) {k : Nat} (hdead : ∀ j, dead j → j ≠ k → dead' j) :
    (s.pathsPeerLost k).Tied dead' ∧ (s.pathsPeerLost k).Used :=
  ((h.endArrangements k).1.lose (h.endArrangements k).2 hdead).settled s

/-! ## Uplinks (R67, R68) -/

theorem Recorded.setSole (h : s.Recorded dead) : s.setSole.Recorded dead :=
  ⟨h.homes, rfl, h.reach, h.upgrade, h.relief, h.one⟩

/-- What a path of a failed uplink u is still bound as. -/
def Fallen (dead : Nat → Prop) (s : State) (u i : Nat) : Binding → Prop
  | .home => s.homePort i = u
  | .replaceUplink => otherUplink (s.homePort i) = u
  | .split k => s.homePort i = u ∧ k ∈ s.peers ∧ s.Reaches dead k ∧ (s.borrow k).state = .active .relief
  | .unbound => False
  | .replacePeer _ => False

/-- Every path is bound as it may be, or is one of those that stale names. -/
def Loose (dead : Nat → Prop) (s : State) (stale : Nat → Binding → Prop) : Prop :=
  ∀ i ∈ paths, s.BindingOk dead i (s.binding i) ∨ stale i (s.binding i)

/-- What the failure of uplink u leaves of the agreement. -/
theorem Tied.fallen (h : s.Tied dead) {u : Nat} (hu : u = u0 ∨ u = u1) (hg : z.il = s.il ∧ z.cfg = s.cfg ∧ z.pv = s.pv)
    (hpu : z.pu = s.pu) (hlive : ∀ q, z.live q = if q = u then false else s.live q) :
    z.setSole.Recorded dead ∧ z.setSole.Loose dead (z.setSole.Fallen dead u) := by
  obtain ⟨⟨homes, -, reach, upgrade, relief, one⟩, hbound⟩ := h
  obtain ⟨hil, hcfg, hpv⟩ := hg
  have hpeers : z.peers = s.peers := by unfold State.peers; rw [hil]
  have hport : ∀ k, z.crossPort k = s.crossPort k := fun k => by unfold State.crossPort; rw [hil]
  have hcross : ∀ k, z.crossLive k = s.crossLive k := fun k => by
    unfold State.crossLive
    rw [hport, hlive, if_neg]
    have h18 : 18 ≤ s.crossPort k := Nat.le_add_right 18 _
    rcases hu with rfl | rfl
    · exact fun h => absurd (h ▸ h18) (by decide)
    · exact fun h => absurd (h ▸ h18) (by decide)
  have hreach : ∀ {k}, s.Reaches dead k → z.setSole.Reaches dead k := fun {k} hr => by
    refine hr.imp_right fun hboth => ?_
    have hpeer : z.setSole.peerLive k = s.peerLive k := by
      unfold State.peerLive State.peer; rw [show z.setSole.pv = z.pv from rfl, hpv]
    exact ⟨hpeer.trans hboth.1, (hcross k).trans hboth.2⟩
  have hborrow : ∀ k, z.setSole.borrow k = s.borrow k := fun k => (show z.setSole.borrow k = z.borrow k from rfl).trans
    (borrow_congr (by rw [hpu]) k)
  have hlend : ∀ k, z.setSole.lend k = s.lend k := fun k => (show z.setSole.lend k = z.lend k from rfl).trans
    (lend_congr (by rw [hpu]) k)
  have hbinding : ∀ i, z.setSole.binding i = s.binding i := fun i => (show z.setSole.binding i = z.binding i from rfl).trans
    (binding_congr (by rw [hpu]) i)
  have hhome : ∀ i, z.setSole.homePort i = s.homePort i := fun i => by
    unfold State.homePort; rw [show z.setSole.cfg = z.cfg from rfl, hcfg]
  have hlow : ∀ q, s.live q = false → z.live q = false := fun q hq => by rw [hlive]; split; rfl; exact hq
  refine ⟨⟨show ∀ x ∈ z.cfg.homes, x ≤ 1 by rw [hcfg]; exact homes, rfl, fun k hk hne => ?_, fun k hk => ?_, fun k hk => ?_,
    fun j hj k hk => ?_⟩, fun i hi => ?_⟩
  · rw [hborrow] at hne
    exact hreach (reach k (hpeers ▸ hk) hne)
  · rw [hborrow]; exact upgrade k (hpeers ▸ hk)
  · rw [hborrow, hlend]; exact relief k (hpeers ▸ hk)
  · rw [hborrow, hborrow]; exact one j (hpeers ▸ hj) k (hpeers ▸ hk)
  · have hok := hbound i hi
    rw [hbinding]
    cases hcase : s.binding i with
    | unbound =>
      rw [hcase] at hok
      have hboth : s.live u0 = false ∧ s.live u1 = false := by simpa [State.BindingOk, State.anyUplink] using hok
      refine .inl ?_
      change (z.live u0 || z.live u1) = false
      rw [hlow _ hboth.1, hlow _ hboth.2]
      rfl
    | home =>
      rw [hcase] at hok
      by_cases hiu : s.homePort i = u
      · exact .inr ((hhome i).trans hiu)
      · refine .inl ((congrArg z.live (hhome i)).trans ?_)
        rw [hlive, if_neg hiu]
        exact hok
    | replaceUplink =>
      rw [hcase] at hok
      by_cases hiu : otherUplink (s.homePort i) = u
      · exact .inr ((congrArg otherUplink (hhome i)).trans hiu)
      · refine .inl ((congrArg (fun p => z.live (otherUplink p)) (hhome i)).trans ?_)
        rw [hlive, if_neg hiu]
        exact hok
    | replacePeer k =>
      rw [hcase] at hok
      obtain ⟨hk, hr, hs⟩ := hok
      exact .inl ⟨hpeers ▸ hk, hreach hr, by rw [hborrow]; exact hs⟩
    | split k =>
      rw [hcase] at hok
      obtain ⟨hk, hr, hs, hl⟩ := hok
      by_cases hiu : s.homePort i = u
      · exact .inr ⟨(hhome i).trans hiu, hpeers ▸ hk, hreach hr, by rw [hborrow]; exact hs⟩
      · refine .inl ⟨hpeers ▸ hk, hreach hr, by rw [hborrow]; exact hs, (congrArg z.live (hhome i)).trans ?_⟩
        rw [hlive, if_neg hiu]
        exact hl

/-- Re-placing paths leaves those that the test does not name. -/
theorem Loose.replacePaths {stale stale' : Nat → Binding → Prop} (h : s.Loose dead stale) (hr : s.Recorded dead)
    (e : Option Nat) {p : Nat → Binding → Bool} (hp : ∀ i b, stale i b → p i b = true ∨ stale' i b) :
    (s.replacePaths e p).Loose dead stale' := fun i hi => by
  have hrebound := rebound_replacePaths s e p
  rw [binding_replacePaths]
  split
  · exact .inl (bindingOk_rebound hrebound (bindingOk_replacement hr e i))
  · next hnot =>
    rcases h i hi with hok | hstale
    · exact .inl (bindingOk_rebound hrebound hok)
    · rcases hp i _ hstale with hpass | hleft
      · exact absurd ⟨hi, hpass⟩ hnot
      · exact .inr hleft

theorem mem_splitPaths {u i : Nat} : i ∈ s.splitPaths u ↔ i ∈ paths ∧ s.homePort i = u ∧ ∃ k, s.binding i = .split k := by
  unfold State.splitPaths
  rw [List.mem_filter]
  refine and_congr_right fun _ => ?_
  cases s.binding i <;> simp

/-- The SPLIT and the REPLACE paths that a failed uplink has left. -/
def Fallen2 (dead : Nat → Prop) (s : State) (u i : Nat) (b : Binding) : Prop :=
  (∃ k, b = .split k ∧ s.homePort i = u ∧ k ∈ s.peers ∧ s.Reaches dead k ∧ (s.borrow k).state = .active .relief) ∨
    (b = .replaceUplink ∧ otherUplink (s.homePort i) = u)

/-- The paths in REPLACE on a failed uplink. -/
def Fallen3 (s : State) (u i : Nat) (b : Binding) : Prop := b = .replaceUplink ∧ otherUplink (s.homePort i) = u

/-- The SPLIT paths of a failed uplink moved to where the invariant lets them be. -/
theorem Loose.rebindSplit {u : Nat} (h : s.Loose dead (s.Fallen2 dead u)) {f : Nat → Binding}
    (hf : ∀ i ∈ s.splitPaths u, s.BindingOk dead i (f i)) : (s.rebind (s.splitPaths u) f).Loose dead (s.Fallen3 u) := fun i hi => by
  have hrebound := rebound_rebind s (s.splitPaths u) f
  rw [binding_rebind]
  split
  · next hmem => exact .inl (bindingOk_rebound hrebound (hf i hmem))
  · next hnot =>
    rcases h i hi with hok | ⟨k, hk, hhome, -⟩ | hleft
    · exact .inl (bindingOk_rebound hrebound hok)
    · exact absurd (mem_splitPaths.2 ⟨hi, hhome, k, hk⟩) hnot
    · exact .inr hleft

theorem Recorded.line (h : s.Recorded dead) (hr : t = { s with xc := t.xc }) : t.Recorded dead := by
  rw [hr]
  exact ⟨h.homes, h.sole, h.reach, h.upgrade, h.relief, h.one⟩

theorem bindingOk_line (hr : t = { s with xc := t.xc }) {i : Nat} {b : Binding} (h : s.BindingOk dead i b) : t.BindingOk dead i b := by
  rw [hr]
  exact h

theorem eq_nil_or_singleton {α : Type} {l : List α} (hnodup : l.Nodup) (hone : ∀ a ∈ l, ∀ b ∈ l, a = b) : l = [] ∨ ∃ a, l = [a] := by
  cases l with
  | nil => exact .inl rfl
  | cons a rest =>
    cases rest with
    | nil => exact .inr ⟨a, rfl⟩
    | cons b rest =>
      have hab := hone a (by simp) b (by simp)
      subst hab
      simp at hnodup

/-- All SPLIT paths of a station with no uplink left go whole to the relief lender, which becomes the fault lender (R67, R75). -/
theorem upgraded_moveSplit {u : Nat} (h : s.Loose dead (s.Fallen2 dead u)) (hr : s.Recorded dead) (hu : u = u0 ∨ u = u1)
    (hother : s.live (otherUplink u) = false) (hno : s.lender .fault = none) :
    let t := (s.rebind (s.splitPaths u) (fun i => (s.binding i).onLender)).each
      (s.peers.filter (fun k => (s.splitPaths u).any (fun i => s.binding i == .split k))) State.upgrade
    t.Recorded dead ∧ t.Loose dead (s.Fallen3 u) := by
  have hsplit : ∀ i ∈ paths, ∀ k, s.binding i = .split k → s.homePort i = u ∧ k ∈ s.peers ∧ s.Reaches dead k ∧
      (s.borrow k).state = .active .relief := by
    intro i hi k hk
    rcases h i hi with hok | ⟨j, hj, hhome, hrest⟩ | ⟨hb, -⟩
    · rw [hk] at hok
      obtain ⟨hpeer, hreach, hstate, hlive⟩ := hok
      refine ⟨?_, hpeer, hreach, hstate⟩
      by_contra hne
      have hhome : s.homePort i = otherUplink u := by
        rcases homePort_cases hr.homes i with hi | hi <;> rcases hu with rfl | rfl
        · exact absurd hi hne
        · exact hi
        · exact hi
        · exact absurd hi hne
      rw [hhome, hother] at hlive
      exact nomatch hlive
    · cases hk.symm.trans hj
      exact ⟨hhome, hrest⟩
    · exact nomatch hk.symm.trans hb
  have hlist : ∀ k ∈ s.peers.filter (fun k => (s.splitPaths u).any (fun i => s.binding i == .split k)),
      k ∈ s.peers ∧ s.Reaches dead k ∧ (s.borrow k).state = .active .relief := fun k hk => by
    obtain ⟨-, hany⟩ := List.mem_filter.1 hk
    obtain ⟨i, hi, hb⟩ := List.any_eq_true.1 hany
    exact (hsplit i (mem_splitPaths.1 hi).1 k (by simpa using hb)).2
  have hrebound := rebound_rebind s (s.splitPaths u) (fun i => (s.binding i).onLender)
  have hrecorded := hr.rebound hrebound
  have hmoved : ∀ i ∈ paths, (s.rebind (s.splitPaths u) (fun i => (s.binding i).onLender)).binding i =
      if i ∈ s.splitPaths u then (s.binding i).onLender else s.binding i := fun i _ => binding_rebind ..
  have hold : ∀ i ∈ paths, i ∉ s.splitPaths u → s.BindingOk dead i (s.binding i) ∧ (∀ k, s.binding i ≠ .split k) ∨
      s.Fallen3 u i (s.binding i) := fun i hi hnot => by
    rcases h i hi with hok | ⟨k, hk, hhome, -⟩ | hleft
    · exact .inl ⟨hok, fun k hk => hnot (mem_splitPaths.2 ⟨hi, (hsplit i hi k hk).1, k, hk⟩)⟩
    · exact absurd (mem_splitPaths.2 ⟨hi, hhome, k, hk⟩) hnot
    · exact .inr hleft
  have hmember : ∀ i ∈ s.splitPaths u, ∃ k, s.binding i = .split k ∧
      k ∈ s.peers.filter (fun k => (s.splitPaths u).any (fun i => s.binding i == .split k)) := fun i hi => by
    obtain ⟨hp, hhome, k, hk⟩ := mem_splitPaths.1 hi
    exact ⟨k, hk, List.mem_filter.2 ⟨(hsplit i hp k hk).2.1, List.any_eq_true.2 ⟨i, hi, by simp [hk]⟩⟩⟩
  rcases eq_nil_or_singleton ((nodup_peers s).filter _) (fun a ha b hb => by
    obtain ⟨ha, -, hsa⟩ := hlist a ha
    obtain ⟨hb, -, hsb⟩ := hlist b hb
    exact hr.one a ha b hb .relief (by rw [hsa]; rfl) (by rw [hsb]; rfl)) with hnil | ⟨k, hk⟩
  · rw [hnil] at hmember ⊢
    refine ⟨hrecorded, fun i hi => ?_⟩
    change (s.rebind (s.splitPaths u) (fun i => (s.binding i).onLender)).BindingOk dead i
      ((s.rebind (s.splitPaths u) (fun i => (s.binding i).onLender)).binding i) ∨ _
    rw [hmoved i hi, if_neg fun hmem => (hmember i hmem).elim fun _ hk => nomatch hk.2]
    refine (hold i hi fun hmem => (hmember i hmem).elim fun _ hk => nomatch hk.2).imp (fun hok => ?_) fun hleft => ?_
    · exact bindingOk_rebound hrebound hok.1
    · rw [show ((s.rebind (s.splitPaths u) (fun i => (s.binding i).onLender)).each [] State.upgrade).binding i = s.binding i from
        (hmoved i hi).trans (if_neg fun hmem => (hmember i hmem).elim fun _ hk => nomatch hk.2)]
      exact hleft
  · obtain ⟨hpeer, hreach, hstate⟩ := hlist k (hk ▸ List.mem_singleton.2 rfl)
    rw [hk] at hmember ⊢
    have hnofault := lender_none_iff.1 hno
    have hsuits : (s.rebind (s.splitPaths u) (fun i => (s.binding i).onLender)).Suits dead k
        { (s.rebind (s.splitPaths u) (fun i => (s.binding i).onLender)).borrow k with
          state := .active .fault, upgrade := true, timer := 2 } := {
      reach := fun _ => hrebound.ground.reaches hreach
      upgrade := fun _ => rfl
      relief := fun _ => rfl
      one := fun j hj _ r hfault => by
        have hr : Reason.fault = r := by simpa [BorrowState.hasReason] using hfault
        rw [hrebound.ground.peers] at hj
        rw [hrebound.borrow, ← hr]
        exact hnofault j hj }
    refine ⟨(hrecorded.setBorrow hsuits).line rfl, fun i hi => ?_⟩
    have hread : ∀ j, ((s.rebind (s.splitPaths u) (fun i => (s.binding i).onLender)).upgrade k).borrow j = if j = k then
        { (s.rebind (s.splitPaths u) (fun i => (s.binding i).onLender)).borrow k with
          state := .active .fault, upgrade := true, timer := 2 } else s.borrow j := fun j =>
      (borrow_setBorrow ..).trans (if_congr Iff.rfl rfl (hrebound.borrow j))
    change ((s.rebind (s.splitPaths u) (fun i => (s.binding i).onLender)).upgrade k).BindingOk dead i
      ((s.rebind (s.splitPaths u) (fun i => (s.binding i).onLender)).binding i) ∨ _
    have hfallen : ∀ b, s.binding i = b → i ∉ s.splitPaths u →
        ((s.rebind (s.splitPaths u) (fun i => (s.binding i).onLender)).upgrade k).binding i = b := fun b hb hnot =>
      (hmoved i hi).trans ((if_neg hnot).trans hb)
    rw [hmoved i hi]
    split
    · next hmem =>
      obtain ⟨j, hj, hjk⟩ := hmember i hmem
      have hjk := List.mem_singleton.1 hjk
      subst hjk
      rw [hj]
      exact .inl ⟨by rw [show ((s.rebind (s.splitPaths u) (fun i => (s.binding i).onLender)).upgrade j).peers = _ from
        hrebound.ground.peers]; exact hpeer, hrebound.ground.reaches hreach, by rw [hread, if_pos rfl]⟩
    · next hnot =>
      rcases hold i hi hnot with ⟨hok, hns⟩ | hleft
      · refine .inl ?_
        have hok' := bindingOk_rebound hrebound hok
        cases hcase : s.binding i with
        | unbound => rw [hcase] at hok'; exact hok'
        | home => rw [hcase] at hok'; exact hok'
        | replaceUplink => rw [hcase] at hok'; exact hok'
        | replacePeer j =>
          rw [hcase] at hok
          have hno := hnofault j hok.1
          rw [hok.2.2] at hno
          exact nomatch hno
        | split j => exact absurd hcase (hns j)
      · refine .inr ?_
        rw [show ((s.rebind (s.splitPaths u) (fun i => (s.binding i).onLender)).each [k] State.upgrade).binding i = s.binding i from
          hfallen _ rfl hnot]
        exact hleft

/-- The second row of R67 leaves the paths in REPLACE on the failed uplink. -/
theorem moveSplit_loose {u : Nat} (h : s.Loose dead (s.Fallen2 dead u)) (hr : s.Recorded dead) (hu : u = u0 ∨ u = u1)
    (hdead : s.live u = false) :
    (s.moveSplit u).Recorded dead ∧ (s.moveSplit u).Loose dead (s.Fallen3 u) ∧ s.SameGround (s.moveSplit u) := by
  have hground : s.SameGround (s.moveSplit u) := ⟨by simp, by simp, by simp, by simp⟩
  have hmove : ∀ f, (∀ i ∈ s.splitPaths u, s.BindingOk dead i (f i)) →
      (s.rebind (s.splitPaths u) f).Recorded dead ∧ (s.rebind (s.splitPaths u) f).Loose dead (s.Fallen3 u) := fun f hf =>
    ⟨hr.rebound (rebound_rebind ..), h.rebindSplit hf⟩
  have hgoal : (s.moveSplit u).Recorded dead ∧ (s.moveSplit u).Loose dead (s.Fallen3 u) := by
    unfold State.moveSplit
    dsimp only
    split
    · next hlive =>
      refine hmove _ fun i hi => ?_
      exact (congrArg (fun p => s.live (otherUplink p)) (mem_splitPaths.1 hi).2.1).trans hlive
    · next hother =>
      split
      · next f hf =>
        obtain ⟨hpeer, hactive, -, -⟩ := faultTarget_spec hf
        exact hmove _ fun i _ => ⟨hpeer, hr.reach f hpeer (by rw [hactive]; exact nofun), hactive⟩
      · split
        · refine hmove _ fun i hi => ?_
          refine (live_home_iff hr.homes i).trans ?_
          rw [(mem_splitPaths.1 hi).2.1, hdead, Bool.eq_false_iff.2 hother]
          rfl
        · next hno =>
          exact upgraded_moveSplit h hr hu (Bool.eq_false_iff.2 hother) (by
            simpa [State.hasFaultRecord, State.faultBorrow] using hno)
  exact ⟨hgoal.1, hgoal.2, hground⟩

theorem Tied.emptyLends (h : s.Tied dead) : s.emptyLends.Tied dead :=
  Tied.each (fun k hz => (hz.dropLend k).rerecorded_line rfl) h _

/-- The failure of an uplink keeps the agreement (R67, R83). -/
theorem Tied.pathsUplinkFault (h : s.Tied dead) {u : Nat} (hu : u = u0 ∨ u = u1) (hg : z.il = s.il ∧ z.cfg = s.cfg ∧ z.pv = s.pv)
    (hpu : z.pu = s.pu) (hlive : ∀ q, z.live q = if q = u then false else s.live q) :
    (z.pathsUplinkFault u).Tied dead ∧ (z.pathsUplinkFault u).Used := by
  obtain ⟨hr0, hl0⟩ := h.fallen hu hg hpu hlive
  have hdead : z.setSole.live u = false := (hlive u).trans (if_pos rfl)
  have hrebound := rebound_replacePaths z.setSole none (fun i b => b == .home && z.homePort i == u)
  have hr1 := hr0.rebound hrebound
  have hl1 : (z.setSole.replacePaths none (fun i b => b == .home && z.homePort i == u)).Loose dead
      ((z.setSole.replacePaths none (fun i b => b == .home && z.homePort i == u)).Fallen2 dead u) := by
    refine hl0.replacePaths hr0 none fun i b hstale => ?_
    have hport := hrebound.ground.homePort i
    cases b with
    | home =>
      have hi : z.homePort i = u := hstale
      exact .inl (by simp [hi])
    | replaceUplink => exact .inr (.inr ⟨rfl, (congrArg otherUplink hport).trans hstale⟩)
    | split k =>
      obtain ⟨hi, hk, hreach, hs⟩ := hstale
      exact .inr (.inl ⟨k, rfl, hport.trans hi, by rw [hrebound.ground.peers]; exact hk, hrebound.ground.reaches hreach,
        by rw [hrebound.borrow]; exact hs⟩)
    | unbound => exact absurd hstale id
    | replacePeer k => exact absurd hstale id
  obtain ⟨hr2, hl2, hg2⟩ := moveSplit_loose hl1 hr1 hu ((hrebound.ground.live u).trans hdead)
  have htied : (((z.setSole.replacePaths none (fun i b => b == .home && z.homePort i == u)).moveSplit u).replacePaths none
      (fun i b => b == .replaceUplink && otherUplink (z.homePort i) == u)).Tied dead := by
    refine ⟨hr2.rebound (rebound_replacePaths ..), fun i hi => ?_⟩
    have hclean := hl2.replacePaths (stale' := fun _ _ => False) hr2 none
      (p := fun i b => b == .replaceUplink && otherUplink (z.homePort i) == u) fun i b hstale => by
        obtain ⟨rfl, hi⟩ := hstale
        rw [hrebound.ground.homePort] at hi
        have hi' : otherUplink (z.homePort i) = u := hi
        exact .inl (by simp [hi'])
    exact (hclean i hi).resolve_right id
  unfold State.pathsUplinkFault
  dsimp only
  split
  · exact htied.settled z
  · exact htied.emptyLends.settled z

/-- The entry of an uplink to UP keeps the agreement (R68). -/
theorem Tied.pathsUplinkUp (h : s.Tied dead) {u : Nat} (hu : u = u0 ∨ u = u1) (hg : z.il = s.il ∧ z.cfg = s.cfg ∧ z.pv = s.pv)
    (hpu : z.pu = s.pu) (hlive : ∀ q, z.live q = if q = u then true else s.live q) :
    (z.pathsUplinkUp u).Tied dead ∧ (z.pathsUplinkUp u).Used := by
  obtain ⟨⟨homes, -, reach, upgrade, relief, one⟩, hbound⟩ := h
  obtain ⟨hil, hcfg, hpv⟩ := hg
  have hpeers : z.peers = s.peers := by unfold State.peers; rw [hil]
  have hmono : ∀ q, s.live q = true → z.live q = true := fun q hq => by rw [hlive]; split; rfl; exact hq
  have hreach : ∀ {k}, s.Reaches dead k → z.Reaches dead k := fun {k} hr => by
    refine hr.imp_right fun hboth => ⟨?_, ?_⟩
    · have hpeer : z.peerLive k = s.peerLive k := by unfold State.peerLive State.peer; rw [hpv]
      exact hpeer.trans hboth.1
    · have hport : z.crossPort k = s.crossPort k := by unfold State.crossPort; rw [hil]
      unfold State.crossLive
      rw [hport]
      exact hmono _ hboth.2
  have hborrow : ∀ k, z.borrow k = s.borrow k := borrow_congr (by rw [hpu])
  have hlend : ∀ k, z.lend k = s.lend k := lend_congr (by rw [hpu])
  have hbinding : ∀ i, z.binding i = s.binding i := binding_congr (by rw [hpu])
  have hhome : ∀ i, z.homePort i = s.homePort i := fun i => by unfold State.homePort; rw [hcfg]
  have hzhomes : ∀ x ∈ z.cfg.homes, x ≤ 1 := by rw [hcfg]; exact homes
  have hrecorded : z.setSole.Recorded dead :=
    ⟨hzhomes, rfl, fun k hk hne => hreach (reach k (hpeers ▸ hk) (by rw [← hborrow]; exact hne)),
      fun k hk => by
        rw [show z.setSole.borrow k = z.borrow k from rfl, hborrow]; exact upgrade k (hpeers ▸ hk),
      fun k hk => by
        rw [show z.setSole.borrow k = z.borrow k from rfl, show z.setSole.lend k = z.lend k from rfl, hborrow, hlend]
        exact relief k (hpeers ▸ hk),
      fun j hj k hk => by
        rw [show z.setSole.borrow k = z.borrow k from rfl, show z.setSole.borrow j = z.borrow j from rfl, hborrow, hborrow]
        exact one j (hpeers ▸ hj) k (hpeers ▸ hk)⟩
  have hown : z.live u = true := (hlive u).trans (if_pos rfl)
  have hother : ∀ i, s.homePort i ≠ u → otherUplink (s.homePort i) = u := fun i hne => by
    rcases homePort_cases homes i with hi | hi <;> rcases hu with rfl | rfl
    · exact absurd hi hne
    · rw [hi]; rfl
    · rw [hi]; rfl
    · exact absurd hi hne
  have hmoved : ∀ i ∈ paths, z.BindingOk dead i (z.uplinkUpBinding u i) := fun i hi => by
    have hok := hbound i hi
    have htoOther : s.homePort i ≠ u → z.BindingOk dead i .replaceUplink := fun hne =>
      (congrArg (fun p => z.live (otherUplink p)) (hhome i)).trans ((congrArg z.live (hother i hne)).trans hown)
    unfold State.uplinkUpBinding
    rw [hbinding]
    cases hcase : s.binding i with
    | unbound =>
      rw [hcase] at hok
      dsimp only
      split
      · next hiu => exact (congrArg z.live hiu).trans hown
      · next hiu =>
        rw [hhome] at hiu
        have hdown : s.live (s.homePort i) = false := by
          have hup := live_home_iff homes i
          rw [show s.anyUplink = false from hok] at hup
          exact (Bool.or_eq_false_iff.1 hup.symm).1
        rw [if_neg (by rw [hhome, hlive, if_neg hiu, hdown]; exact nofun)]
        exact htoOther hiu
    | home => rw [hcase] at hok; exact (congrArg z.live (hhome i)).trans (hmono _ hok)
    | replaceUplink =>
      rw [hcase] at hok
      exact (congrArg (fun p => z.live (otherUplink p)) (hhome i)).trans (hmono _ hok)
    | replacePeer k =>
      rw [hcase] at hok
      obtain ⟨hk, hr, hs⟩ := hok
      have hstay : z.BindingOk dead i (.replacePeer k) := ⟨hpeers ▸ hk, hreach hr, by rw [hborrow]; exact hs⟩
      dsimp only
      split
      · exact hstay
      · next hiu =>
        split
        · exact hstay
        · exact htoOther (hhome i ▸ hiu)
    | split k =>
      rw [hcase] at hok
      obtain ⟨hk, hr, hs, hl⟩ := hok
      exact ⟨hpeers ▸ hk, hreach hr, by rw [hborrow]; exact hs, (congrArg z.live (hhome i)).trans (hmono _ hl)⟩
  have htied : (z.setSole.rebind paths (z.uplinkUpBinding u)).Tied dead := by
    have hrebound := rebound_rebind z.setSole paths (z.uplinkUpBinding u)
    refine ⟨hrecorded.rebound hrebound, fun i hi => bindingOk_rebound hrebound ?_⟩
    rw [binding_rebind, if_pos hi]
    exact hmoved i hi
  exact htied.settled z

theorem Agrees.pathsCrossUp (h : s.Agrees) : s.pathsCrossUp.Agrees :=
  ⟨h.1.faultRequest.reportPaths s, h.2.faultRequest.reportPaths s⟩

/-! ## The messages of the borrower (R74 to R76) -/

/-- A granted request: the record has its reason as before, and no path. -/
theorem Tied.fits_granted (h : s.Tied dead) {k : Nat} (hk : k ∈ s.peers) {r : Reason} (hstate : (s.borrow k).state = .requested r)
    {b : BorrowRecord} (hb : b.state = .active r) (hup : b.upgrade = false) : s.Fits dead k b where
  bound i hi := by
    have hno := h.no_path (k := k) (by rw [hstate]; rfl) i hi
    exact ⟨fun heq => absurd (by rw [heq]; rfl) hno, fun heq => absurd (by rw [heq]; rfl) hno⟩
  reach _ := h.1.reach k hk (by rw [hstate]; exact nofun)
  upgrade hu := nomatch hup.symm.trans hu
  relief hl := by
    have hno := h.1.relief k hk hl
    rw [hstate] at hno
    rw [hb]
    exact hno
  one j hj hjk q hq := by
    rw [Bool.eq_false_iff]
    refine fun hj' => hjk (h.1.one j hj k hk q hj' ?_)
    rw [hstate]
    rw [hb] at hq
    exact hq

theorem Tied.bindUnbound (h : s.Tied dead) {k : Nat} (hk : k ∈ s.peers) (hactive : (s.borrow k).state = .active .fault) :
    (s.bindUnbound k).Tied dead :=
  h.rebind fun _ _ => ⟨hk, h.1.reach k hk (by rw [hactive]; exact nofun), hactive⟩

theorem Tied.setBinding (h : s.Tied dead) {i : Nat} {b : Binding} (hb : s.BindingOk dead i b) : (s.setBinding i b).Tied dead :=
  Tied.rebind (is := [i]) (f := fun _ => b) h fun j hj => by
    cases List.mem_singleton.1 hj
    exact hb

theorem Tied.splitLowest (h : s.Tied dead) {k : Nat} (hk : k ∈ s.peers) (hactive : (s.borrow k).state = .active .relief) :
    (s.splitLowest k).Tied dead := by
  cases hlow : s.lowestHome with
  | none => rwa [splitLowest_of_none hlow]
  | some i =>
    obtain ⟨hi, hhome⟩ := mem_paths_of_lowestHome hlow
    have hok := h.2 i hi
    rw [hhome] at hok
    rw [splitLowest_of_some hlow]
    exact h.setBinding ⟨hk, h.1.reach k hk (by rw [hactive]; exact nofun), hactive, hok⟩

theorem Agrees.grantFrom (h : s.Agrees) {k : Nat} (hk : k ∈ s.peers) (g : GrantResult) : (s.grantFrom k g).Agrees := by
  have hread : ∀ b, (s.setBorrow k b).borrow k = b := fun b => (borrow_setBorrow ..).trans (if_pos rfl)
  cases hstate : (s.borrow k).state with
  | none =>
    rw [grantFrom_of_none hstate]
    split
    · exact h.rerecorded_line rfl
    · exact h
  | requested r =>
    by_cases hg : g = .granted
    · subst hg
      have hset : ∀ b : BorrowRecord, b.state = .active r → b.upgrade = false → (s.setBorrow k b).Tied (fun _ => False) := fun b hb hu =>
        h.1.setBorrow (h.1.fits_granted hk hstate hb hu)
      cases r with
      | fault =>
        rw [grantFrom_of_requested_fault hstate]
        exact ((hset _ rfl rfl).bindUnbound (by exact hk) (by rw [hread])).settled s
      | relief =>
        rw [grantFrom_of_requested_relief hstate]
        exact ((hset _ rfl rfl).splitLowest (by exact hk) (by rw [hread])).settled s
    · rw [grantFrom_of_requested_refused hstate hg]
      exact (h.1.setBorrow (fits_none rfl rfl (h.1.no_path (by rw [hstate]; rfl)))).settled s
  | active r =>
    rw [grantFrom_of_active hstate]
    split
    · next hup =>
      split
      · have hset := h.1.setBorrow (h.1.fits_same hk (b := { s.borrow k with upgrade := false, timer := 0 }) rfl nofun)
        exact (hset.bindUnbound (by exact hk) (by rw [hread]; exact h.1.1.upgrade k hk hup)).settled s
      · exact (h.1.loseLender k false).settled s
    · exact h

theorem Agrees.withdrawFrom (h : s.Agrees) (k : Nat) (w : WithdrawReason) : (s.withdrawFrom k w).Agrees := by
  cases hstate : (s.borrow k).state with
  | none => rwa [withdrawFrom_of_none w hstate]
  | active r =>
    rw [withdrawFrom_of_active w (by rw [hstate]; rfl)]
    exact (h.1.loseLender k _).settled s
  | requested r =>
    rw [withdrawFrom_of_requested w hstate]
    exact (h.1.setBorrow (fits_none rfl rfl (h.1.no_path (by rw [hstate]; rfl)))).settled s

/-! ## Shed and return requests (R73) -/

theorem lender_relief_of_none (hactive : s.activeRelief = none) (hreq : s.requestedRelief = none) : s.lender .relief = none := by
  refine lender_none_iff.2 fun k hk => ?_
  have h1 := List.find?_eq_none.1 hactive k hk
  have h2 := List.find?_eq_none.1 hreq k hk
  cases hstate : (s.borrow k).state with
  | none => rfl
  | requested r => cases r; rfl; exact absurd (by rw [hstate]; rfl) h2
  | active r => cases r; rfl; exact absurd (by rw [hstate]; rfl) h1

theorem Agrees.shed (h : s.Agrees) : s.shed.Agrees := by
  cases hactive : s.activeRelief with
  | some k =>
    rw [shed_of_active hactive]
    exact (h.1.splitLowest (List.mem_of_find?_eq_some hactive) (by simpa using List.find?_some hactive)).settled s
  | none =>
    by_cases hreq : s.requestedRelief = none
    · cases hcand : s.candidate .relief with
      | none => rwa [(shed_of_none hactive hreq).2 hcand]
      | some k =>
        rw [(shed_of_none hactive hreq).1 k hcand]
        obtain ⟨hk, hqual⟩ := candidate_qualifies hcand
        have hrelief := lender_relief_of_none hactive hreq
        have hnone : (s.borrow k).state.isActive = false := by
          have hno := lender_none_iff.1 hrelief k hk
          cases hstate : (s.borrow k).state with
          | none => rfl
          | requested r => rfl
          | active r =>
            rw [hstate] at hno
            cases r with
            | relief => exact nomatch hno
            | fault =>
              refine absurd ?_ (eligibleRelief_iff.1 hqual).2.2.1
              cases hlend : s.lender .fault with
              | none =>
                have hno := lender_none_iff.1 hlend k hk
                rw [hstate] at hno
                exact nomatch hno
              | some j =>
                have hj : (s.borrow j).state.hasReason .fault = true :=
                  List.find?_some (p := fun k => (s.borrow k).state.hasReason .fault) hlend
                rw [h.1.1.one j (List.mem_of_find?_eq_some hlend) k hk .fault hj (by rw [hstate]; rfl)]
        exact (h.1.request hqual (h.1.no_path hnone) hrelief).settled s
    · rwa [shed_of_requested hactive hreq]

theorem highestSplit_spec {i : Nat} (h : s.highestSplit = some i) : i ∈ paths ∧ ∃ k, s.binding i = .split k := by
  have hmem := List.mem_reverse.1 (List.mem_of_find?_eq_some h)
  have hsplit := List.find?_some h
  refine ⟨hmem, ?_⟩
  revert hsplit
  cases s.binding i <;> simp

theorem Agrees.giveBackPath (h : s.Agrees) : s.giveBackPath.Agrees := by
  cases hsplit : s.highestSplit with
  | some i =>
    obtain ⟨hi, k, hk⟩ := highestSplit_spec hsplit
    have hok := h.1.2 i hi
    rw [hk] at hok
    rw [giveBackPath_of_split hsplit]
    exact (h.1.setBinding (b := .home) hok.2.2.2).settled s
  | none =>
    cases hreq : s.requestedRelief with
    | none => rwa [(giveBackPath_of_no_split hsplit).2 hreq]
    | some k =>
      rw [(giveBackPath_of_no_split hsplit).1 k hreq]
      have hstate : (s.borrow k).state = .requested .relief := by simpa using List.find?_some hreq
      exact (h.1.setBorrow (fits_none rfl rfl (h.1.no_path (by rw [hstate]; rfl)))).settled s

/-! ## The messages of the lender (R80, R81) -/

theorem Agrees.lendRelief (h : s.Agrees) {k : Nat} (hk : k ∈ s.peers → (s.borrow k).state.hasReason .relief = false) :
    (s.lendRelief k).Agrees := agrees_sendGrant (h.setLend fun hmem _ => hk hmem) k .granted

theorem Agrees.lendFault (h : s.Agrees) (k : Nat) (sole : Bool) : (s.lendFault k sole).Agrees :=
  agrees_sendGrant (h.setLend fun _ (hr : Reason.fault = .relief) => (nomatch hr)) k .granted

theorem Agrees.refuse (h : s.Agrees) (k : Nat) (r : Reason) (g : GrantResult) : (s.refuse k r g).Agrees := by
  cases r
  · exact agrees_sendGrant h k g
  · exact agrees_sendGrant (h.dropLend k) k g

theorem Agrees.answerRelief (h : s.Agrees) (k : Nat) : (s.answerRelief k).Agrees := by
  unfold State.answerRelief
  split
  · exact h.refuse ..
  · split
    · exact h.refuse ..
    · next hactive =>
      split
      · next hreq =>
        split
        · exact h.refuse ..
        · have hended : (s.setBorrow k (s.borrow k).ended).Agrees :=
            h.setBorrow (fits_none rfl rfl (h.1.no_path (by rw [hreq]; rfl))) nofun
          exact hended.lendRelief fun _ => by rw [borrow_setBorrow, if_pos rfl]; rfl
      · next hreq =>
        refine h.lendRelief fun _ => ?_
        cases hstate : (s.borrow k).state with
        | none => rfl
        | requested r => cases r; rfl; exact absurd hstate hreq
        | active r => cases r; rfl; exact absurd hstate hactive

theorem Agrees.borrowFrom (h : s.Agrees) (k : Nat) (r : Reason) (sole : Bool) : (s.borrowFrom k r sole).Agrees := by
  have hrelief : (if s.anyUplink then s.answerRelief k else s.refuse k .relief .noUplink).Agrees := by
    split
    · exact h.answerRelief k
    · exact h.refuse ..
  unfold State.borrowFrom
  split
  · refine Agrees.reportPaths s ?_
    unfold State.answerBorrow
    split
    · exact h.lendFault ..
    · split
      · exact agrees_sendGrant h ..
      · exact hrelief
    · split
      · exact h.lendFault ..
      · exact h.refuse ..
    · exact hrelief
  · exact h

theorem Agrees.returnFrom (h : s.Agrees) (k : Nat) : (s.returnFrom k).Agrees := (h.dropLend k).reportPaths s

theorem Agrees.lendCheck (h : s.Agrees) {k : Nat} (hk : k ∈ s.peers) (l : LevelFields) : (s.lendCheck k l).Agrees := by
  have hexclusion : ∀ {y : State}, y.Agrees → k ∈ y.peers →
      (if (y.borrow k).noUplink && (l.u0.isLive || l.u1.isLive) then
        y.setBorrow k { y.borrow k with exclusion := 0, noUplink := false } else y).Agrees := fun hy hmem => by
    split
    · exact hy.setBorrow (hy.1.fits_same hmem rfl id) id
    · exact hy
  unfold State.lendCheck
  refine Agrees.reportPaths s (hexclusion ?_ ?_)
  · split
    · next d hd =>
      split
      · split
        · next hr => exact h.setLend fun _ hrelief => (nomatch hr.symm.trans hrelief)
        · exact h
      · exact h.dropLend k
    · exact h
  · split
    · split
      · split <;> exact hk
      · exact hk
    · exact hk

/-! ## The report tick (R78, R82) -/

theorem Tied.stagedReturn (h : s.Tied dead) : s.stagedReturn.Tied dead := by
  unfold State.stagedReturn
  split
  · next i hi =>
    have hfound := List.find?_some hi
    rw [Bool.and_eq_true, beq_iff_eq] at hfound
    exact h.setBinding (b := .home) (by
      change s.live (s.homePort i) = true
      unfold State.live
      rw [hfound.2]
      rfl)
  · exact h

theorem Tied.withdrawOne (h : s.Tied dead) : s.withdrawOne.Tied dead := by
  have hlend : ∀ k, (s.withdrawLend k).Tied dead := fun k => (h.dropLend k).rerecorded_line rfl
  unfold State.withdrawOne
  split
  · split
    · exact hlend _
    · split
      · exact hlend _
      · exact h
  · exact h

theorem Tied.requestTick (h : s.Tied dead) {k : Nat} (hk : k ∈ s.peers) : (s.requestTick k).Tied dead := by
  unfold State.requestTick
  dsimp only
  split
  · split
    · next hstate => exact h.setBorrow (fits_none rfl rfl (h.no_path (by rw [hstate]; rfl)))
    · split
      · exact (h.setBorrow (h.fits_same hk (b := { s.borrow k with timer := 2 }) rfl id)).rerecorded_line rfl
      · exact h.setBorrow (h.fits_same hk rfl fun hu => (Bool.noConfusion hu : False).elim)
    · exact h
  · split
    · exact h.setBorrow (h.fits_same hk rfl id)
    · exact h

theorem Tied.tickTimers (h : s.Tied dead) : s.tickTimers.Tied dead := by
  have hsub : ∀ (ks : List Nat) (z : State), z.Tied dead → (∀ k ∈ ks, k ∈ z.peers) → (z.each ks State.requestTick).Tied dead := by
    intro ks
    induction ks with
    | nil => exact fun _ hz _ => hz
    | cons k ks ih =>
      intro z hz hks
      refine ih (z.requestTick k) (hz.requestTick (hks k (by simp))) fun j hj => ?_
      have hpeers : (z.requestTick k).peers = z.peers := by unfold State.peers; simp
      rw [hpeers]
      exact hks j (by simp [hj])
  have hticked := hsub s.peers s h fun _ hk => hk
  have hpeers : (s.each s.peers State.requestTick).peers = s.peers := by unfold State.peers; simp
  unfold State.tickTimers
  have hmapped := hticked.mapBorrows (f := BorrowRecord.exclusionTick) fun {z k} hz hk => hz.fits_same hk ?_ ?_
  · rwa [hpeers] at hmapped
  · unfold BorrowRecord.exclusionTick
    split <;> rfl
  · unfold BorrowRecord.exclusionTick
    split <;> exact id

theorem Tied.pathTick (h : s.Tied dead) : s.pathTick.Tied dead ∧ s.pathTick.Used := by
  have hticked : s.tickPaths.tickTimers.Tied dead := h.stagedReturn.faultRequest.withdrawOne.tickTimers
  exact ⟨((hticked.freeRecords _).abandonFault).reportPaths s, ((used_freeRecords _).abandonFault).reportPaths s⟩

end State

end Sys2Proof.Machine
end

section
/-! Paths, borrows and lends agree with links and peers after every event (O40): the links and the peers that come and go, the
state while the image is LOADING, and the commands. -/

namespace Sys2Proof.Machine

open Sys2Proof.Config

namespace State

variable {s t z : State} {dead : Nat → Prop}

/-! ## Links that come and go -/

theorem live_setLink (s : State) (p q : Nat) (l : PortLink) :
    (s.setLink p l).live q = if q = p then l.state.isLive else s.live q := by
  unfold State.live
  rw [link_setLink]
  split <;> rfl

/-- A change of links and peers that the uplinks do not see and by which no peer is lost. -/
theorem Agrees.transport (h : s.Agrees) (hil : t.il = s.il) (hcfg : t.cfg = s.cfg) (hpu : t.pu = s.pu)
    (h0 : t.live u0 = s.live u0) (h1 : t.live u1 = s.live u1)
    (hkept : ∀ k ∈ s.peers, s.peerLive k = true ∧ s.crossLive k = true → t.peerLive k = true ∧ t.crossLive k = true) : t.Agrees :=
  ⟨h.1.transport (by rw [hil]) (by rw [hcfg]) (by rw [hpu]) (by rw [hpu]) (by rw [hpu]) (by rw [hpu]) h0 h1
    fun k hk hr => reaches_live.2 (hkept k hk (reaches_live.1 hr)), h.2.of_ground (by rw [hil]) (by rw [hpu]) (by rw [hpu])⟩

theorem crossLive_of_live (hil : t.il = s.il) {k : Nat} (hlive : t.live (s.crossPort k) = s.live (s.crossPort k)) :
    t.crossLive k = s.crossLive k := by
  unfold State.crossLive
  rw [show t.crossPort k = s.crossPort k by unfold State.crossPort; rw [hil]]
  exact hlive

theorem peerLive_congr (hpv : t.pv = s.pv) (k : Nat) : t.peerLive k = s.peerLive k := by
  unfold State.peerLive State.peer
  rw [hpv]

/-- A change of links by which none comes or goes. -/
theorem Agrees.relink (h : s.Agrees) (hil : t.il = s.il) (hcfg : t.cfg = s.cfg) (hpu : t.pu = s.pu) (hpv : t.pv = s.pv)
    (hlive : ∀ q, t.live q = s.live q) : t.Agrees :=
  h.transport hil hcfg hpu (hlive _) (hlive _) fun k _ hk => by
    rw [crossLive_of_live hil (hlive _)]
    exact ⟨(peerLive_congr hpv k).trans hk.1, hk.2⟩

theorem Agrees.frame (h : s.Agrees) (hil : t.il = s.il) (hcfg : t.cfg = s.cfg) (hls : t.ls = s.ls) (hpu : t.pu = s.pu)
    (hpv : t.pv = s.pv) : t.Agrees := h.of_ground ⟨hil, hcfg, hls, hpv⟩ hpu

theorem le_crossPort (s : State) (k : Nat) : 18 ≤ s.crossPort k := Nat.le_add_right ..

theorem peerOfPort_crossPort (hst : s.il.station ≤ 3) {k : Nat} (hk : k ∈ s.peers) : s.peerOfPort (s.crossPort k) = k := by
  have hle : k ≤ 3 := by
    have hmem := (List.mem_filter.1 hk).1
    simp only [stations, List.mem_cons, List.not_mem_nil, or_false] at hmem
    omega
  unfold State.peerOfPort State.crossPort
  omega

/-- What a port's link change does to which ports are live. -/
theorem portKind_cases (p : Nat) : (portKind p = .access ∧ p < 16) ∨ (portKind p = .uplink ∧ (16 ≤ p ∧ p < 18)) ∨
    (portKind p = .cross ∧ 18 ≤ p) := by
  by_cases h16 : p < 16
  · exact .inl ⟨if_pos h16, h16⟩
  · by_cases h18 : p < 18
    · exact .inr (.inl ⟨(if_neg h16).trans (if_pos h18), by omega, h18⟩)
    · exact .inr (.inr ⟨(if_neg h16).trans (if_neg h18), by omega⟩)

/-- A port that is no uplink comes or goes unseen by the uplinks. -/
theorem live_uplinks {p : Nat} {b : Bool} (hp : p < 16 ∨ 18 ≤ p) (hlive : ∀ q, t.live q = if q = p then b else s.live q) :
    t.live u0 = s.live u0 ∧ t.live u1 = s.live u1 :=
  ⟨(hlive u0).trans (if_neg (by unfold u0; omega)), (hlive u1).trans (if_neg (by unfold u1; omega))⟩

/-- Any change of an access port. -/
theorem Agrees.relinkAccess (h : s.Agrees) (hil : t.il = s.il) (hcfg : t.cfg = s.cfg) (hpu : t.pu = s.pu) (hpv : t.pv = s.pv)
    {p : Nat} {b : Bool} (hp : p < 16) (hlive : ∀ q, t.live q = if q = p then b else s.live q) : t.Agrees :=
  h.transport hil hcfg hpu (live_uplinks (.inl hp) hlive).1 (live_uplinks (.inl hp) hlive).2 fun k _ hk => by
    rw [crossLive_of_live hil ((hlive _).trans (if_neg (by have := s.le_crossPort k; omega)))]
    exact ⟨(peerLive_congr hpv k).trans hk.1, hk.2⟩

theorem Agrees.linkFault (h : s.Agrees) (hst : s.il.station ≤ 3) (p : Nat) : (s.linkFault p).Agrees := by
  have hlive : ∀ {t : State}, t.ls = (s.setLink p ((s.link p).faulted s.cfg.flapLimit)).ls →
      ∀ q, t.live q = if q = p then false else s.live q := fun hls q => by
    rw [live_congr hls, live_setLink]
    unfold PortLink.faulted
    dsimp only
    split
    · split <;> rfl
    · rfl
  unfold State.linkFault State.faultReports
  rcases portKind_cases p with ⟨hkind, hp⟩ | ⟨hkind, hp⟩ | ⟨hkind, hp⟩ <;> rw [hkind] <;> dsimp only
  · exact h.relinkAccess (by simp [State.cutReception]) (by simp [State.cutReception]) (by simp [State.cutReception])
      (by simp [State.cutReception]) hp (hlive (by simp [State.cutReception]))
  · have hmoved : (State.pathsUplinkFault _ p).Agrees := h.1.pathsUplinkFault (u := p) (by unfold u0 u1; omega)
      ⟨by simp [State.cutReception], by simp [State.cutReception], by simp [State.cutReception]⟩ (by simp [State.cutReception])
      (hlive (t := ((s.setLink p ((s.link p).faulted s.cfg.flapLimit)).cutReception p).linkLoss p) (by simp [State.cutReception]))
    exact hmoved.frame (by simp) (by simp) (by simp) (by simp) (by simp)
  · have hlost := hlive (t := ((s.setLink p ((s.link p).faulted s.cfg.flapLimit)).cutReception p).linkLoss p)
      (by simp [State.cutReception])
    have htied : (((s.setLink p ((s.link p).faulted s.cfg.flapLimit)).cutReception p).linkLoss p).Tied (· = s.peerOfPort p) := by
      refine h.1.transport (by simp [State.cutReception]) (by simp [State.cutReception]) (by simp [State.cutReception])
        (by simp [State.cutReception]) (by simp [State.cutReception]) (by simp [State.cutReception])
        (live_uplinks (.inr hp) hlost).1 (live_uplinks (.inr hp) hlost).2 fun k hk hr => ?_
      by_cases hkp : k = s.peerOfPort p
      · exact .inl hkp
      · refine .inr ⟨?_, ?_⟩
        · exact (peerLive_congr (s := s) (by simp [State.cutReception]) k).trans (reaches_live.1 hr).1
        · have hother : s.crossPort k ≠ p := fun heq => hkp (by rw [← heq, peerOfPort_crossPort hst hk])
          rw [crossLive_of_live (by simp [State.cutReception]) ((hlost _).trans (if_neg hother))]
          exact (reaches_live.1 hr).2
    rw [show State.peerOfPort _ p = s.peerOfPort p by simp [State.peerOfPort, State.cutReception]]
    exact htied.pathsPeerLost fun j hj hne => hne hj

theorem Agrees.enterUp (h : s.Agrees) (p : Nat) : (s.enterUp p).Agrees := by
  have hlive : ∀ {t : State}, t.ls = (s.setLink p { s.link p with state := .up }).ls →
      ∀ q, t.live q = if q = p then true else s.live q := fun hls q => by
    rw [live_congr hls, live_setLink]
    rfl
  unfold State.enterUp State.upReports
  rcases portKind_cases p with ⟨hkind, hp⟩ | ⟨hkind, hp⟩ | ⟨hkind, hp⟩ <;> rw [hkind] <;> dsimp only
  · exact h.relinkAccess (by simp) (by simp) (by simp) (by simp) hp (hlive (by simp))
  · have hmoved : (State.pathsUplinkUp _ p).Agrees := h.1.pathsUplinkUp (u := p) (by unfold u0 u1; omega)
      ⟨by simp, by simp, by simp⟩ (by simp) (hlive (t := (s.setLink p { s.link p with state := .up }).select p) (by simp))
    exact hmoved.frame (by simp) (by simp) (by simp) (by simp) (by simp)
  · have hup := hlive (t := (s.setLink p { s.link p with state := .up }).select p) (by simp)
    refine Agrees.pathsCrossUp (h.transport (by simp) (by simp) (by simp) (live_uplinks (.inr hp) hup).1
      (live_uplinks (.inr hp) hup).2 fun k _ hk => ⟨?_, ?_⟩)
    · exact (peerLive_congr (s := s) (by simp) k).trans hk.1
    · have hport : State.crossPort ((s.setLink p { s.link p with state := .up }).select p) k = s.crossPort k := by simp [State.crossPort]
      unfold State.crossLive
      rw [hport, hup]
      split
      · rfl
      · exact hk.2

/-- A change of one port's link by which it neither comes nor goes. -/
theorem Agrees.setLink (h : s.Agrees) {p : Nat} {l : PortLink} (hl : l.state.isLive = s.live p) : (s.setLink p l).Agrees :=
  h.relink rfl rfl rfl rfl fun q => by
    rw [live_setLink]
    split
    · next hqp => rw [hqp]; exact hl
    · rfl

theorem Agrees.uplinkChanged (h : s.Agrees) (p : Nat) : (s.uplinkChanged p).Agrees :=
  h.frame (by simp) (by simp) (by simp) (by simp) (by simp)

theorem live_of_state {p : Nat} {st : LinkState} (h : (s.link p).state = st) : s.live p = st.isLive := by
  unfold State.live
  rw [h]

theorem Agrees.judged (h : s.Agrees) (hst : s.il.station ≤ 3) (p : Nat) (bad : Bool) : (s.judged p bad).Agrees := by
  unfold State.judged
  dsimp only
  split
  · next hstate =>
    split
    · exact (h.setLink (live_of_state hstate).symm).uplinkChanged p
    · exact h
  · next hstate =>
    split
    · exact h.setLink rfl
    · have hcounted : (s.setLink p (s.link p).countGood).Agrees := h.setLink rfl
      split
      · exact hcounted.enterUp p
      · exact hcounted
  · next hstate =>
    split
    · exact (h.setLink (live_of_state hstate).symm).uplinkChanged p
    · exact h
  · next hstate =>
    split
    · exact h.linkFault hst p
    · exact (h.setLink (live_of_state hstate).symm).uplinkChanged p
  · exact h

theorem Agrees.judgeWindow (h : s.Agrees) (hst : s.il.station ≤ 3) (p : Nat) : (s.judgeWindow p).Agrees :=
  Agrees.judged (h.setLink (p := p) (l := (s.link p).nextWindow) rfl) hst p _

theorem Agrees.takeWindowEnd (h : s.Agrees) (hst : s.il.station ≤ 3) (p : Nat) : (s.takeWindowEnd p).Agrees := by
  have hwindows : ∀ x : LinkSupervisor, x.ports = s.ls.ports → ({ s with ls := x } : State).Agrees := fun x hx =>
    h.relink rfl rfl rfl rfl fun q => by
      unfold State.live State.link
      rw [hx]
  unfold State.takeWindowEnd
  split
  · exact Agrees.judgeWindow (hwindows { s.ls with windowOwed := s.ls.windowOwed.filter (fun q => q ≠ p) } rfl) hst p
  · split
    · exact Agrees.judgeWindow (hwindows { s.ls with windowDue := s.ls.windowDue - 1, windowOwed := allPorts.filter (fun q => q ≠ p) } rfl) hst p
    · exact h

theorem Agrees.signalGone (h : s.Agrees) (hst : s.il.station ≤ 3) (p : Nat) : (s.signalGone p).Agrees := by
  have hlost : (s.setLink p { s.link p with signal := false, lossMark := true }).Agrees := h.setLink rfl
  unfold State.signalGone
  dsimp only
  split
  · split
    · exact hlost
    · exact hlost
    · next hstate =>
      refine (hlost.setLink ?_).uplinkChanged p
      rw [live_setLink, if_pos rfl]
      exact (congrArg LinkState.isLive hstate).symm
    · exact hlost.linkFault hst p
    · exact hlost.linkFault hst p
  · exact h.setLink rfl

theorem Agrees.mapLinks (h : s.Agrees) {f : PortLink → PortLink} (hf : ∀ l : PortLink, (f l).state.isLive = l.state.isLive) :
    (s.mapLinks allPorts f).Agrees :=
  h.relink (by simp) (by simp) (by simp) (by simp) fun q => by
    unfold State.live
    rw [link_mapLinks s nodup_allPorts]
    split
    · exact hf _
    · rfl

theorem isLive_ageTick (l : PortLink) : l.ageTick.state.isLive = l.state.isLive := by
  unfold PortLink.ageTick
  split
  · next hstate => rw [hstate]; rfl
  all_goals rfl

theorem Agrees.flapReset (h : s.Agrees) : s.flapReset.Agrees := by
  unfold State.flapReset
  dsimp only
  split
  · exact (h.mapLinks isLive_ageTick).frame (by simp) (by simp) (by simp) (by simp) (by simp)
  · exact h.mapLinks isLive_ageTick

/-! ## Peers that come and go -/

theorem Agrees.peerAgeTick (h : s.Agrees) (k : Nat) : (s.peerAgeTick k).Agrees := by
  unfold State.peerAgeTick
  split
  · next hstale =>
    refine h.transport rfl rfl rfl rfl rfl fun j _ hj => ⟨?_, hj.2⟩
    change ((s.setPeer k PeerRecord.reset).peer j).state == .live
    rw [peer_setPeer, if_neg (fun hjk => by simp [State.peerLive, hjk, hstale] at hj)]
    exact hj.1
  all_goals exact h

theorem Agrees.peersAgeTick (h : s.Agrees) : s.peersAgeTick.Agrees :=
  State.each_induct State.Agrees _ _ (fun _ k _ hz => hz.peerAgeTick k) s h

theorem Agrees.storeLevel (h : s.Agrees) {k : Nat} (hk : k ∈ s.peers) (l : LevelFields) : (s.storeLevel k l).Agrees := by
  have hstored : (s.setPeer k (PeerRecord.store l)).Agrees := h.transport rfl rfl rfl rfl rfl fun j _ hj => by
    refine ⟨?_, hj.2⟩
    unfold State.peerLive
    rw [peer_setPeer]
    split
    · rfl
    · exact hj.1
  have hchecked := hstored.lendCheck (k := k) hk l
  unfold State.storeLevel
  dsimp only
  split
  · exact hchecked.frame rfl rfl rfl rfl rfl
  · exact hchecked

/-- Each of a list of peers is given up; those of them not yet given up need not be reached. -/
theorem Tied.losePeers {ks : List Nat} (h : s.Tied (· ∈ ks)) (hused : ks = [] → s.Used) : (s.each ks State.pathsPeerLost).Agrees := by
  induction ks generalizing s with
  | nil => exact ⟨h.transport rfl rfl rfl rfl rfl rfl rfl rfl fun _ _ hr => hr.imp_left (fun hk => nomatch hk), hused rfl⟩
  | cons k ks ih =>
    have hlost : (s.pathsPeerLost k).Tied (· ∈ ks) ∧ (s.pathsPeerLost k).Used :=
      h.pathsPeerLost fun j hj hne => (List.mem_cons.1 hj).resolve_left hne
    exact ih hlost.1 fun _ => hlost.2

theorem Agrees.peerReportTick (h : s.Agrees) : s.peerReportTick.Agrees := by
  have hmapped : (s.mapPeers s.peers PeerRecord.reportTick).Tied (· ∈ s.peers.filter fun k => (s.peer k).goesStale) := by
    refine h.1.transport (by simp) (by simp) (by simp) (by simp) (by simp) (by simp) (live_congr (by simp) _) (live_congr (by simp) _)
      fun k hk hr => ?_
    obtain ⟨hlive, hcross⟩ := reaches_live.1 hr
    cases hgoes : (s.peer k).goesStale with
    | true => exact .inl (List.mem_filter.2 ⟨hk, hgoes⟩)
    | false =>
      refine .inr ⟨?_, (crossLive_of_live (by simp) (live_congr (by simp) _)).trans hcross⟩
      unfold State.peerLive
      rw [peer_mapPeers s (nodup_peers s), if_pos hk]
      have hstate : (s.peer k).state = .live := by simpa [State.peerLive] using hlive
      have hfew : ¬2 ≤ (s.peer k).missed := by simpa [PeerRecord.goesStale, hstate] using hgoes
      unfold PeerRecord.reportTick
      simp [hstate, hfew]
  exact hmapped.losePeers fun _ => h.2.of_ground (by simp) (by simp) (by simp)

end State

end Sys2Proof.Machine
end

section
/-! The state while the image is LOADING, the notices of the peers, and the settlement of O40. -/

namespace Sys2Proof.Machine

open Sys2Proof.Config

namespace State

variable {s t : State}

/-! ## The notices (R109) -/

/-- No notice but a fetch comes from a station that is no peer. -/
def FromPeers (s : State) : Prop := ∀ n ∈ s.xc.notices, n.kind = .billFetch ∨ n.kind = .statusFetch ∨ n.sender ∈ s.peers

theorem FromPeers.of_notices (h : s.FromPeers) (hil : t.il = s.il) (hn : t.xc.notices = s.xc.notices) : t.FromPeers := fun n hmem => by
  rw [show t.peers = s.peers by unfold State.peers; rw [hil]]
  exact h n (hn ▸ hmem)

theorem FromPeers.of_quiet (h : s.FromPeers) (hil : t.il = s.il) (hxc : t.xc.quiet = s.xc.quiet) : t.FromPeers :=
  h.of_notices hil (by rw [CrosslineController.eq_of_quiet hxc])

theorem accepts_peer {n : Notice} (h : s.accepts n.kind n.sender n.dest = true) :
    n.kind = .billFetch ∨ n.kind = .statusFetch ∨ n.sender ∈ s.peers := by
  have hpeer : ∀ {b : Bool}, (b && (decide (n.sender ≤ 3) && n.sender != s.il.station)) = true → n.sender ∈ s.peers := fun hb => by
    simp only [Bool.and_eq_true, decide_eq_true_eq, bne_iff_ne] at hb
    refine List.mem_filter.2 ⟨?_, decide_eq_true hb.2.2⟩
    simp only [stations, List.mem_cons, List.not_mem_nil, or_false]
    omega
  revert h
  unfold State.accepts
  cases n.kind with
  | billFetch => exact fun _ => .inl rfl
  | statusFetch => exact fun _ => .inr (.inl rfl)
  | billRecord | status => exact fun h => nomatch h
  | level | address | borrow | grant | withdraw | ret => exact fun h => .inr (.inr (hpeer h))

theorem discardHand_notices (s : State) : s.discardHand.xc.notices = s.xc.notices := by
  unfold State.discardHand State.ownerDiscarded
  split
  · split <;> rfl
  · rfl

theorem ownerSent_notices (s : State) (x : Hand) : (s.ownerSent x).xc.notices = s.xc.notices := by
  unfold State.ownerSent
  split
  · rfl
  · split
    · split <;> rfl
    · rfl
  all_goals rfl

theorem FromPeers.takeFrame (h : s.FromPeers) : s.takeFrame.FromPeers := h.of_notices (by simp) (takeFrame_notices s)

theorem FromPeers.removeNotice (h : s.FromPeers) : s.removeNotice.FromPeers := fun n hn => h n (List.mem_of_mem_tail hn)

theorem lineClosed_fromPeers : State.LineClosed State.FromPeers where
  receiver := fun {s x} hheld h => by
    simp only [CrosslineController.held, Prod.mk.injEq] at hheld
    exact h.of_notices rfl hheld.2.2.2.2
  notice := fun {s n} haccepts h m hm => by
    rw [show (s.offerNotice n).peers = s.peers by simp [State.peers]]
    obtain hm | rfl := State.mem_offerNotice hm
    · exact h m hm
    · exact accepts_peer haccepts
  discard := fun {s} h => h.of_notices (by simp) (discardHand_notices s)
  retry := fun _ _ h => h
  sent := fun {s} x h => h.of_notices (by simp) (ownerSent_notices s x)
  built := fun _ h => h
  take := FromPeers.takeFrame

theorem FromPeers.process (h : s.FromPeers) (p : Notice → Bool) {act : State → Notice → State}
    (hil : ∀ (z : State) n, (act z n).il = z.il) (hn : ∀ (z : State) n, (act z n).xc.notices = z.xc.notices) :
    (s.process p act).FromPeers :=
  State.process_keeps h (fun _ _ _ => h.removeNotice) (fun n _ _ _ hz => hz.of_notices (hil _ n) (hn _ n)) (fun _ hz => hz.takeFrame)

theorem notices_of_quiet (h : t.xc.quiet = s.xc.quiet) : t.xc.notices = s.xc.notices := by rw [CrosslineController.eq_of_quiet h]

theorem levelFrom_notices (s : State) (k : Nat) (ws : List Word) : (s.levelFrom k ws).xc.notices = s.xc.notices := by
  unfold State.levelFrom
  split
  · exact notices_of_quiet (by simp)
  · rfl

theorem actGrant_notices (s : State) (n : Notice) : (s.actGrant n).xc.notices = s.xc.notices := by
  unfold State.actGrant
  split
  · exact notices_of_quiet (by simp)
  · rfl

theorem statusFetch_notices (s : State) (c : Nat) : (s.statusFetch c).xc.notices = s.xc.notices := by
  unfold State.statusFetch State.clearLatches
  split
  · rfl
  · simp [State.queueNormal]

theorem reportAct_notices (s : State) (u : ReportUser) : (s.reportAct u).xc.notices = s.xc.notices :=
  notices_of_quiet (by cases u <;> simp [State.reportAct])

theorem ageAct_notices (s : State) (u : AgeUser) : (s.ageAct u).xc.notices = s.xc.notices :=
  notices_of_quiet (by cases u <;> simp [State.ageAct])

theorem FromPeers.reportTick (h : s.FromPeers) (u : ReportUser) : (s.reportTick u).FromPeers :=
  State.reportTick_keeps (fun _ _ hz => hz) (fun z hz => hz.of_notices (by simp) (reportAct_notices z u)) h

theorem FromPeers.reportTickIf (h : s.FromPeers) (u : ReportUser) (b : Bool) : (s.reportTickIf u b).FromPeers :=
  State.reportTickIf_keeps (fun _ _ hz => hz) (fun z hz => hz.of_notices (by simp) (reportAct_notices z u)) b h

theorem FromPeers.after (h : s.FromPeers) (c : Instr) (hreset : ∀ straps signals, c ≠ .reset straps signals) :
    (s.after c).FromPeers := by
  have hline := lineClosed_fromPeers
  cases c with
  | reset straps signals => exact absurd rfl (hreset straps signals)
  | imageLoadEnd b =>
    simp only [State.after, State.endLoad]
    split
    · split <;> exact h
    · exact h
  | reportTick u => exact (h.reportTick u).takeFrame
  | ageTick u => exact (State.ageTick_keeps (P := FromPeers) (fun _ _ hz => hz) (fun z hz => hz.of_notices (by simp) (ageAct_notices z u)) h).takeFrame
  | entryAgedOut w =>
    exact (State.entryAgedOut_keeps (P := FromPeers) (fun _ _ hz => hz)
      (fun z hz => hz.of_notices (by simp) (ageAct_notices z .addressTable)) w h).takeFrame
  | heldLimitFlush | peerStale | showLimitLapse | requestTimeout | upgradeTimeout | exclusionExpiry =>
    exact (h.reportTickIf _ _).takeFrame
  | crosslineFrameReceived ws => exact (hline.hear h ws).takeFrame
  | frameAcquired gap => exact (hline.hear h _).takeFrame
  | frameStart gap w1 w2 c => exact (hline.tryStart h gap w1 w2 c).takeFrame
  | attemptFailed good w => exact (hline.lineBreaks h good w).takeFrame
  | frameSent => exact (hline.driveOut h).takeFrame
  | levelNotice => exact h.process _ (by simp) fun z n => levelFrom_notices z _ _
  | grantNotice => exact h.process _ (by simp) fun z n => actGrant_notices z n
  | statusFetch => exact h.process _ (by simp) fun z n => statusFetch_notices z _
  | addressNotice => exact h.process _ (by simp) fun _ _ => rfl
  | borrowNotice | withdrawNotice | returnNotice | billFetchPlain | billFetchRepeat =>
    exact h.process _ (by simp) fun z n => notices_of_quiet (by simp)
  | windowEnd | signalLost | frameReception | scanStep | changeEvent | shedRequest | returnRequest =>
    exact FromPeers.takeFrame (h.of_notices (by simp) (notices_of_quiet (by simp)))
  | _ => exact h.of_notices (by simp [State.after]) (notices_of_quiet (by simp [State.after]))

/-! ## While the image is LOADING (R62, R64, R70, R111, R127) -/

/-- No path is bound, no peer is known and no borrow is held. -/
def Asleep (s : State) : Prop := s.pu.bindings = [] ∧ ∀ k ∈ stations, (s.peer k).state = .absent ∧ (s.borrow k).state = .none

theorem pathsStill_iff : s.PathsStill ↔ s.LinksStill ∧ s.Asleep := Iff.rfl

theorem LinksStill.of_ls (h : s.LinksStill) (hls : t.ls = s.ls) : t.LinksStill := by
  unfold State.LinksStill at *
  simpa only [link_congr hls, hls] using h

/-- A change of links that leaves every state and every flap count as it is. -/
theorem LinksStill.relink (h : s.LinksStill) (hw : t.ls.window = s.ls.window ∧ t.ls.windowDue = s.ls.windowDue ∧
    t.ls.windowOwed = s.ls.windowOwed)
    (hlink : ∀ p ∈ allPorts, (s.link p).state = .down → (t.link p).state = .down ∧ ((s.link p).flaps = 0 → (t.link p).flaps = 0)) :
    t.LinksStill := by
  obtain ⟨h1, h2, h3, hdown⟩ := h
  refine ⟨hw.1.trans h1, hw.2.1.trans h2, hw.2.2.trans h3, fun p hp => ?_⟩
  obtain ⟨hstate, hflaps⟩ := hdown p hp
  exact ⟨(hlink p hp hstate).1, (hlink p hp hstate).2 hflaps⟩

theorem LinksStill.setLink (h : s.LinksStill) {p : Nat} {l : PortLink} (hstate : l.state = (s.link p).state)
    (hflaps : l.flaps = (s.link p).flaps) : (s.setLink p l).LinksStill :=
  h.relink ⟨rfl, rfl, rfl⟩ fun q _ hdown => by
    rw [link_setLink]
    split
    · next hqp => subst hqp; exact ⟨hstate.trans hdown, hflaps.trans⟩
    · exact ⟨hdown, id⟩

theorem LinksStill.mapLinks (h : s.LinksStill) {f : PortLink → PortLink}
    (hf : ∀ l : PortLink, l.state = .down → (f l).state = .down ∧ (l.flaps = 0 → (f l).flaps = 0)) : (s.mapLinks allPorts f).LinksStill :=
  h.relink (windows_mapLinks s allPorts f) fun p hp hdown => by
    rw [link_mapLinks s nodup_allPorts, if_pos hp]
    exact hf _ hdown

theorem LinksStill.flapReset (h : s.LinksStill) : s.flapReset.LinksStill := by
  have haged : (s.mapLinks allPorts PortLink.ageTick).LinksStill := h.mapLinks fun l hl => by simp [PortLink.ageTick, hl]
  unfold State.flapReset
  dsimp only
  split
  · exact haged.of_ls (by simp)
  · exact haged

theorem LinksStill.takeWindowEnd (h : s.LinksStill) (p : Nat) : s.takeWindowEnd p = s := by
  obtain ⟨-, hdue, howed, -⟩ := h
  unfold State.takeWindowEnd
  rw [howed, hdue]
  rfl

theorem LinksStill.windowTick (h : s.LinksStill) : s.windowTick = s := by
  unfold State.windowTick
  rw [h.1]

theorem LinksStill.ageAct (h : s.LinksStill) (u : AgeUser) : (s.ageAct u).LinksStill := by
  cases u with
  | linkSupervisor => exact h.flapReset
  | addressTable | peerView => exact h.of_ls (by simp [State.ageAct])

theorem process_of_loading (hload : s.il.state = .loading) (p : Notice → Bool) (act : State → Notice → State) :
    s.process p act = s ∨ s.process p act = s.removeNotice.takeFrame := by
  unfold State.process
  split
  · next n _ _ =>
    have hacts : s.actsOn n.kind = false := by simp [State.actsOn, hload]
    rw [hacts]
    split
    · exact .inr rfl
    · exact .inl rfl
  · exact .inl rfl

theorem LinksStill.after (h : s.LinksStill) (hload : s.il.state = .loading) (c : Instr)
    (hreset : ∀ straps signals, c ≠ .reset straps signals) (hend : ∀ b, c ≠ .imageLoadEnd b) : (s.after c).LinksStill := by
  have hprocess : ∀ p act, (s.process p act).LinksStill := fun p act => by
    obtain heq | heq := process_of_loading hload p act
    · rwa [heq]
    · rw [heq]; exact h.of_ls (by simp [State.removeNotice])
  have hdead : s.il.state ≠ .configured := by simp [hload]
  have tick : ∀ u, (s.reportTick u).ls = s.ls := fun u => State.reportTick_eq State.ls s u (fun _ _ => rfl) fun z => by
    cases u <;> simp [State.reportAct]
  cases c with
  | reset straps signals => exact absurd rfl (hreset straps signals)
  | imageLoadEnd b => exact absurd rfl (hend b)
  | fineTick =>
    have hcounted : s.prescalerTick.LinksStill := h
    refine hcounted.of_ls ?_
    simp only [State.after, State.fineTick]
    rw [hcounted.windowTick]
    simp
  | windowEnd p => exact h.of_ls (by simp only [State.after, h.takeWindowEnd]; simp)
  | signalPresent p => exact h.setLink rfl rfl
  | signalLost p =>
    have hlost : (s.setLink p { s.link p with signal := false }).LinksStill := h.setLink rfl rfl
    exact hlost.of_ls (by simp only [State.after, signalGone_of_not_configured hdead]; simp)
  | lineCodeError p =>
    simp only [State.after, codeError_of_not_configured hdead]
    exact h
  | reportTick u => exact h.of_ls (by simp [State.after, tick])
  | ageTick u =>
    have haged : (s.ageTick u).LinksStill := State.ageTick_keeps (fun _ _ hz => hz) (fun _ hz => hz.ageAct u) h
    exact haged.of_ls (by simp [State.after])
  | levelNotice | addressNotice | borrowNotice | grantNotice | withdrawNotice | returnNotice | billFetchPlain
  | billFetchRepeat | statusFetch => exact hprocess _ _
  | _ => exact h.of_ls (by simp [State.after])

theorem Asleep.frame (h : s.Asleep) (hbind : t.pu.bindings = s.pu.bindings) (hborrow : t.pu.borrows = s.pu.borrows)
    (hpv : t.pv = s.pv) : t.Asleep := by
  refine ⟨hbind.trans h.1, fun k hk => ⟨?_, ?_⟩⟩
  · unfold State.peer
    rw [hpv]
    exact (h.2 k hk).1
  · rw [borrow_congr hborrow]
    exact (h.2 k hk).2

section Asleep

variable (h : s.Asleep)
include h

theorem Asleep.binding (i : Nat) : s.binding i = .unbound := by
  unfold State.binding
  rw [h.1]
  rfl

theorem Asleep.peerState {k : Nat} (hk : k ∈ s.peers) : (s.peer k).state = .absent := (h.2 k (List.mem_filter.1 hk).1).1

theorem Asleep.borrowState {k : Nat} (hk : k ∈ s.peers) : (s.borrow k).state = .none := (h.2 k (List.mem_filter.1 hk).1).2

theorem Asleep.candidate (r : Reason) : s.candidate r = none := by
  cases hcand : s.candidate r with
  | none => rfl
  | some k =>
    obtain ⟨hk, hqual⟩ := candidate_qualifies hcand
    have hlive := (eligible_iff.1 (qualifies_eligible hqual)).1
    simp [h.peerState hk] at hlive

theorem Asleep.setBorrow {k : Nat} {b : BorrowRecord} (hb : b.state = .none) : (s.setBorrow k b).Asleep :=
  ⟨h.1, fun j hj => ⟨(h.2 j hj).1, by
    rw [borrow_setBorrow]
    split
    · exact hb
    · exact (h.2 j hj).2⟩⟩

theorem Asleep.find_borrow (p : BorrowState → Bool) (hp : p .none = false) : s.peers.find? (fun k => p (s.borrow k).state) = none :=
  List.find?_eq_none.2 fun k hk => by rw [h.borrowState hk, hp]; exact Bool.false_ne_true

theorem Asleep.shed : s.shed = s := by
  have hactive : s.activeRelief = none := h.find_borrow (· == .active .relief) rfl
  have hreq : s.requestedRelief = none := h.find_borrow (· == .requested .relief) rfl
  exact (shed_of_none hactive hreq).2 (h.candidate .relief)

theorem Asleep.giveBackPath : s.giveBackPath = s := by
  have hsplit : s.highestSplit = none := by
    cases hsome : s.highestSplit with
    | none => rfl
    | some i =>
      obtain ⟨-, k, hk⟩ := highestSplit_spec hsome
      exact nomatch (h.binding i).symm.trans hk
  exact (giveBackPath_of_no_split hsplit).2 (h.find_borrow (· == .requested .relief) rfl)

theorem Asleep.stagedReturn : s.stagedReturn = s := by
  unfold State.stagedReturn
  split
  · next i hi =>
    have hfound := List.find?_some hi
    rw [h.binding i] at hfound
    exact nomatch hfound
  · rfl

omit h in
theorem Asleep.requestTick {k : Nat} (hk : (s.borrow k).state = .none) : s.requestTick k = s := by
  unfold State.requestTick BorrowRecord.runsOut BorrowRecord.counts
  simp [hk]

end Asleep

theorem Asleep.each (h : s.Asleep) {f : State → Nat → State} {ks : List Nat} (hks : ∀ k ∈ ks, k ∈ stations)
    (hf : ∀ {z : State} k, k ∈ stations → z.Asleep → (f z k).Asleep) : (s.each ks f).Asleep := by
  induction ks generalizing s with
  | nil => exact h
  | cons k ks ih => exact ih (hf k (hks k (by simp)) h) fun j hj => hks j (by simp [hj])

theorem mem_stations {k : Nat} (hk : k ∈ s.peers) : k ∈ stations := (List.mem_filter.1 hk).1

theorem Asleep.pathTick (h : s.Asleep) : s.pathTick.Asleep := by
  have hpaths : s.tickPaths.Asleep := by
    unfold State.tickPaths
    rw [h.stagedReturn, faultRequest_of_no_candidate (h.candidate .fault)]
    have hlend : ∀ k, (s.withdrawLend k).Asleep := fun k => h.frame rfl rfl rfl
    unfold State.withdrawOne
    split
    · split
      · exact hlend _
      · split
        · exact hlend _
        · exact h
    · exact h
  have htimers : s.tickPaths.tickTimers.Asleep := by
    unfold State.tickTimers
    refine Asleep.each (f := fun z k => z.setBorrow k (z.borrow k).exclusionTick) ?_ (fun _ hk => mem_stations hk) fun k hk hz =>
      hz.setBorrow ?_
    · exact hpaths.each (fun _ hk => mem_stations hk) fun k hk hz => by rwa [Asleep.requestTick (hz.2 k hk).2]
    · unfold BorrowRecord.exclusionTick
      split <;> exact (hz.2 k hk).2
  have hfreed : (s.tickPaths.tickTimers.each s.tickPaths.tickTimers.peers State.freeRecord).Asleep :=
    htimers.each (fun _ hk => mem_stations hk) fun k hk hz => by
      unfold State.freeRecord
      rwa [if_neg (by simp [(hz.2 k hk).2, BorrowState.isActive])]
  have habandoned : ∀ {z : State}, z.Asleep → z.abandonFault.Asleep := fun {z} hz => by
    unfold State.abandonFault
    split
    · exact hz
    · refine hz.each (f := fun z k => z.setBorrow k (z.borrow k).abandoned) (fun _ hk => mem_stations hk) fun k hk hz =>
        hz.setBorrow ?_
      simp [BorrowRecord.abandoned, (hz.2 k hk).2]
  exact (habandoned hfreed).frame (by simp [State.pathTick]) (by simp [State.pathTick]) (by simp [State.pathTick])

theorem Asleep.peerReportTick (h : s.Asleep) : s.peerReportTick.Asleep := by
  have hnone : s.peers.filter (fun k => (s.peer k).goesStale) = [] := List.filter_eq_nil_iff.2 fun k hk => by
    simp [PeerRecord.goesStale, h.peerState hk]
  unfold State.peerReportTick
  rw [hnone]
  refine ⟨by simpa [State.each] using h.1, fun k hk => ⟨?_, ?_⟩⟩
  · change ((s.mapPeers s.peers PeerRecord.reportTick).peer k).state = .absent
    rw [peer_mapPeers s (nodup_peers s)]
    have habsent := (h.2 k hk).1
    split
    · simp [PeerRecord.reportTick, habsent]
    · exact habsent
  · change ((s.mapPeers s.peers PeerRecord.reportTick).borrow k).state = .none
    rw [borrow_congr (s := s) (by simp)]
    exact (h.2 k hk).2

theorem Asleep.peersAgeTick (h : s.Asleep) : s.peersAgeTick.Asleep :=
  h.each (fun _ hk => mem_stations hk) fun k hk hz => by
    unfold State.peerAgeTick
    rw [(hz.2 k hk).1]
    exact hz

theorem Asleep.reportAct (h : s.Asleep) (u : ReportUser) : (s.reportAct u).Asleep := by
  cases u with
  | pathUnit => exact h.pathTick
  | peerView => exact h.peerReportTick
  | reliefController =>
    simp only [State.reportAct, State.shedDecision]
    repeat' split
    all_goals exact h
  | egressScheduler | levelBuilder | billingQueue =>
    exact h.frame (by simp [State.reportAct]) (by simp [State.reportAct]) (by simp [State.reportAct])

theorem Asleep.ageAct (h : s.Asleep) (u : AgeUser) : (s.ageAct u).Asleep := by
  cases u with
  | peerView => exact h.peersAgeTick
  | addressTable | linkSupervisor => exact h.frame (by simp [State.ageAct]) (by simp [State.ageAct]) (by simp [State.ageAct])

theorem Asleep.takeFrame (h : s.Asleep) : s.takeFrame.Asleep := h.frame (by simp) (by simp) (by simp)

theorem Asleep.after (h : s.PathsStill) (hload : s.il.state = .loading) (c : Instr)
    (hreset : ∀ straps signals, c ≠ .reset straps signals) (hend : ∀ b, c ≠ .imageLoadEnd b) : (s.after c).Asleep := by
  obtain ⟨hstill, h⟩ := pathsStill_iff.1 h
  have hprocess : ∀ p act, (s.process p act).Asleep := fun p act => by
    obtain heq | heq := process_of_loading hload p act
    · rwa [heq]
    · rw [heq]; exact Asleep.takeFrame h
  have hdead : s.il.state ≠ .configured := by simp [hload]
  have tickIf : ∀ u b, (s.reportTickIf u b).Asleep := fun u b =>
    State.reportTickIf_keeps (fun _ _ hz => hz) (fun _ hz => hz.reportAct u) b h
  cases c with
  | reset straps signals => exact absurd rfl (hreset straps signals)
  | imageLoadEnd b => exact absurd rfl (hend b)
  | windowEnd p =>
    simp only [State.after, hstill.takeWindowEnd]
    exact h.takeFrame
  | signalLost p =>
    simp only [State.after, signalGone_of_not_configured hdead]
    exact Asleep.takeFrame h
  | reportTick u => exact Asleep.takeFrame (State.reportTick_keeps (fun _ _ hz => hz) (fun _ hz => hz.reportAct u) h)
  | ageTick u => exact Asleep.takeFrame (State.ageTick_keeps (fun _ _ hz => hz) (fun _ hz => hz.ageAct u) h)
  | heldLimitFlush | peerStale | showLimitLapse | requestTimeout | upgradeTimeout | exclusionExpiry => exact (tickIf _ _).takeFrame
  | shedRequest =>
    refine Asleep.takeFrame ?_
    unfold State.takeShed
    split
    · have hdue : Asleep { s with pu := { s.pu with shedDue := s.pu.shedDue - 1 } } := h
      rwa [hdue.shed]
    · exact h
  | returnRequest =>
    refine Asleep.takeFrame ?_
    unfold State.takeReturn
    split
    · have hdue : Asleep { s with pu := { s.pu with returnDue := s.pu.returnDue - 1 } } := h
      rwa [hdue.giveBackPath]
    · exact h
  | levelNotice | addressNotice | borrowNotice | grantNotice | withdrawNotice | returnNotice | billFetchPlain
  | billFetchRepeat | statusFetch => exact hprocess _ _
  | _ => exact h.frame (by simp [State.after]) (by simp [State.after]) (by simp [State.after])

/-! ## The commands -/

theorem Agrees.takeFrame (h : s.Agrees) : s.takeFrame.Agrees := h.frame (by simp) (by simp) (by simp) (by simp) (by simp)

/-- What counts the requests that wait. -/
theorem Agrees.setDue (h : s.Agrees) (m n : Nat) : Agrees { s with pu := { s.pu with shedDue := m, returnDue := n } } :=
  ⟨h.1.transport rfl rfl rfl rfl rfl rfl rfl rfl fun _ _ hr => hr, h.2.of_ground rfl rfl rfl⟩

theorem Agrees.reportAct (h : s.Agrees) (u : ReportUser) : (s.reportAct u).Agrees := by
  cases u with
  | pathUnit => exact h.1.pathTick
  | peerView => exact h.peerReportTick
  | reliefController =>
    simp only [State.reportAct, State.shedDecision]
    split
    · split
      · exact h.setDue _ s.pu.returnDue
      · exact h
    · split
      · exact h.setDue s.pu.shedDue _
      · exact h
  | egressScheduler | levelBuilder | billingQueue =>
    exact h.frame (by simp [State.reportAct]) (by simp) (by simp [State.reportAct]) (by simp [State.reportAct]) (by simp [State.reportAct])

theorem Agrees.ageAct (h : s.Agrees) (u : AgeUser) : (s.ageAct u).Agrees := by
  cases u with
  | peerView => exact h.peersAgeTick
  | linkSupervisor => exact h.flapReset
  | addressTable => exact h.frame rfl rfl rfl rfl rfl

theorem Agrees.process (h : s.Agrees) (p : Notice → Bool) {act : State → Notice → State}
    (hact : ∀ n rest, s.xc.notices = n :: rest → p n = true → s.removeNotice.Agrees → (act s.removeNotice n).Agrees) :
    (s.process p act).Agrees :=
  State.process_keeps h (fun _ _ _ => h.frame rfl rfl rfl rfl rfl) hact (fun _ hz => hz.takeFrame)

theorem FromPeers.sender (h : s.FromPeers) {n : Notice} {rest : List Notice} (hn : s.xc.notices = n :: rest) {k : Kind}
    (hk : n.isKind k = true) (hbill : k ≠ .billFetch) (hstatus : k ≠ .statusFetch) : n.sender ∈ s.peers := by
  have hkind : n.kind = k := by simpa [Notice.isKind] using hk
  obtain hb | hs | hp := h n (hn ▸ List.mem_cons_self ..)
  · exact absurd (hkind.symm.trans hb) hbill
  · exact absurd (hkind.symm.trans hs) hstatus
  · exact hp

theorem Agrees.statusFetch (h : s.Agrees) (c : Nat) : (s.statusFetch c).Agrees := by
  unfold State.statusFetch
  split
  · exact h
  · have hclear : s.clearLatches.Agrees :=
      Agrees.mapLinks (s := { s with xc := { s.xc with lineFault := false, overrunLatch := false } })
        (h.frame rfl rfl rfl rfl rfl) fun _ => rfl
    exact hclear.frame (by simp) (by simp) (by simp) (by simp) (by simp)

theorem Agrees.fineTick (h : s.Agrees) : s.fineTick.Agrees := by
  refine h.relink (by simp) (by simp) (by simp) (by simp) fun q => ?_
  have hports : s.fineTick.ls.ports = s.ls.ports := by
    have hwindow : ∀ z : State, z.windowTick.ls.ports = z.ls.ports := fun z => by
      unfold State.windowTick
      split
      · split <;> rfl
      · rfl
    rw [fineTick_ls]
    exact hwindow s
  unfold State.live State.link
  rw [hports]

theorem Agrees.after (h : s.Agrees) (hst : s.il.station ≤ 3) (hfrom : s.FromPeers) (c : Instr)
    (hreset : ∀ straps signals, c ≠ .reset straps signals) (hend : ∀ b, c ≠ .imageLoadEnd b) : (s.after c).Agrees := by
  have hbill : ∀ p r, (s.process p fun z n => z.billFetch n.sender r).Agrees := fun p r =>
    h.process p fun n _ _ _ hz => hz.frame (by simp) (by simp) (by simp) (by simp) (by simp)
  have tickIf : ∀ u b, (s.reportTickIf u b).takeFrame.Agrees := fun u b =>
    Agrees.takeFrame (State.reportTickIf_keeps (fun _ _ hz => hz.frame rfl rfl rfl rfl rfl) (fun _ hz => hz.reportAct u) b h)
  cases c with
  | reset straps signals => exact absurd rfl (hreset straps signals)
  | imageLoadEnd b => exact absurd rfl (hend b)
  | fineTick => exact h.fineTick
  | windowEnd p => exact (h.takeWindowEnd hst p).takeFrame
  | signalPresent p => exact h.setLink rfl
  | signalLost p => exact (h.signalGone hst p).takeFrame
  | lineCodeError p =>
    simp only [State.after, State.codeError]
    split
    · exact h.setLink rfl
    · exact h
  | reportTick u =>
    exact Agrees.takeFrame (State.reportTick_keeps (fun _ _ hz => hz.frame rfl rfl rfl rfl rfl) (fun _ hz => hz.reportAct u) h)
  | ageTick u =>
    exact Agrees.takeFrame (State.ageTick_keeps (fun _ _ hz => hz.frame rfl rfl rfl rfl rfl) (fun _ hz => hz.ageAct u) h)
  | heldLimitFlush | peerStale | showLimitLapse | requestTimeout | upgradeTimeout | exclusionExpiry => exact tickIf _ _
  | shedRequest =>
    refine Agrees.takeFrame ?_
    unfold State.takeShed
    split
    · exact Agrees.shed (h.setDue _ s.pu.returnDue)
    · exact h
  | returnRequest =>
    refine Agrees.takeFrame ?_
    unfold State.takeReturn
    split
    · exact Agrees.giveBackPath (h.setDue s.pu.shedDue _)
    · exact h
  | levelNotice =>
    refine h.process _ (act := fun z n => z.levelFrom n.sender n.payload) fun n rest hn hk hz => ?_
    have hsender : n.sender ∈ s.removeNotice.peers := hfrom.sender hn hk nofun nofun
    unfold State.levelFrom
    split
    · exact hz.storeLevel hsender _
    · exact hz.frame rfl rfl rfl rfl rfl
  | borrowNotice => exact h.process _ fun n _ _ _ hz => hz.borrowFrom _ _ _
  | grantNotice =>
    refine h.process _ (act := State.actGrant) fun n rest hn hk hz => ?_
    have hsender : n.sender ∈ s.removeNotice.peers := hfrom.sender hn hk nofun nofun
    unfold State.actGrant
    split
    · exact hz.grantFrom hsender _
    · exact hz.frame rfl rfl rfl rfl rfl
  | withdrawNotice => exact h.process _ fun n _ _ _ hz => hz.withdrawFrom _ _
  | returnNotice => exact h.process _ (act := fun z n => z.returnFrom n.sender) fun n _ _ _ hz => hz.returnFrom _
  | statusFetch => exact h.process _ (act := fun z n => z.statusFetch n.sender) fun n _ _ _ hz => hz.statusFetch _
  | addressNotice => exact h.process _ fun n _ _ _ hz => hz.frame rfl rfl rfl rfl rfl
  | billFetchPlain => exact hbill _ false
  | billFetchRepeat => exact hbill _ true
  | _ => exact h.frame (by simp [State.after]) (by simp [State.after]) (by simp [State.after]) (by simp [State.after]) (by simp [State.after])

/-! ## The whole -/

theorem pathsSound_iff : s.PathsSound ↔ s.il.station ≤ 3 ∧ s.cfg.homes.length = 8 ∧ (s.il.state = .loading → s.PathsStill) ∧
    s.Agrees ∧ s.FromPeers := by
  rw [agrees_iff]
  unfold State.PathsSound State.FromPeers
  tauto

theorem not_live_of_still (h : s.LinksStill) {p : Nat} (hp : p ∈ allPorts) : s.live p = false := by
  unfold State.live
  rw [(h.2.2.2 p hp).1]
  rfl

/-- The homes of the paths are loaded while no path is bound. -/
theorem PathsSound.endLoad (h : s.PathsSound) (b : List Byte) : (s.endLoad b).PathsSound := by
  obtain ⟨hst, hlen, hload, hagrees, hfrom⟩ := pathsSound_iff.1 h
  unfold State.endLoad
  split
  · next hloading =>
    have hrefused : ∀ r, (s.refuseImage r).PathsSound := fun r =>
      pathsSound_iff.2 ⟨hst, hlen, nofun, ⟨hagrees.1.transport rfl rfl rfl rfl rfl rfl rfl rfl fun _ _ hr => hr,
        hagrees.2.of_ground rfl rfl rfl⟩, hfrom⟩
    split
    · obtain ⟨hstill, hsleep⟩ := pathsStill_iff.1 (hload hloading)
      obtain ⟨⟨⟨-, hsole, hreach, hup, hrelief, hone⟩, -⟩, hused⟩ := hagrees
      have hhomes := settingsInRange b
      have hdark : s.anyUplink = false := by
        unfold State.anyUplink
        rw [not_live_of_still hstill (by decide), not_live_of_still hstill (by decide)]
        rfl
      refine pathsSound_iff.2 ⟨hst, ?_, nofun, ⟨⟨⟨?_, hsole, hreach, hup, hrelief, hone⟩, fun i _ => ?_⟩, hused⟩, hfrom⟩
      · simp [State.accept, readSettings, paths]
      · intro x hx
        obtain ⟨i, hi, rfl⟩ := List.mem_map.1 hx
        exact readHome_le hi _
      · change (s.accept b).BindingOk _ i (s.binding i)
        rw [hsleep.binding i]
        exact hdark
    all_goals exact hrefused _
  · exact h

/-- Only RESET and the end of the load change the settings, the station number or the image state. -/
theorem after_ground (s : State) (c : Instr) (hreset : ∀ straps signals, c ≠ .reset straps signals) (hend : ∀ b, c ≠ .imageLoadEnd b) :
    (s.after c).cfg = s.cfg ∧ (s.after c).il = s.il := by
  cases c with
  | reset straps signals => exact absurd rfl (hreset straps signals)
  | imageLoadEnd b => exact absurd rfl (hend b)
  | _ => simp [State.after]

theorem PathsSound.kept (h : s.PathsSound) (c : Instr) (hreset : ∀ straps signals, c ≠ .reset straps signals)
    (hend : ∀ b, c ≠ .imageLoadEnd b) : (s.after c).PathsSound := by
  obtain ⟨hst, hlen, hload, hagrees, hfrom⟩ := pathsSound_iff.1 h
  obtain ⟨hcfg, hil⟩ := after_ground s c hreset hend
  refine pathsSound_iff.2 ⟨hil ▸ hst, hcfg ▸ hlen, fun hl => ?_, hagrees.after hst hfrom c hreset hend, hfrom.after c hreset⟩
  have hloading : s.il.state = .loading := hil ▸ hl
  exact pathsStill_iff.2 ⟨(hload hloading).1.after hloading c hreset hend, Asleep.after (hload hloading) hloading c hreset hend⟩

theorem PathsSound.after (h : s.PathsSound) (c : Instr) : (s.after c).PathsSound := by
  cases c with
  | reset straps signals => exact pathsSound_resetWith _ _ _ (Nat.le_of_lt_succ straps.isLt)
  | imageLoadEnd b => exact h.endLoad b
  | _ => exact h.kept _ nofun nofun

end State

/-- Settles O40: a link or a peer that goes leaves an agreement with that peer still to be given up, which the report of it mends in
the same step. -/
theorem pathsSoundKept : Obligations.PathsSoundKept := fun _ _ hs hstep =>
  step_keeps (P := State.PathsSound) (fun _ _ h => h) (fun _ c h => h.after c) hs hstep

end Sys2Proof.Machine
end

section
/-! LEVEL and STATUS_FETCH (R81, R116, R117, R120, R126). -/

namespace Sys2Proof.Machine

open Sys2Proof.Config

namespace State

variable {s : State}

/-! ## The lend check (R81) -/

/-- The lend record for a peer after a LEVEL from it. -/
def lendAfter (s : State) (l : LevelFields) : Option LendRecord → Option LendRecord
  | some d =>
    if l.faultLender = some s.il.station ∨ l.reliefLender = some s.il.station then
      some { d with solePath := if d.reason = .fault then l.solePath else d.solePath }
    else none
  | none => none

/-- The borrow record for a peer after a LEVEL from it. -/
def borrowAfter (l : LevelFields) (b : BorrowRecord) : BorrowRecord :=
  if b.noUplink = true ∧ (l.u0.isLive = true ∨ l.u1.isLive = true) then { b with exclusion := 0, noUplink := false } else b

theorem lendCheck_reads (s : State) (k : Nat) (l : LevelFields) :
    (∀ j, (s.lendCheck k l).lend j = if j = k then s.lendAfter l (s.lend k) else s.lend j) ∧
    (∀ j, (s.lendCheck k l).borrow j = if j = k then borrowAfter l (s.borrow k) else s.borrow j) ∧
    (∀ i, (s.lendCheck k l).binding i = s.binding i) ∧ (s.lendCheck k l).rc = s.rc := by
  have hexclusion : ∀ z : State, z.il = s.il → z.rc = s.rc → z.pu.borrows = s.pu.borrows → z.pu.bindings = s.pu.bindings →
      (∀ j, z.lend j = if j = k then s.lendAfter l (s.lend k) else s.lend j) →
      let y := if (z.borrow k).noUplink && (l.u0.isLive || l.u1.isLive) then
        z.setBorrow k { z.borrow k with exclusion := 0, noUplink := false } else z
      (∀ j, (s.reportPaths y).lend j = if j = k then s.lendAfter l (s.lend k) else s.lend j) ∧
      (∀ j, (s.reportPaths y).borrow j = if j = k then borrowAfter l (s.borrow k) else s.borrow j) ∧
      (∀ i, (s.reportPaths y).binding i = s.binding i) ∧ (s.reportPaths y).rc = s.rc := by
    intro z hil hrc hborrow hbind hlend
    have hreport : ∀ y : State, y.il = s.il → y.rc = s.rc → (∀ j, (y.borrow j).state = (s.borrow j).state) →
        (s.reportPaths y).rc = s.rc := fun y hy hyrc hstate => by
      have hlender : s.faultBorrow = y.faultBorrow := by
        unfold State.faultBorrow
        rw [lender_congr (s := s) (t := y) (by unfold State.peers; rw [hy]) fun j _ => hstate j]
      exact (rc_reportPaths hlender).trans hyrc
    have hb : ∀ j, z.borrow j = s.borrow j := borrow_congr hborrow
    dsimp only
    rw [hb k]
    split
    · next hc =>
      have hclear : borrowAfter l (s.borrow k) = { s.borrow k with exclusion := 0, noUplink := false } :=
        if_pos (by simpa only [Bool.and_eq_true, Bool.or_eq_true] using hc)
      refine ⟨fun j => (lend_reportPaths ..).trans (hlend j), fun j => ?_, fun i => (binding_reportPaths ..).trans (binding_congr hbind i),
        hreport _ hil hrc fun j => ?_⟩
      · rw [borrow_reportPaths, borrow_setBorrow, hb, hclear]
      · rw [borrow_setBorrow, hb]
        split
        · next hj => rw [hj]
        · rfl
    · next hc =>
      have hkeep : borrowAfter l (s.borrow k) = s.borrow k :=
        if_neg (by simpa only [Bool.and_eq_true, Bool.or_eq_true] using hc)
      refine ⟨fun j => (lend_reportPaths ..).trans (hlend j), fun j => ?_, fun i => (binding_reportPaths ..).trans (binding_congr hbind i),
        hreport _ hil hrc fun j => by rw [hb]⟩
      rw [borrow_reportPaths, hb, hkeep]
      split
      · next hj => rw [hj]
      · rfl
  refine hexclusion _ ?_ ?_ ?_ ?_ fun j => ?_
  · repeat' split
    all_goals rfl
  · repeat' split
    all_goals rfl
  · repeat' split
    all_goals rfl
  · repeat' split
    all_goals rfl
  · cases hd : s.lend k with
    | none =>
      dsimp only [lendAfter]
      split
      · next hj => rw [hj, hd]
      · rfl
    | some d =>
      dsimp only [lendAfter]
      by_cases hnames : l.faultLender = some s.il.station ∨ l.reliefLender = some s.il.station
      · rw [if_pos (by simpa using hnames), if_pos hnames]
        cases hr : d.reason with
        | fault =>
          dsimp only
          rw [lend_setLend]
          simp
        | relief =>
          dsimp only
          split
          · next hj => rw [hj, hd, if_neg (by simp), ← hr]
          · rfl
      · rw [if_neg (by simpa using hnames), if_neg hnames]
        exact lend_dropLend ..

theorem tab_storeLevel (s : State) (k : Nat) (l : LevelFields) : (s.storeLevel k l).tab =
    if (s.peer k).state ≠ .live ∨ l.lostNotices = true then { s.tab with scan := some 0 } else s.tab := by
  unfold State.storeLevel PeerRecord.asksScan
  dsimp only
  by_cases hasks : (s.peer k).state ≠ .live ∨ l.lostNotices = true
  · rw [if_pos hasks, if_pos (by simpa using hasks)]
    simp [AddressTable.requestScan]
  · rw [if_neg hasks, if_neg (by simpa using hasks)]
    simp

theorem storeLevel_rc (s : State) (k : Nat) (l : LevelFields) : (s.storeLevel k l).rc = s.rc := by
  have hrc := (lendCheck_reads (s.setPeer k (PeerRecord.store l)) k l).2.2.2
  unfold State.storeLevel
  dsimp only
  split <;> exact hrc

theorem storeLevel_pu (s : State) (k : Nat) (l : LevelFields) :
    (s.storeLevel k l).pu = ((s.setPeer k (PeerRecord.store l)).lendCheck k l).pu := by
  unfold State.storeLevel
  dsimp only
  split <;> rfl

theorem peer_storeLevel (s : State) (k j : Nat) (l : LevelFields) :
    (s.storeLevel k l).peer j = if j = k then PeerRecord.store l else s.peer j := by
  have hpv : (s.storeLevel k l).pv = (s.setPeer k (PeerRecord.store l)).pv := by
    unfold State.storeLevel
    dsimp only
    split <;> simp
  unfold State.peer
  rw [hpv]
  exact peer_setPeer s k j (PeerRecord.store l)

end State

/-- Settles O48. -/
theorem levelStored : Obligations.LevelStored := by
  unfold Obligations.LevelStored
  intro s n rest hconf hn hkind
  have hrun := State.process_of_front (p := fun n => n.isKind .level) (act := fun z n => z.levelFrom n.sender n.payload) hn
    (Notice.isKind_of_eq hkind) (State.actsOn_of_configured hconf _)
  refine ⟨fun hbad => ?_, fun l hl => ⟨(s.withNotices rest).storeLevel n.sender l, ?_, ?_, ?_, ?_, ?_, ?_, ?_, ?_, ?_, ?_, ?_, ?_, ?_, ?_⟩⟩
  · refine (congrArg Host.Outcome.next hrun).trans ?_
    unfold State.levelFrom
    rw [hbad]
    dsimp only
    rw [State.lineError_eq]
    rfl
  · refine (congrArg Host.Outcome.next hrun).trans ?_
    unfold State.levelFrom
    rw [hl]
  · exact State.eq_iff.2 (by simp [State.storeLevel_rc, State.withNotices])
  all_goals
    obtain ⟨hlend, hborrow, hbind, -⟩ := State.lendCheck_reads ((s.withNotices rest).setPeer n.sender (PeerRecord.store l)) n.sender l
    have hpu := State.storeLevel_pu (s.withNotices rest) n.sender l
    have hlends : ∀ j, ((s.withNotices rest).storeLevel n.sender l).lend j =
        if j = n.sender then s.lendAfter l (s.lend n.sender) else s.lend j := fun j => (State.lend_congr (by rw [hpu]) j).trans (hlend j)
    have hborrows : ∀ j, ((s.withNotices rest).storeLevel n.sender l).borrow j =
        if j = n.sender then State.borrowAfter l (s.borrow n.sender) else s.borrow j :=
      fun j => (State.borrow_congr (by rw [hpu]) j).trans (hborrow j)
    have hpeer := State.peer_storeLevel (s.withNotices rest) n.sender (l := l)
  · rw [hpeer, if_pos rfl]; rfl
  · rw [hpeer, if_pos rfl]; rfl
  · rw [hpeer, if_pos rfl]; rfl
  · exact fun j hj => (hpeer j).trans (if_neg hj)
  · exact State.tab_storeLevel (s.withNotices rest) n.sender l
  · intro hnames
    rw [hlends, if_pos rfl]
    cases s.lend n.sender with
    | none => rfl
    | some d => exact if_neg hnames
  · intro d hnames hd
    rw [hlends, if_pos rfl, hd]
    exact if_pos hnames
  · intro hnone
    rw [hlends, if_pos rfl, hnone]
    rfl
  · exact fun j hj => ⟨(hlends j).trans (if_neg hj), (hborrows j).trans (if_neg hj)⟩
  · intro hcleared
    rw [hborrows, if_pos rfl]
    exact if_pos hcleared
  · intro hkept
    rw [hborrows, if_pos rfl]
    exact if_neg hkept
  · exact fun i => (State.binding_congr (by rw [hpu]) i).trans (hbind i)

/-! ## STATUS_FETCH (R116, R117) -/

theorem condition_eq (s : State) : s.condition = (if s.il.state = .unconfigured then 1 else if s.xc.duplicate = true then 2
    else if (s.link 16).latch = true ∨ (s.link 17).latch = true then 3
    else if (s.link 18).latch = true ∨ (s.link 19).latch = true ∨ (s.link 20).latch = true then 4
    else if ∃ p ∈ accessPorts, (s.link p).latch = true then 5
    else if s.xc.lineFault = true then 6 else if s.xc.overrunLatch = true then 7 else 8) := by
  unfold State.condition conditionCode State.anyLatch
  simp [u0, u1, crossPorts]

theorem length_statusWords {r : StatusReply} (hports : r.ports.length = 21) : (statusWords r).length = 25 := by
  have htail : (statusTail r).length = 11 := by simp [statusTail, length_beWords]
  rw [statusWords_eq, List.length_append, List.length_append, length_statusPorts hports, htail]
  rfl

theorem length_statusReply_ports (s : State) : s.statusReply.ports.length = 21 := by simp [State.statusReply, allPorts]

theorem intakeSum_eq (s : State) (f : PortIntake → Nat) :
    s.intakeSum f = min 4294967295 ((allPorts.map (fun p => f (s.intake p))).sum) := by
  unfold State.intakeSum satAdd count32
  rw [Nat.zero_add]
  split <;> omega

theorem intakeSum_congr {s t : State} (h : t.iu = s.iu) (f : PortIntake → Nat) : t.intakeSum f = s.intakeSum f := by
  unfold State.intakeSum State.intake
  rw [h]

theorem link_clearLatches (s : State) {p : Nat} (hp : p ∈ allPorts) : s.clearLatches.link p = { s.link p with latch := false } := by
  unfold State.clearLatches
  rw [State.link_mapLinks _ State.nodup_allPorts, if_pos hp]
  rfl

theorem mapLinks_ls (s : State) (ps : List Nat) (f : PortLink → PortLink) :
    (s.mapLinks ps f).ls = { s.ls with ports := (s.mapLinks ps f).ls.ports } := by
  obtain ⟨hwindow, hdue, howed⟩ := State.windows_mapLinks s ps f
  generalize s.mapLinks ps f = z at *
  dsimp only
  rw [← hwindow, ← hdue, ← howed]

theorem clearLatches_ls (s : State) : s.clearLatches.ls = { s.ls with ports := s.clearLatches.ls.ports } := by
  unfold State.clearLatches
  exact mapLinks_ls _ _ _

theorem statusFetch_of_waiting {s : State} {c : Nat} (h : s.replyWaits .status c = true) : s.statusFetch c = s := if_pos h

theorem statusFetch_of_free {s : State} {c : Nat} (h : s.replyWaits .status c = false) :
    s.statusFetch c = s.clearLatches.queueNormal (.status c s.statusReply) := if_neg (by simp [h])

/-- A reply that is sent: it goes to the tail, and the latches it carries are cleared. -/
theorem statusFetch_of_none {s : State} {c : Nat} (h : ∀ m ∈ s.xc.normal, ¬(m.kind = .status ∧ m.dest = c)) :
    let t := s.clearLatches.queueNormal (.status c s.statusReply)
    t = { s with xc := t.xc, ls := { s.ls with ports := t.ls.ports } } ∧
    t.xc = { s.xc with normal := s.xc.normal ++ [.status c s.statusReply], lineFault := false, overrunLatch := false } ∧
    ∀ p ∈ allPorts, t.link p = { s.link p with latch := false } := by
  intro t
  have hls : t.ls = s.clearLatches.ls := by simp only [t, State.queueNormal_frame]
  have hxc : s.clearLatches.xc = { s.xc with lineFault := false, overrunLatch := false } := by simp [State.clearLatches]
  refine ⟨State.eq_iff.2 ?_, ?_, fun p hp => (State.link_congr hls p).trans (link_clearLatches s hp)⟩
  · have hports := hls.trans (clearLatches_ls s)
    rw [← hls] at hports
    refine ⟨?_, ?_, ?_, hports, ?_, ?_, ?_, ?_, ?_, ?_, rfl, ?_, ?_, ?_, ?_, ?_⟩
    all_goals simp [t]
  · have hplaced : t.xc = { s.clearLatches.xc with normal := placeMsg (.status c s.statusReply) s.clearLatches.xc.normal } := rfl
    rw [hplaced, hxc, placeMsg_of_fresh h]

/-- The reply holds the values as they stand. -/
theorem statusReply_ports (s : State) : s.statusReply.ports = allPorts.map (fun p =>
    { state := (s.link p).state, latch := (s.link p).latch
      stage := if (s.link p).state = .qualifying then (s.link p).stages else 0 }) := by
  simp only [State.statusReply, PortLink.status]

/-- Settles O49. -/
theorem statusFetched : Obligations.StatusFetched := by
  unfold Obligations.StatusFetched
  intro s n rest hload hn hkind
  have hrun := State.process_of_front (p := fun n => n.isKind .statusFetch) (act := fun z n => z.statusFetch n.sender) hn
    (Notice.isKind_of_eq hkind) (State.actsOn_fetch hload (.inr hkind))
  have hwaits := State.replyWaits_iff (s.withNotices rest) .status n.sender
  refine ⟨fun hw => ?_, fun hfree => ?_⟩
  · refine (congrArg Host.Outcome.next hrun).trans ?_
    dsimp only
    rw [statusFetch_of_waiting (hwaits.2 hw)]
    rfl
  · have hno : (s.withNotices rest).replyWaits .status n.sender = false := Bool.eq_false_iff.2 fun hw => hfree (hwaits.1 hw)
    have hempty : ∀ m ∈ (s.withNotices rest).xc.normal, ¬(m.kind = .status ∧ m.dest = n.sender) := fun m hm hk => hfree (.inl ⟨m, hm, hk⟩)
    have hsum : ∀ f, (s.withNotices rest).intakeSum f = min 4294967295 ((allPorts.map (fun p => f (s.intake p))).sum) := fun f =>
      (intakeSum_congr (s := s) rfl f).trans (intakeSum_eq s f)
    have hbad : (s.withNotices rest).statusReply.badSum = (s.withNotices rest).intakeSum PortIntake.bad := by simp only [State.statusReply]
    have hunclassified : (s.withNotices rest).statusReply.unclassSum = (s.withNotices rest).intakeSum PortIntake.unclassified := by
      simp only [State.statusReply]
    have hports := statusReply_ports (s.withNotices rest)
    have hcondition : (s.withNotices rest).statusReply.condition = (s.withNotices rest).condition := by simp only [State.statusReply]
    have hcode := condition_eq (s.withNotices rest)
    obtain ⟨hframe, hxc, hlink⟩ := statusFetch_of_none hempty
    have hrun' : exec .statusFetch s = .next ((s.withNotices rest).clearLatches.queueNormal
        (.status n.sender (s.withNotices rest).statusReply)).takeFrame := by
      refine (congrArg Host.Outcome.next hrun).trans ?_
      rw [statusFetch_of_free hno]
    refine ⟨_, (s.withNotices rest).statusReply, hrun', hframe, hxc, hlink, rfl, rfl, rfl, rfl, rfl, rfl, rfl, rfl, rfl, rfl, rfl, rfl,
      hports, hbad.trans (hsum _), hunclassified.trans (hsum _), length_statusWords (length_statusReply_ports _),
      hcondition.trans hcode⟩

end Sys2Proof.Machine
end

section
/-! The word receiver and the attempts of the Crossline Controller (R104 to R110, R114): what a run of the words of one frame does,
and the end of an attempt. -/

namespace Sys2Proof.Machine

open Sys2Proof.Config

/-! ## The words of a frame (R103, R169) -/

/-- The words of a frame from its claim to the end of its payload: the third one counts those behind it. -/
def IsFrame (words : List Word) : Prop := words.length = 3 + (words.getD 2 0).toNat ∧ (words.getD 2 0).toNat ≤ 48

theorem isFrame_words (claim h1 : Word) {payload : List Word} (h : payload.length ≤ 48) :
    IsFrame ([claim, h1, BitVec.ofNat 16 payload.length] ++ payload) := by
  have hlen : (BitVec.ofNat 16 payload.length).toNat = payload.length := toNat_word (by omega)
  unfold IsFrame
  rw [show ([claim, h1, BitVec.ofNat 16 payload.length] ++ payload).getD 2 0 = BitVec.ofNat 16 payload.length from rfl, hlen]
  exact ⟨by simp; omega, h⟩

theorem isFrame_hand (j : Nat) (h : Hand) (hlen : h.payload.length ≤ 48) : IsFrame (claimOf j h.msg :: h.inner) :=
  isFrame_words _ _ hlen

namespace State

variable {s z : State}

/-! ## The receiver on the words of a frame (R104) -/

theorem getD_append_of_lt {l m : List Word} {i : Nat} (h : i < l.length) : (l ++ m).getD i 0 = l.getD i 0 := List.getD_append _ _ _ _ h

/-- A data word that goes on with a frame is kept. -/
theorem takeFrameWord_of_prefix {words got rest : List Word} {d : Word} (hf : IsFrame words) (h : words = got ++ [d] ++ rest) :
    z.takeFrameWord got d = z.setRx (.inFrame (got ++ [d])) 0 := by
  obtain ⟨hlen, hshort⟩ := hf
  have hle : (got ++ [d]).length ≤ words.length := by
    rw [h]
    simp only [List.length_append]
    omega
  have hcount : 3 ≤ (got ++ [d]).length → (got ++ [d]).getD 2 0 = words.getD 2 0 := fun h3 => by
    rw [h]
    exact (getD_append_of_lt (by omega)).symm
  unfold State.takeFrameWord
  dsimp only
  rw [if_neg ?long, if_neg ?complete]
  case long =>
    rintro ⟨h3, hd⟩
    have hgot : got.length = 2 := by simpa using h3
    have hlast : (got ++ [d]).getD 2 0 = d := by rw [List.getD_append_right _ _ _ _ (by omega), hgot]; rfl
    rw [← hcount (by omega), hlast] at hshort
    omega
  case complete =>
    rintro ⟨h4, hend⟩
    rw [hcount (by omega)] at hend
    omega

/-- A run of data words that goes on with a frame is kept. -/
theorem rxData_prefix {words : List Word} (hf : IsFrame words) (ds : List Word) {got rest : List Word} (hrx : z.xc.rx = .inFrame got)
    (h : words = got ++ ds ++ rest) :
    (ds.map LineWord.data).foldl State.rxWord z = if ds = [] then z else z.setRx (.inFrame (got ++ ds)) 0 := by
  induction ds generalizing z got with
  | nil => rfl
  | cons d ds ih =>
    have hword : z.rxWord (.data d) = z.setRx (.inFrame (got ++ [d])) 0 := by
      unfold State.rxWord
      rw [hrx]
      exact takeFrameWord_of_prefix hf (rest := ds ++ rest) (by simpa using h)
    rw [List.map_cons, List.foldl_cons, hword, ih (got := got ++ [d]) rfl (by simpa using h), if_neg (List.cons_ne_nil d ds)]
    split
    · next hds => rw [hds]
    · rw [List.append_assoc]; rfl

/-- The word behind a whole frame is its check (R104). -/
theorem rxWord_check {words : List Word} (hf : IsFrame words) (hrx : z.xc.rx = .inFrame words) (c : Word) :
    z.rxWord (.data c) =
      if c = checkWord words then (z.setRx .searching 0).frameComplete words else z.frameFails .searching 0 := by
  obtain ⟨hlen, hshort⟩ := hf
  have hcount : (words ++ [c]).getD 2 0 = words.getD 2 0 := getD_append_of_lt (by omega)
  unfold State.rxWord
  rw [hrx]
  dsimp only
  unfold State.takeFrameWord
  dsimp only
  rw [hcount, List.length_append, List.length_singleton, if_neg (by omega), if_pos (by omega)]

/-- The rest of a frame with its check. -/
theorem rxData_frame {words got ds : List Word} (hf : IsFrame words) (hrx : z.xc.rx = .inFrame got) (h : words = got ++ ds) (c : Word) :
    ((ds ++ [c]).map LineWord.data).foldl State.rxWord z =
      if c = checkWord words then (z.setRx .searching 0).frameComplete words else z.frameFails .searching 0 := by
  rw [List.map_append, List.foldl_append, rxData_prefix hf ds (rest := []) hrx (by simpa using h)]
  split
  · next hds =>
    rw [hds, List.append_nil] at h
    exact rxWord_check hf (h ▸ hrx) c
  · exact rxWord_check (z := z.setRx (.inFrame (got ++ ds)) 0) hf (congrArg RxState.inFrame h.symm) c

/-- What the receiver changes short of a frame received whole. -/
def Heard (s z : State) : Prop :=
  z = { s with xc := { s.xc with rx := z.xc.rx, fillRun := z.xc.fillRun, rxOwn := z.xc.rxOwn, ownLast := z.xc.ownLast
                                 lineErrors := z.xc.lineErrors } }

theorem Heard.reads (h : s.Heard z) : z = { s with xc := z.xc } ∧ z.xc.hand = s.xc.hand ∧ z.xc.attempts = s.xc.attempts ∧
    z.xc.notices = s.xc.notices ∧ z.xc.urgent = s.xc.urgent ∧ z.xc.normal = s.xc.normal ∧ z.xc.lineFault = s.xc.lineFault ∧
    z.tab = s.tab := by
  unfold State.Heard at h
  refine ⟨?_, ?_, ?_, ?_, ?_, ?_, ?_, ?_⟩
  all_goals rw [h]

/-- A word that ends a frame or goes on with it wrongly completes none. -/
theorem heard_wrong {words got : List Word} (hf : IsFrame words) (hrx : z.xc.rx = .inFrame got) {d : Word} {rest : List Word}
    (hgot : (got = words ∧ d ≠ checkWord words) ∨ (words = got ++ rest ∧ got ≠ words)) : z.Heard (z.rxWord (.data d)) := by
  obtain ⟨rfl, hcheck⟩ | ⟨hwords, hne⟩ := hgot
  · rw [rxWord_check hf hrx, if_neg hcheck]
    rfl
  · obtain ⟨hlen, hshort⟩ := hf
    have hrest : rest ≠ [] := fun hnil => hne (by rw [hwords, hnil, List.append_nil])
    have hlt : got.length < words.length := by
      rw [hwords, List.length_append]
      have := List.length_pos_of_ne_nil hrest
      omega
    unfold State.rxWord
    rw [hrx]
    dsimp only
    unfold State.takeFrameWord
    dsimp only
    rw [List.length_append, List.length_singleton]
    by_cases hlong : got.length + 1 = 3 ∧ 48 < d.toNat
    · rw [if_pos hlong]; rfl
    · rw [if_neg hlong, if_neg ?short]
      · rfl
      case short =>
        rintro ⟨h4, hend⟩
        have hcount : (got ++ [d]).getD 2 0 = words.getD 2 0 := by
          rw [hwords, getD_append_of_lt (by omega), getD_append_of_lt (by omega)]
        rw [hcount] at hend
        omega

/-- A part of a frame behind its claim, and then a word that is not its next. -/
theorem heard_part {claim : Word} {inner : List Word} (hf : IsFrame (claim :: inner)) (hrx : z.xc.rx = .inFrame [claim]) {good : Nat}
    (hgood : good ≤ inner.length) {read : LineWord} (hread : good = inner.length → read ≠ .data (checkWord (claim :: inner))) :
    let t := ((inner.take good).map LineWord.data ++ [read]).foldl State.rxWord z
    z.Heard t ∧ (read = .fill → t.xc.rx = .searching ∧ t.xc.lineErrors = bump z.xc.lineErrors) := by
  intro t
  have hwords : claim :: inner = [claim] ++ inner.take good ++ inner.drop good := by simp
  have hpart : ∃ f, ((inner.take good).map LineWord.data).foldl State.rxWord z = z.setRx (.inFrame (claim :: inner.take good)) f := by
    rw [rxData_prefix hf (inner.take good) hrx hwords]
    split
    · next hnil => exact ⟨z.xc.fillRun, by rw [hnil, ← hrx]; rfl⟩
    · exact ⟨0, rfl⟩
  obtain ⟨f, hpart⟩ := hpart
  have ht : t = (z.setRx (.inFrame (claim :: inner.take good)) f).rxWord read := by
    rw [← hpart]
    exact List.foldl_append
  rw [ht]
  cases read with
  | fill => exact ⟨rfl, fun _ => ⟨rfl, rfl⟩⟩
  | sync => exact ⟨rfl, nofun⟩
  | data d =>
    refine ⟨?_, nofun⟩
    have hheard : (z.setRx (.inFrame (claim :: inner.take good)) f).Heard
        ((z.setRx (.inFrame (claim :: inner.take good)) f).rxWord (.data d)) := by
      refine heard_wrong (rest := inner.drop good) hf rfl ?_
      obtain hend | hmore := Nat.lt_or_eq_of_le hgood |>.symm
      · refine .inl ⟨by rw [hend, List.take_length], fun hd => hread hend (by rw [hd])⟩
      · refine .inr ⟨hwords, fun heq => ?_⟩
        have hlen := congrArg List.length heq
        rw [List.length_cons, List.length_cons, List.length_take] at hlen
        omega
    exact hheard

/-! ## A failed attempt (R107, R114) -/

theorem failAttempt_of_few {h : Hand} (hh : s.xc.hand = some h) (hfew : s.xc.attempts < 3) :
    s.failAttempt = { s with xc := { s.xc with toDrive := none, rxOwn := false, ownLast := true, attempts := s.xc.attempts + 1 } } := by
  unfold State.failAttempt
  rw [hh]
  exact if_neg (by omega)

theorem ownerDiscarded_eq (s : State) (h : Hand) :
    s.ownerDiscarded h = { s with tab := if h.msg.kind = .address then s.tab.discarded else s.tab } := by
  unfold State.ownerDiscarded
  cases h.msg <;> rfl

theorem discardHand_eq {h : Hand} (hh : s.xc.hand = some h) : s.discardHand =
    { s with xc := { s.xc with hand := none, attempts := 0 }, tab := if h.msg.kind = .address then s.tab.discarded else s.tab } := by
  unfold State.discardHand
  rw [hh]
  dsimp only
  rw [ownerDiscarded_eq]
  rfl

theorem failAttempt_of_last {h : Hand} (hh : s.xc.hand = some h) (hlast : 3 ≤ s.xc.attempts) :
    s.failAttempt = { s with xc := { s.xc with toDrive := none, rxOwn := false, ownLast := true, lineFault := true, hand := none
                                               attempts := 0 }
                             tab := if h.msg.kind = .address then s.tab.discarded else s.tab } := by
  unfold State.failAttempt
  rw [hh]
  dsimp only
  rw [if_pos (by omega), discardHand_eq (by exact hh)]

theorem takeFrame_of_hand (h : s.xc.hand.isSome = true) : s.takeFrame = s := if_pos (.inl h)

theorem rxWords_of_listening (h : s.il.state ≠ .loading) (ws : List LineWord) : s.rxWords ws = ws.foldl State.rxWord s := if_neg h

end State

/-- Settles O42: up to the failing word the receiver has a part of one frame, which that word does not make whole. -/
theorem attemptFails : Obligations.AttemptFails := by
  unfold Obligations.AttemptFails
  intro s h good read hload hhand driven hdrive hrx hlen hgood hread
  have hcount : driven.length = h.inner.length + 1 := by simp [driven, Hand.afterClaim]
  have htake : driven.take good = h.inner.take good := List.take_append_of_le_length (by omega)
  obtain ⟨hheard, hfill⟩ := State.heard_part (z := { s with xc := { s.xc with toDrive := none, rxOwn := false } })
    (isFrame_hand s.il.station h hlen) hrx (good := good) (read := read) (by omega) fun hend hcheck => hread (by
      rw [hcheck, hend, List.getElem?_map]
      simp [driven, Hand.afterClaim])
  have hrun : s.lineBreaks good read = (((h.inner.take good).map LineWord.data ++ [read]).foldl State.rxWord
      { s with xc := { s.xc with toDrive := none, rxOwn := false } }).failAttempt := by
    unfold State.lineBreaks
    rw [hdrive]
    dsimp only
    rw [if_pos ⟨by simpa using hgood, hread⟩, State.rxWords_of_listening (by exact hload), ← List.map_take, htake]
  generalize ((h.inner.take good).map LineWord.data ++ [read]).foldl State.rxWord
    { s with xc := { s.xc with toDrive := none, rxOwn := false } } = t at *
  have hexec : exec (.attemptFailed good read) s = .next t.failAttempt.takeFrame := by rw [exec_eq_next, State.after, hrun]
  obtain ⟨hframe, hhand', hattempts, hnotices, hurgent, hnormal, hfault, htab⟩ := hheard.reads
  have hh : t.xc.hand = some h := hhand'.trans hhand
  have hbump : read = .fill → t.xc.rx = .searching ∧ t.xc.lineErrors = min 4294967295 (s.xc.lineErrors + 1) := fun hr =>
    ⟨(hfill hr).1, (hfill hr).2.trans (bump_eq _)⟩
  rcases Nat.lt_or_ge s.xc.attempts 3 with hfew | hlast
  · have hfail := State.failAttempt_of_few hh (hattempts ▸ hfew)
    rw [hfail] at hexec
    refine ⟨_, hexec, ?_, rfl, rfl, rfl, hnotices, hurgent, hnormal, fun _ => ⟨hh, congrArg (· + 1) hattempts, hfault, htab⟩,
      fun hge => absurd hge (Nat.not_le_of_lt hfew), hbump⟩
    rw [hframe]
  · have hfail := State.failAttempt_of_last hh (hattempts ▸ hlast)
    rw [hfail] at hexec
    refine ⟨_, hexec, ?_, rfl, rfl, rfl, hnotices, hurgent, hnormal, fun hlt => absurd hlast (Nat.not_le_of_lt hlt),
      fun _ => ⟨rfl, rfl, rfl, by rw [← htab]⟩, hbump⟩
    rw [hframe]

end Sys2Proof.Machine
end

section
/-! The start of a frame and the end of one that was sent (R105, R106, R114). -/

namespace Sys2Proof.Machine

open Sys2Proof.Config

namespace State

variable {s : State}

/-! ## The start of a frame (R105, R106) -/

theorem foldl_fill (hrx : s.xc.rx = .searching) (m : Nat) :
    (List.replicate m LineWord.fill).foldl State.rxWord s = { s with xc := { s.xc with fillRun := s.xc.fillRun + m } } := by
  induction m generalizing s with
  | zero => rfl
  | succ m ih =>
    have hword : s.rxWord .fill = { s with xc := { s.xc with fillRun := s.xc.fillRun + 1 } } := by
      unfold State.rxWord
      rw [hrx]
      change s.setRx .searching (s.xc.fillRun + 1) = _
      unfold State.setRx
      rw [← hrx]
    rw [List.replicate_succ, List.foldl_cons, hword, ih (by exact hrx), Nat.add_assoc, Nat.add_comm 1 m]

/-- The frame in hand as the attempt begins: a LEVEL's contents are built (R115). -/
def inHandNow (s : State) (h : Hand) : Hand := { h with built := if h.msg.kind = .level then some s.levelFields else h.built }

theorem beginAttempt_eq {h : Hand} (hh : s.xc.hand = some h) : ∃ again,
    s.beginAttempt h = { s with xc := { s.xc with hand := some (s.inHandNow h), lostAgain := again } } := by
  unfold State.beginAttempt State.inHandNow
  split
  · exact ⟨_, rfl⟩
  · exact ⟨s.xc.lostAgain, by rw [← hh]⟩

theorem startFrame_eq {h : Hand} (hh : s.xc.hand = some h) (c : Word) : ∃ again, s.startFrame h .sync .sync (.data c) =
    { s with xc := { s.xc with hand := some (s.inHandNow h), lostAgain := again } }.resolveClaim (s.inHandNow h) (.data c) := by
  obtain ⟨again, heq⟩ := beginAttempt_eq hh
  refine ⟨again, ?_⟩
  unfold State.startFrame
  rw [heq]
  rfl

section resolveClaim

variable {h : Hand} {c : Word}

theorem resolveClaim_won (hc : c = claimOf s.il.station h.msg) : s.resolveClaim h (.data c) =
    { s with xc := { s.xc with rx := .inFrame [c], fillRun := 0, rxOwn := true
                               toDrive := some ((h.afterClaim s.il.station).map .data) } } := if_pos hc

theorem resolveClaim_lost (hc : c.toNat < (claimOf s.il.station h.msg).toNat) : s.resolveClaim h (.data c) =
    { s with xc := { s.xc with rx := .inFrame [c], fillRun := 0, rxOwn := false, ownLast := false } } :=
  (if_neg fun heq => by rw [heq] at hc; omega).trans (if_pos hc)

theorem resolveClaim_higher (hc : (claimOf s.il.station h.msg).toNat < c.toNat) : s.resolveClaim h (.data c) =
    ({ s with xc := { s.xc with rx := .inFrame [c], fillRun := 0, rxOwn := false } }).failAttempt :=
  (if_neg fun heq => by rw [heq] at hc; omega).trans (if_neg (by omega))

end resolveClaim

theorem tryStart_of_heard {z : State} {h : Hand} {gap : List LineWord} {w1 w2 c : LineWord} (hdrive : s.xc.toDrive = none)
    (hz : s.rxWords gap = z) (hh : z.xc.hand = some h) :
    s.tryStart gap w1 w2 c = if z.mayStart h then z.startFrame h w1 w2 c else z := by
  unfold State.tryStart State.driving
  rw [hdrive, if_neg (by simp), hz]
  dsimp only
  rw [hh]

/-- A station that may start hears the gap, and starts where the deferral has passed. -/
theorem tryStart_eq {h : Hand} {c : Word} {m : Nat} (hload : s.il.state ≠ .loading) (hdrive : s.xc.toDrive = none)
    (hh : s.xc.hand = some h) (hfree : s.xc.duplicate = false ∨ h.msg.kind = .status) (hrx : s.xc.rx = .searching) :
    s.tryStart (List.replicate m .fill) .sync .sync (.data c) =
      if (if s.xc.ownLast then 8 else 4) ≤ s.xc.fillRun + m then
        { s with xc := { s.xc with fillRun := s.xc.fillRun + m } }.startFrame h .sync .sync (.data c)
      else { s with xc := { s.xc with fillRun := s.xc.fillRun + m } } := by
  have hmay : { s with xc := { s.xc with fillRun := s.xc.fillRun + m } }.mayStart h =
      decide ((if s.xc.ownLast then 8 else 4) ≤ s.xc.fillRun + m) := by
    unfold State.mayStart State.deferral Msg.isStatus
    dsimp only
    rw [hrx]
    have hopen : (!s.xc.duplicate || h.msg.kind == .status) = true := by
      obtain hd | hs := hfree
      · rw [hd]; rfl
      · rw [hs]; simp
    rw [hopen]
    simp [hload]
  rw [tryStart_of_heard hdrive ((rxWords_of_listening hload _).trans (foldl_fill hrx m)) hh, hmay]
  simp only [decide_eq_true_eq]

end State

/-- Settles O41. -/
theorem claimResolved : Obligations.ClaimResolved := by
  unfold Obligations.ClaimResolved
  intro s h m c hload hdrive hh hfree hrx start deferral own inHand
  have htry := State.tryStart_eq (c := c) (m := m) hload hdrive hh hfree hrx
  obtain ⟨again, hstart⟩ := State.startFrame_eq (s := { s with xc := { s.xc with fillRun := s.xc.fillRun + m } }) hh c
  have hexec : ∀ {t : State}, s.tryStart (List.replicate m .fill) .sync .sync (.data c) = t → t.xc.hand.isSome = true →
      start = .next t := fun {t} ht hsome => by
    change exec (.frameStart (List.replicate m .fill) .sync .sync (.data c)) s = _
    rw [exec_eq_next, State.after, ht, State.takeFrame_of_hand hsome]
  have hbuilt : State.inHandNow { s with xc := { s.xc with fillRun := s.xc.fillRun + m } } h = inHand := rfl
  rw [hbuilt] at hstart
  refine ⟨fun hshort => hexec (htry.trans (if_neg (Nat.not_le_of_lt hshort))) (by rw [hh]; rfl), fun hpast hc => ?_,
    fun hpast hc => ?_, fun hpast hc hfew => ?_⟩
  · have hwon := (htry.trans (if_pos hpast)).trans (hstart.trans (State.resolveClaim_won hc))
    exact ⟨_, hexec hwon rfl, rfl, rfl, rfl, rfl, rfl, rfl⟩
  · have hlost := (htry.trans (if_pos hpast)).trans (hstart.trans (State.resolveClaim_lost hc))
    exact ⟨_, hexec hlost rfl, rfl, rfl, rfl, hdrive, rfl, rfl, rfl⟩
  · have hhigher := (htry.trans (if_pos hpast)).trans (hstart.trans (State.resolveClaim_higher hc))
    have hfailed := hhigher.trans (State.failAttempt_of_few (h := inHand) rfl (by exact hfew))
    exact ⟨_, hexec hfailed rfl, rfl, rfl, rfl, rfl, rfl⟩

/-! ## The end of a frame that was sent (R114) -/

/-- The lost-notices flag after a frame was sent. -/
def lostAfter (s : State) (h : Hand) : Bool :=
  if h.msg.kind = .level ∧ (h.built.map LevelFields.lostNotices) = some true then s.xc.lostAgain else s.xc.lostNotices

theorem ownerSent_eq (s : State) (h : Hand) : s.ownerSent h =
    { s with xc := { s.xc with lostNotices := lostAfter s h }, tab := if h.msg.kind = .address then s.tab.sent else s.tab } := by
  have hkeep : h.msg.kind ≠ .level → lostAfter s h = s.xc.lostNotices := fun hk => if_neg fun ⟨hl, _⟩ => hk hl
  unfold State.ownerSent
  cases hm : h.msg with
  | level =>
    cases hb : h.built with
    | none => rw [show lostAfter s h = s.xc.lostNotices from if_neg (by simp [hb])]; rfl
    | some l =>
      cases hl : l.lostNotices with
      | true => rw [show lostAfter s h = s.xc.lostAgain from if_pos (by simp [hm, hb, hl, Msg.kind])]; simp [hl, Msg.kind]
      | false => rw [show lostAfter s h = s.xc.lostNotices from if_neg (by simp [hb, hl])]; simp [hl, Msg.kind]
  | _ => rw [hkeep (by rw [hm]; exact nofun)]; rfl

/-- Settles O43. -/
theorem frameSentEnds : Obligations.FrameSentEnds := by
  unfold Obligations.FrameSentEnds
  intro s h hload hh hdrive hrx hown hlen lost
  have hf := isFrame_hand s.il.station h hlen
  have hwords : s.rxWords ((h.afterClaim s.il.station).map .data) =
      { s with xc := { s.xc with rx := .searching, fillRun := 0, rxOwn := false } } := by
    rw [State.rxWords_of_listening hload]
    refine (State.rxData_frame hf hrx (ds := h.inner) rfl _).trans ((if_pos rfl).trans ?_)
    exact if_pos hown
  have hrun : s.driveOut = { s with
      xc := { s.xc with hand := none, attempts := 0, ownLast := true, toDrive := none, rx := .searching, fillRun := 0
                        rxOwn := false, lostNotices := lost }
      tab := if h.msg.kind = .address then s.tab.sent else s.tab } := by
    unfold State.driveOut
    rw [hdrive, hh]
    dsimp only
    rw [hwords, ownerSent_eq]
    rfl
  refine ⟨s.driveOut, rfl, ?_, fun hk => ?_, fun hk => ⟨?_, fun hwf i => ?_⟩⟩
  · rw [hrun]
  · rw [hrun]; exact if_neg hk
  · rw [hrun]
    dsimp only
    rw [if_pos hk]
    rfl
  · rw [hrun]
    dsimp only
    rw [if_pos hk]
    exact Tab.find?_filterMap _ hwf i

end Sys2Proof.Machine
end

section
/-! A frame on the line (O44): its words, the two syncs, what breaks it off, and what a whole one leaves (R103, R104, R108 to R110). -/

namespace Sys2Proof.Machine

open Sys2Proof.Config

namespace State

variable {s : State} {sender h1 : Nat}

/-! ## A frame with the station's own number (R108) -/

/-- A frame that shows another station with the station's number, not noted so far. -/
def Twin (s : State) (sender h1 : Nat) : Prop :=
  sender = s.il.station ∧ kindOfCode (h1 / 256) ≠ some .status ∧ s.xc.duplicate = false

theorem noteDuplicate_of_not_twin (h : ¬s.Twin sender h1) : s.noteDuplicate sender h1 = s := if_neg h

theorem noteDuplicate_of_none (h : s.Twin sender h1) (hh : s.xc.hand = none) :
    s.noteDuplicate sender h1 = { s with xc := { s.xc with duplicate := true } } := by
  unfold State.noteDuplicate
  rw [if_pos (by exact h)]
  dsimp only
  rw [hh]

theorem noteDuplicate_of_status {x : Hand} (h : s.Twin sender h1) (hh : s.xc.hand = some x) (hk : x.msg.kind = .status) :
    s.noteDuplicate sender h1 = { s with xc := { s.xc with duplicate := true } } := by
  unfold State.noteDuplicate
  rw [if_pos (by exact h)]
  dsimp only
  rw [hh]
  exact if_pos (by simp [Msg.isStatus, hk])

theorem noteDuplicate_of_other {x : Hand} (h : s.Twin sender h1) (hh : s.xc.hand = some x) (hk : x.msg.kind ≠ .status) :
    s.noteDuplicate sender h1 = { s with xc := { s.xc with duplicate := true, hand := none, attempts := 0 }
                                         tab := if x.msg.kind = .address then s.tab.discarded else s.tab } := by
  have hdiscard := discardHand_eq (s := { s with xc := { s.xc with duplicate := true } }) (by exact hh)
  unfold State.noteDuplicate
  rw [if_pos (by exact h)]
  dsimp only
  split
  · next y hy =>
    cases hh.symm.trans hy
    exact (if_neg (by simp [Msg.isStatus, hk])).trans hdiscard
  · next hy => exact nomatch hh.symm.trans hy

/-- What a note of another station's frame can change. -/
theorem noteDuplicate_eq (s : State) (sender h1 : Nat) : ∃ d hand a tab, s.noteDuplicate sender h1 =
    { s with xc := { s.xc with duplicate := d, hand := hand, attempts := a }, tab := tab } ∧
      (d = true ↔ s.xc.duplicate = true ∨ s.Twin sender h1) := by
  by_cases htwin : s.Twin sender h1
  · cases hh : s.xc.hand with
    | none => exact ⟨true, none, s.xc.attempts, s.tab, by rw [noteDuplicate_of_none htwin hh, ← hh], by simp [htwin]⟩
    | some x =>
      by_cases hk : x.msg.kind = .status
      · exact ⟨true, some x, s.xc.attempts, s.tab, by rw [noteDuplicate_of_status htwin hh hk, ← hh], by simp [htwin]⟩
      · exact ⟨true, none, 0, _, noteDuplicate_of_other htwin hh hk, by simp [htwin]⟩
  · exact ⟨s.xc.duplicate, s.xc.hand, s.xc.attempts, s.tab, by rw [noteDuplicate_of_not_twin htwin], by simp [htwin]⟩

/-! ## The filter (R109, R110) -/

theorem accepts_iff {k : Kind} {dest : Nat} : s.accepts k sender dest = true ↔
    ((k = .level ∨ k = .address) ∧ dest = 255 ∧ sender ≤ 3 ∧ sender ≠ s.il.station) ∨
    ((k = .borrow ∨ k = .grant ∨ k = .withdraw ∨ k = .ret) ∧ dest = s.il.station ∧ sender ≤ 3 ∧ sender ≠ s.il.station) ∨
    ((k = .billFetch ∨ k = .statusFetch) ∧ dest = s.il.station ∧ 4 ≤ sender) := by
  unfold State.accepts destAll
  cases k <;> simp

variable {payload : List Word}

theorem filterFrame_of_unknown (h : ¬∃ k, kindOfCode (h1 / 256) = some k ∧ lengthAllowed k payload.length = true) :
    s.filterFrame sender h1 payload = s.lineError := by
  unfold State.filterFrame
  split
  · rfl
  · next k hk => exact if_neg fun hlen => h ⟨k, hk, hlen⟩

theorem filterFrame_of_taken {k : Kind} (hk : kindOfCode (h1 / 256) = some k) (hlen : lengthAllowed k payload.length = true)
    (hacc : s.accepts k sender (h1 % 256) = true) : s.filterFrame sender h1 payload =
      s.offerNotice { kind := k, sender := sender, dest := h1 % 256, payload := payload } := by
  unfold State.filterFrame
  rw [hk]
  exact (if_pos hlen).trans (if_pos hacc)

theorem filterFrame_of_other {k : Kind} (hk : kindOfCode (h1 / 256) = some k) (hlen : lengthAllowed k payload.length = true)
    (hacc : ¬s.accepts k sender (h1 % 256) = true) : s.filterFrame sender h1 payload = s := by
  unfold State.filterFrame
  rw [hk]
  exact (if_pos hlen).trans (if_neg hacc)

theorem offerNotice_of_room {n : Notice} (h : s.xc.notices.length < 16) :
    s.offerNotice n = { s with xc := { s.xc with notices := s.xc.notices ++ [n] } } := if_pos h

theorem queueLevel_eq (s : State) : ∃ ms, s.queueLevel = { s with xc := { s.xc with normal := ms } } ∧
    (s.il.state = .configured → .level ∈ ms) := by
  unfold State.queueLevel
  by_cases hconf : s.il.state = .configured
  · rw [if_pos (configured_iff.2 hconf)]
    exact ⟨_, rfl, fun _ => mem_placeMsg_self _ _⟩
  · rw [if_neg (mt configured_iff.1 hconf)]
    exact ⟨s.xc.normal, rfl, fun h => absurd h hconf⟩

/-- The state in which the newest notice is lost to another one. -/
def overrunBy (s : State) (n : Notice) : State :=
  { s with xc := { s.xc with notices := s.xc.notices.dropLast ++ [n], overruns := min 4294967295 (s.xc.overruns + 1)
                             overrunLatch := true, lostNotices := true, lostAgain := true } }

theorem offerNotice_of_full {n : Notice} (h : 16 ≤ s.xc.notices.length) :
    s.offerNotice n = if s.xc.lostNotices then s.overrunBy n else (s.overrunBy n).queueLevel := by
  unfold State.offerNotice State.overrunBy
  rw [if_neg (by omega), bump_eq]

/-- What a notice that is lost leaves, with a LEVEL that says so (R110). -/
theorem offerNotice_reads (s : State) (n : Notice) :
    let t := s.offerNotice n
    t = { s with xc := { s.xc with normal := t.xc.normal, notices := t.xc.notices, overruns := t.xc.overruns
                                   overrunLatch := t.xc.overrunLatch, lostNotices := t.xc.lostNotices
                                   lostAgain := t.xc.lostAgain } } ∧
    (s.xc.notices.length < 16 → t.xc.notices = s.xc.notices ++ [n] ∧ t.xc.overruns = s.xc.overruns) ∧
    (s.xc.notices.length = 16 → t.xc.notices = s.xc.notices.dropLast ++ [n] ∧
      t.xc.overruns = min 4294967295 (s.xc.overruns + 1) ∧ t.xc.overrunLatch = true ∧ t.xc.lostNotices = true ∧
      (s.xc.lostNotices = false → s.il.state = .configured → .level ∈ t.xc.normal)) := by
  intro t
  rcases Nat.lt_or_ge s.xc.notices.length 16 with hroom | hfull
  · have ht : t = _ := offerNotice_of_room hroom
    refine ⟨by rw [ht], fun _ => by rw [ht]; exact ⟨rfl, rfl⟩, fun h => by omega⟩
  · obtain ⟨ms, hms, hlevel⟩ := queueLevel_eq (s.overrunBy n)
    have ht : t = _ := offerNotice_of_full hfull
    cases hlost : s.xc.lostNotices with
    | true =>
      rw [hlost, if_pos rfl] at ht
      refine ⟨by rw [ht]; rfl, fun h => by omega, fun _ => ?_⟩
      rw [ht]
      exact ⟨rfl, rfl, rfl, rfl, fun hno => nomatch hno⟩
    | false =>
      rw [hlost, if_neg Bool.false_ne_true, hms] at ht
      refine ⟨by rw [ht]; rfl, fun h => by omega, fun _ => ?_⟩
      rw [ht]
      exact ⟨rfl, rfl, rfl, rfl, fun _ hconf => hlevel hconf⟩

/-! ## A whole frame (R104) -/

/-- What a good frame of the filter leaves. -/
theorem filterFrame_reads {t : State} (ht : s.filterFrame sender h1 payload = t) :
    let known := fun k => kindOfCode (h1 / 256) = some k ∧ lengthAllowed k payload.length = true
    let taken := fun k => known k ∧ s.accepts k sender (h1 % 256) = true
    t = { s with xc := { s.xc with normal := t.xc.normal, notices := t.xc.notices, lineErrors := t.xc.lineErrors
                                   overruns := t.xc.overruns, overrunLatch := t.xc.overrunLatch, lostNotices := t.xc.lostNotices
                                   lostAgain := t.xc.lostAgain } } ∧
    ((∃ k, known k) → t.xc.lineErrors = s.xc.lineErrors) ∧
    ((¬∃ k, known k) → t.xc.lineErrors = min 4294967295 (s.xc.lineErrors + 1)) ∧
    (∀ k, taken k → let n : Notice := { kind := k, sender := sender, dest := h1 % 256, payload := payload }
      (s.xc.notices.length < 16 → t.xc.notices = s.xc.notices ++ [n] ∧ t.xc.overruns = s.xc.overruns) ∧
      (s.xc.notices.length = 16 → t.xc.notices = s.xc.notices.dropLast ++ [n] ∧
        t.xc.overruns = min 4294967295 (s.xc.overruns + 1) ∧ t.xc.overrunLatch = true ∧ t.xc.lostNotices = true ∧
        (s.xc.lostNotices = false → s.il.state = .configured → .level ∈ t.xc.normal))) ∧
    ((∀ k, ¬taken k) → t.xc.notices = s.xc.notices ∧ t.xc.overruns = s.xc.overruns ∧ t.xc.normal = s.xc.normal) := by
  intro known taken
  by_cases hknown : ∃ k, known k
  · obtain ⟨k, hk, hlen⟩ := hknown
    by_cases hacc : s.accepts k sender (h1 % 256) = true
    · have ht : t = s.offerNotice { kind := k, sender := sender, dest := h1 % 256, payload := payload } :=
        ht.symm.trans (filterFrame_of_taken hk hlen hacc)
      obtain ⟨hframe, hoffer⟩ := s.offerNotice_reads { kind := k, sender := sender, dest := h1 % 256, payload := payload }
      rw [← ht] at hframe hoffer
      refine ⟨by rw [hframe], fun _ => by rw [hframe], fun hno => absurd ⟨k, hk, hlen⟩ hno, fun j hj => ?_, fun hno => absurd ⟨⟨hk, hlen⟩, hacc⟩ (hno k)⟩
      cases hk.symm.trans hj.1.1
      exact hoffer
    · have ht : t = s := ht.symm.trans (filterFrame_of_other hk hlen hacc)
      refine ⟨by rw [ht], fun _ => by rw [ht], fun hno => absurd ⟨k, hk, hlen⟩ hno, fun j hj => ?_, fun _ => by rw [ht]; simp⟩
      cases hk.symm.trans hj.1.1
      exact absurd hj.2 hacc
  · have ht : t = s.lineError := ht.symm.trans (filterFrame_of_unknown hknown)
    refine ⟨by rw [ht]; rfl, fun h => absurd h hknown, fun _ => by rw [ht, lineError_eq], fun j hj => absurd ⟨j, hj.1⟩ hknown,
      fun _ => by rw [ht]; exact ⟨rfl, rfl, rfl⟩⟩

end State

theorem kindOfCode_kindCode (k : Kind) : kindOfCode (kindCode k) = some k := by cases k <;> rfl

theorem kindCode_le (k : Kind) : kindCode k ≤ 255 := by cases k <;> decide

/-- What a station drives for a message. -/
theorem frame_words {h : Hand} {j : Nat} (hj : j < 8) (hdest : h.msg.dest < 256) :
    ∃ claim h1 : Word, let words := [claim, h1, BitVec.ofNat 16 h.payload.length] ++ h.payload
      claimOf j h.msg :: h.afterClaim j = words ++ [checkWord words] ∧ claim.toNat % 8 = j ∧
      kindOfCode (h1.toNat / 256) = some h.msg.kind ∧ h1.toNat % 256 = h.msg.dest := by
  have hurgency : h.msg.urgency ≤ 2 := by
    unfold Msg.urgency
    split <;> omega
  have hkind := kindCode_le h.msg.kind
  have hclaim : (claimOf j h.msg).toNat = h.msg.urgency * 8 + j := toNat_word (by omega)
  have hheader : (BitVec.ofNat 16 (kindCode h.msg.kind * 256 + h.msg.dest)).toNat = kindCode h.msg.kind * 256 + h.msg.dest :=
    toNat_word (by omega)
  refine ⟨claimOf j h.msg, BitVec.ofNat 16 (kindCode h.msg.kind * 256 + h.msg.dest), rfl, by omega, ?_, by omega⟩
  rw [hheader, show (kindCode h.msg.kind * 256 + h.msg.dest) / 256 = kindCode h.msg.kind by omega]
  exact kindOfCode_kindCode _

namespace State

variable {s : State}

theorem hear_eq (hload : s.il.state ≠ .loading) (hdrive : s.xc.toDrive = none) (ws : List LineWord) :
    s.hear ws = ws.foldl State.rxWord s := by
  unfold State.hear State.driving
  rw [hdrive, if_neg (by simp), rxWords_of_listening hload]

theorem hear_syncs (hload : s.il.state ≠ .loading) (hdrive : s.xc.toDrive = none) (hrx : s.xc.rx = .searching) (m : Nat) :
    s.hear (List.replicate m .fill ++ [.sync, .sync]) =
      { s with xc := { s.xc with rx := .inFrame [], fillRun := 0, rxOwn := false, ownLast := false } } := by
  rw [hear_eq hload hdrive, List.foldl_append, foldl_fill hrx]
  simp only [List.foldl_cons, List.foldl_nil, State.rxWord, hrx]
  rfl

/-- A whole frame that another station drives: its check decides (R104). -/
theorem hear_whole {words : List Word} (hf : IsFrame words) (hload : s.il.state ≠ .loading) (hdrive : s.xc.toDrive = none)
    (hrx : s.xc.rx = .inFrame []) (hown : s.xc.rxOwn = false) (check : Word) :
    s.hear ((words ++ [check]).map .data) =
      if check = checkWord words then
        ((s.setRx .searching 0).noteDuplicate ((words.getD 0 0).toNat % 8) (words.getD 1 0).toNat).filterFrame
          ((words.getD 0 0).toNat % 8) (words.getD 1 0).toNat (words.drop 3)
      else s.frameFails .searching 0 := by
  have hcomplete : (s.setRx .searching 0).frameComplete words =
      ((s.setRx .searching 0).noteDuplicate ((words.getD 0 0).toNat % 8) (words.getD 1 0).toNat).filterFrame
          ((words.getD 0 0).toNat % 8) (words.getD 1 0).toNat (words.drop 3) := if_neg (by simp [State.setRx, hown])
  rw [hear_eq hload hdrive, rxData_frame hf hrx (ds := words) rfl, hcomplete]

/-- What a good frame leaves, for the station number, the kind and the notice queue (R108 to R110). -/
theorem goodFrame_reads {y t : State} (hnote : (s.setRx .searching 0).noteDuplicate sender h1 = y)
    (ht : y.filterFrame sender h1 payload = t) :
    let dest := h1 % 256
    let self := s.il.station
    let known := fun k => kindOfCode (h1 / 256) = some k ∧ lengthAllowed k payload.length = true
    let toAll := fun k : Kind => (k = .level ∨ k = .address) ∧ dest = 255 ∧ sender ≤ 3 ∧ sender ≠ self
    let fromPeer := fun k : Kind => (k = .borrow ∨ k = .grant ∨ k = .withdraw ∨ k = .ret) ∧ dest = self ∧ sender ≤ 3 ∧ sender ≠ self
    let fetch := fun k : Kind => (k = .billFetch ∨ k = .statusFetch) ∧ dest = self ∧ 4 ≤ sender
    let taken := fun k => known k ∧ (toAll k ∨ fromPeer k ∨ fetch k)
    t = { s with xc := t.xc, tab := t.tab } ∧ t.xc.rx = .searching ∧ t.xc.urgent = s.xc.urgent ∧
      ((∃ k, known k) → t.xc.lineErrors = s.xc.lineErrors) ∧
      ((¬∃ k, known k) → t.xc.lineErrors = min 4294967295 (s.xc.lineErrors + 1)) ∧
      (t.xc.duplicate = true ↔ s.xc.duplicate = true ∨ s.Twin sender h1) ∧
      (¬s.Twin sender h1 → t.xc.hand = s.xc.hand ∧ t.xc.attempts = s.xc.attempts ∧ t.tab = s.tab) ∧
      (∀ h, s.Twin sender h1 → s.xc.hand = some h →
        (h.msg.kind = .status → t.xc.hand = some h ∧ t.tab = s.tab) ∧
        (h.msg.kind ≠ .status → t.xc.hand = none ∧ t.xc.attempts = 0 ∧
          t.tab = if h.msg.kind = .address then s.tab.discarded else s.tab)) ∧
      (∀ k, taken k → let n : Notice := { kind := k, sender := sender, dest := dest, payload := payload }
        (s.xc.notices.length < 16 → t.xc.notices = s.xc.notices ++ [n] ∧ t.xc.overruns = s.xc.overruns) ∧
        (s.xc.notices.length = 16 → t.xc.notices = s.xc.notices.dropLast ++ [n] ∧
          t.xc.overruns = min 4294967295 (s.xc.overruns + 1) ∧ t.xc.overrunLatch = true ∧ t.xc.lostNotices = true ∧
          (s.xc.lostNotices = false → s.il.state = .configured → .level ∈ t.xc.normal))) ∧
      ((∀ k, ¬taken k) → t.xc.notices = s.xc.notices ∧ t.xc.overruns = s.xc.overruns ∧ t.xc.normal = s.xc.normal) := by
  intro dest self known toAll fromPeer fetch taken
  obtain ⟨d, hand, a, tab, hy, hd⟩ := noteDuplicate_eq (s.setRx .searching 0) sender h1
  have hnot := noteDuplicate_of_not_twin (s := s.setRx .searching 0) (sender := sender) (h1 := h1)
  have hstatus := fun x : Hand => noteDuplicate_of_status (s := s.setRx .searching 0) (sender := sender) (h1 := h1) (x := x)
  have hother := fun x : Hand => noteDuplicate_of_other (s := s.setRx .searching 0) (sender := sender) (h1 := h1) (x := x)
  rw [hnote] at hy hnot hstatus hother
  obtain ⟨hframe, hlines, hbump, htaken, hnone⟩ := filterFrame_reads ht
  have hil : y.il = s.il := by rw [hy]; rfl
  have hxc : y.xc.rx = .searching ∧ y.xc.urgent = s.xc.urgent ∧ y.xc.lineErrors = s.xc.lineErrors ∧ y.xc.duplicate = d ∧
      y.xc.notices = s.xc.notices ∧ y.xc.overruns = s.xc.overruns ∧ y.xc.lostNotices = s.xc.lostNotices ∧
      y.xc.normal = s.xc.normal := by rw [hy]; exact ⟨rfl, rfl, rfl, rfl, rfl, rfl, rfl, rfl⟩
  obtain ⟨hrx, hurgent, herrors, hdup, hnotices, hover, hlost, hnormal⟩ := hxc
  have hkept : t.xc.rx = y.xc.rx ∧ t.xc.urgent = y.xc.urgent ∧ t.xc.duplicate = y.xc.duplicate ∧ t.xc.hand = y.xc.hand ∧
      t.xc.attempts = y.xc.attempts ∧ t.tab = y.tab := by rw [hframe]; exact ⟨rfl, rfl, rfl, rfl, rfl, rfl⟩
  obtain ⟨hrx', hurgent', hdup', hhand', hattempts', htab'⟩ := hkept
  have hacc : ∀ k, (y.accepts k sender (h1 % 256) = true) ↔ (toAll k ∨ fromPeer k ∨ fetch k) := fun k => by
    rw [accepts_iff, hil]
  rw [hnotices, hover, hlost, hil] at htaken
  rw [hnotices, hover, hnormal] at hnone
  refine ⟨?_, hrx'.trans hrx, hurgent'.trans hurgent, fun h => (hlines h).trans herrors, fun h => (hbump h).trans (by rw [herrors]),
    by rw [hdup', hdup]; exact hd, fun h => ?_, fun x htwin hh => ⟨fun hk => ?_, fun hk => ?_⟩,
    fun k hk => htaken k ⟨hk.1, (hacc k).2 hk.2⟩, fun h => hnone fun k hk => h k ⟨hk.1, (hacc k).1 hk.2⟩⟩
  · rw [hframe, hy]; rfl
  · rw [hhand', hattempts', htab', hnot h]; exact ⟨rfl, rfl, rfl⟩
  · rw [hhand', htab', hstatus x htwin hh hk]; exact ⟨hh, rfl⟩
  · rw [hhand', hattempts', htab', hother x htwin hh hk]; exact ⟨rfl, rfl, rfl⟩

end State

/-- Settles O44. -/
theorem frameCarriesMessage : Obligations.FrameCarriesMessage := by
  unfold Obligations.FrameCarriesMessage
  refine ⟨fun h j hj hdest _ => frame_words hj hdest, fun s m hload hdrive hrx => ?_, fun s got d hload hdrive hrx => ?_,
    fun s claim h1 check payload hload hdrive hrx hown hlen => ?_⟩
  · rw [exec_eq_next, State.after, State.hear_syncs hload hdrive hrx]
  · have hword : ∀ w, exec (.crosslineFrameReceived [w]) s = .next (s.rxWord w).takeFrame := fun w => by
      rw [exec_eq_next, State.after, State.hear_eq hload hdrive]
      rfl
    have hfails : ∀ r f, s.frameFails r f = { s with xc := { s.xc with
        rxOwn := false, lineErrors := min 4294967295 (s.xc.lineErrors + 1), rx := r, fillRun := f } } := fun r f => by
      unfold State.frameFails
      rw [State.lineError_eq]
      rfl
    have hdata : s.rxWord (.data d) = s.takeFrameWord got d := by
      unfold State.rxWord
      rw [hrx]
    refine ⟨(hword _).trans ?_, (hword _).trans ?_, fun h2 hlong => (hword _).trans ?_⟩
    · rw [show s.rxWord .fill = s.frameFails .searching (s.xc.fillRun + 1) by unfold State.rxWord; rw [hrx], hfails]
    · rw [show s.rxWord .sync = (s.frameFails .oneSync 0).firstSync by unfold State.rxWord; rw [hrx], hfails]
      rfl
    · rw [hdata, ← hfails]
      exact congrArg (fun z : State => Host.Outcome.next z.takeFrame) (if_pos ⟨by simp [h2], hlong⟩)
  · intro words good sender dest self known toAll fromPeer fetch taken twin
    have hrun : exec (.crosslineFrameReceived ((words ++ [check]).map .data)) s = .next (s.hear ((words ++ [check]).map .data)).takeFrame :=
      exec_eq_next ..
    have hwhole := State.hear_whole (isFrame_words claim h1 hlen) hload hdrive hrx hown check
    by_cases hgood : good
    · have ht := hwhole.trans (if_pos hgood)
      obtain ⟨hframe, hrx', hurgent, hlines, hbump, hdup, hnot, htwin, htaken, hnone⟩ :=
        State.goodFrame_reads (s := s) (sender := sender) (h1 := h1.toNat) (payload := payload) rfl rfl
      refine ⟨_, hrun.trans (congrArg (fun z : State => Host.Outcome.next z.takeFrame) ht), hframe, hrx', hurgent, fun h => hlines h.2, fun h => hbump fun hk => h ⟨hgood, hk⟩,
        hdup.trans ?_, fun h => hnot fun ht => h ⟨hgood, ht⟩, fun x h => htwin x h.2, fun k hk => htaken k hk.2,
        fun h => hnone fun k hk => h k ⟨hgood, hk⟩⟩
      exact or_congr_right ⟨fun h => ⟨hgood, h⟩, And.right⟩
    · have ht := hwhole.trans (if_neg hgood)
      refine ⟨_, hrun.trans (congrArg (fun z : State => Host.Outcome.next z.takeFrame) ht), rfl, rfl, rfl, fun h => absurd h.1 hgood, fun _ => ?_, ⟨.inl, fun h => h.resolve_right fun h => hgood h.1⟩,
        fun _ => ⟨rfl, rfl, rfl⟩, fun _ h => absurd h.1 hgood, fun _ h => absurd h.1 hgood, fun _ => ⟨rfl, rfl, rfl⟩⟩
      exact bump_eq _

end Sys2Proof.Machine
end

section
/-! The taking of a frame in hand (O45): the order of the queues, and the ways that ADDRESS content takes (R29, R108, R113). -/

namespace Sys2Proof.Machine

open Sys2Proof.Config

/-! ## The search from the build position (R29) -/

/-- The numbers below n, from b round to b. -/
theorem range_rotate {n b : Nat} (hb : b < n) : (List.range n).map (fun i => (b + i) % n) =
    (List.range n).filter (fun i => decide (b ≤ i)) ++ (List.range n).filter (fun i => decide (i < b)) := by
  have hsplit : List.range n = List.range b ++ (List.range (n - b)).map (b + ·) := by
    rw [← List.range_add, Nat.add_sub_cancel' (Nat.le_of_lt hb)]
  have hrotate : List.range n = List.range (n - b) ++ (List.range b).map (n - b + ·) := by
    rw [← List.range_add, Nat.sub_add_cancel (Nat.le_of_lt hb)]
  have hhigh : (List.range n).filter (fun i => decide (b ≤ i)) = (List.range (n - b)).map (b + ·) := by
    rw [hsplit, List.filter_append, List.filter_eq_nil_iff.2 (by simp), List.filter_eq_self.2 (by simp), List.nil_append]
  have hlow : (List.range n).filter (fun i => decide (i < b)) = List.range b := by
    rw [hsplit, List.filter_append, List.filter_eq_self.2 (by simp), List.filter_eq_nil_iff.2 (by simp), List.append_nil]
  rw [hhigh, hlow]
  conv_lhs => rw [hrotate]
  rw [List.map_append, List.map_map]
  congr 1
  · refine List.map_congr_left fun i hi => Nat.mod_eq_of_lt ?_
    have := List.mem_range.1 hi
    omega
  · conv_rhs => rw [← List.map_id (List.range b)]
    refine List.map_congr_left fun i hi => ?_
    have := List.mem_range.1 hi
    change (b + (n - b + i)) % n = i
    rw [show b + (n - b + i) = i + n by omega, Nat.add_mod_right, Nat.mod_eq_of_lt (by omega)]

variable {α : Type}

/-- The keys of the entries that pass a test, as a search of all numbers finds them. -/
theorem keys_filter {t : Tab α} (hw : Tab.wf t = true) {n : Nat} (hn : ∀ e ∈ t, e.1 < n) (p : α → Bool) :
    (t.filter (fun e => p e.2)).map Prod.fst = (List.range n).filter (fun i => (Tab.find? t i).any p) := by
  have hsorted := (Tab.wf_iff t).1 hw
  refine List.Pairwise.eq_of_mem_iff (r := (· < ·)) ?_ ?_ fun i => ?_
  · exact List.pairwise_map.2 (hsorted.filter _)
  · exact List.pairwise_lt_range.filter _
  · simp only [List.mem_map, List.mem_filter, List.mem_range]
    constructor
    · rintro ⟨e, ⟨he, hp⟩, rfl⟩
      exact ⟨hn e he, by rw [Tab.find?_of_mem hw he]; exact hp⟩
    · rintro ⟨-, hany⟩
      cases hv : Tab.find? t i with
      | none => rw [hv] at hany; exact nomatch hany
      | some v =>
        rw [hv] at hany
        exact ⟨(i, v), ⟨Tab.mem_of_find? hv, hany⟩, rfl⟩

namespace AddressTable

variable {x : AddressTable}

/-- The ways taken are the first twelve PENDING ones of the search. -/
theorem keys_taken (hw : Tab.wf x.ways = true) {n : Nat} (hn : ∀ e ∈ x.ways, e.1 < n) (hb : x.build < n) :
    x.taken.map Prod.fst = (((List.range n).map (fun i => (x.build + i) % n)).filter
      (fun i => (Tab.find? x.ways i).map Entry.mark == some .pending)).take 12 := by
  have hpending : (fun i => (Tab.find? x.ways i).map Entry.mark == some .pending) =
      fun i => (Tab.find? x.ways i).any (fun e => e.mark == .pending) := funext fun i => by
    cases Tab.find? x.ways i <;> rfl
  have hhalf : ∀ q : Nat → Bool, ((x.ways.filter (fun e => q e.1)).filter (fun e => e.2.mark == .pending)).map Prod.fst =
      ((List.range n).filter q).filter (fun i => (Tab.find? x.ways i).any (fun e => e.mark == .pending)) := fun q => by
    rw [List.filter_comm, List.filter_comm _ _ (List.range n), ← keys_filter hw hn, List.filter_map]
    rfl
  unfold AddressTable.taken
  rw [hpending, range_rotate hb, List.map_take, List.filter_append, List.filter_append, List.map_append]
  rw [hhalf (fun i => decide (x.build ≤ i)), hhalf (fun i => decide (i < x.build))]

theorem find?_of_taken (hw : Tab.wf x.ways = true) {e : Nat × Entry} (he : e ∈ x.taken) : Tab.find? x.ways e.1 = some e.2 :=
  Tab.find?_of_mem hw (Sound.mem_taken he)

/-- The announcements of the ways taken, read way by way. -/
theorem announcements_taken (hw : Tab.wf x.ways = true) : x.taken.map (fun e => e.2.announcement) =
    (x.taken.map Prod.fst).filterMap (fun i => (Tab.find? x.ways i).map Entry.announcement) := by
  rw [List.filterMap_map]
  have hread : ∀ es : Tab Entry, (∀ e ∈ es, Tab.find? x.ways e.1 = some e.2) →
      es.map (fun e => e.2.announcement) = List.filterMap ((fun i => (Tab.find? x.ways i).map Entry.announcement) ∘ Prod.fst) es := by
    intro es
    induction es with
    | nil => exact fun _ => rfl
    | cons e es ih =>
      intro hes
      rw [List.map_cons, ih fun f hf => hes f (List.mem_cons_of_mem _ hf), List.filterMap_cons]
      simp only [Function.comp_apply, hes e List.mem_cons_self, Option.map_some]
  exact hread _ fun e he => find?_of_taken hw he

/-- The ways with those taken IN-FRAME. -/
def marked (x : AddressTable) : Tab Entry := x.taken.foldl (fun t e => Tab.put t e.1 (e.2.setMark .inFrame)) x.ways

/-- A run of puts over entries of a table: each of their keys reads the new entry. -/
theorem find?_putAll (g : Entry → Entry) (t : Tab Entry) : ∀ (es ws : Tab Entry), (∀ e ∈ es, Tab.find? t e.1 = some e.2) →
    (∀ i, Tab.find? ws i = Tab.find? t i ∨ Tab.find? ws i = (Tab.find? t i).map g) → ∀ i,
    (i ∈ es.map Prod.fst → Tab.find? (es.foldl (fun t e => Tab.put t e.1 (g e.2)) ws) i = (Tab.find? t i).map g) ∧
    (i ∉ es.map Prod.fst → Tab.find? (es.foldl (fun t e => Tab.put t e.1 (g e.2)) ws) i = Tab.find? ws i) := by
  intro es
  induction es with
  | nil => exact fun _ _ _ _ => ⟨fun h => absurd h List.not_mem_nil, fun _ => rfl⟩
  | cons e es ih =>
    intro ws hes hws i
    have hput : ∀ j, Tab.find? (Tab.put ws e.1 (g e.2)) j = if j = e.1 then some (g e.2) else Tab.find? ws j :=
      fun j => Tab.find?_put ..
    obtain ⟨hin, hout⟩ := ih (Tab.put ws e.1 (g e.2)) (fun f hf => hes f (List.mem_cons_of_mem _ hf)) (fun j => by
      rw [hput]
      split
      · next hj => exact .inr (by rw [hj, hes e List.mem_cons_self]; rfl)
      · exact hws j) i
    rw [List.map_cons, List.foldl_cons]
    by_cases hrest : i ∈ es.map Prod.fst
    · exact ⟨fun _ => hin hrest, fun h => absurd (List.mem_cons_of_mem _ hrest) h⟩
    · rw [hout hrest, hput]
      refine ⟨fun h => ?_, fun h => if_neg fun hi => h (List.mem_cons.2 (.inl hi))⟩
      have hi : i = e.1 := (List.mem_cons.1 h).resolve_right hrest
      rw [if_pos hi, hi, hes e List.mem_cons_self]
      rfl

end AddressTable

namespace State

variable {s : State}

/-! ## The taking -/

theorem takeFirst_none {ms : List Msg} {p : Msg → Bool} (h : ∀ m ∈ ms, p m = false) : takeFirst p ms = none := by
  induction ms with
  | nil => rfl
  | cons m ms ih =>
    unfold takeFirst
    rw [h m List.mem_cons_self, ih fun n hn => h n (List.mem_cons_of_mem _ hn)]
    rfl

theorem takeFirst_append {before after : List Msg} {m : Msg} {p : Msg → Bool} (hm : p m = true) (h : ∀ x ∈ before, p x = false) :
    takeFirst p (before ++ m :: after) = some (m, before ++ after) := by
  induction before with
  | nil => exact if_pos hm
  | cons n ns ih =>
    rw [List.cons_append, takeFirst, h n List.mem_cons_self, ih fun x hx => h x (List.mem_cons_of_mem _ hx)]
    rfl

section takeFrame

variable (hhand : s.xc.hand = none) (hload : s.il.state ≠ .loading)
include hhand hload

theorem takeFrame_of_silenced (hdup : s.xc.duplicate = true) : s.takeFrame =
    match takeFirst Msg.isStatus s.xc.normal with
    | some (m, rest) => { s with xc := { s.xc with normal := rest } }.inHand m
    | none => s := (if_neg (by simp [hhand, hload])).trans (if_pos hdup)

theorem takeFrame_of_urgent {m : Msg} {rest : List Msg} (hdup : s.xc.duplicate = false) (h : s.xc.urgent = m :: rest) :
    s.takeFrame = { s with xc := { s.xc with urgent := rest } }.inHand m := by
  refine (if_neg (by simp [hhand, hload])).trans ((if_neg (by simp [hdup])).trans ?_)
  rw [h]

theorem takeFrame_of_normal {m : Msg} {rest : List Msg} (hdup : s.xc.duplicate = false) (hu : s.xc.urgent = [])
    (h : s.xc.normal = m :: rest) : s.takeFrame = { s with xc := { s.xc with normal := rest } }.inHand m := by
  refine (if_neg (by simp [hhand, hload])).trans ((if_neg (by simp [hdup])).trans ?_)
  rw [hu]
  dsimp only
  rw [h]

theorem takeFrame_of_empty (hdup : s.xc.duplicate = false) (hu : s.xc.urgent = []) (hn : s.xc.normal = []) :
    s.takeFrame = if s.configured then s.askAddress else s := by
  refine (if_neg (by simp [hhand, hload])).trans ((if_neg (by simp [hdup])).trans ?_)
  rw [hu]
  dsimp only
  rw [hn]

end takeFrame

theorem askAddress_of_none (h : s.tab.buildContent = none) : s.askAddress = s := by
  unfold State.askAddress
  rw [h]

end State

theorem buildContent_of_outstanding {x : AddressTable} (h : x.outstanding = true) : x.buildContent = none := if_pos h

theorem buildContent_of_none {x : AddressTable} (h : x.taken = []) : x.buildContent = none := by
  unfold AddressTable.buildContent
  rw [h]
  split <;> rfl

theorem buildContent_of_last {x : AddressTable} {l : Nat × Entry} (hout : x.outstanding = false) (h : x.taken.getLast? = some l) :
    x.buildContent = some (x.taken.map (fun e => e.2.announcement),
      { x with ways := x.marked
               build := (l.1 + 1) % 8192, outstanding := true }) := by
  refine (if_neg (by simp [hout])).trans ?_
  rw [h]
  rfl

/-- Settles O45. -/
theorem transmitterTakesInOrder : Obligations.TransmitterTakesInOrder := by
  unfold Obligations.TransmitterTakesInOrder
  intro s takes
  refine ⟨fun h => ?_, fun hhand hload hdup => ⟨fun hno => ?_, fun before m after hq hm hbefore => ?_⟩, fun hhand hload hdup =>
    ⟨fun m rest hu => State.takeFrame_of_urgent hhand hload hdup hu, fun m rest hu hn => State.takeFrame_of_normal hhand hload hdup hu hn,
      fun hu hn hidle => ?_, fun hu hn hconf hout hw hkeys hb => ?_⟩⟩
  · refine if_pos (h.imp_left fun hne => ?_)
    rwa [Option.isSome_iff_ne_none]
  · rw [State.takeFrame_of_silenced hhand hload hdup, State.takeFirst_none fun m hm => by simp [Msg.isStatus, hno m hm]]
  · change s.takeFrame = _
    rw [State.takeFrame_of_silenced hhand hload hdup, hq, State.takeFirst_append (by simp [Msg.isStatus, hm])
      fun x hx => by simp [Msg.isStatus, hbefore x hx]]
    rfl
  · rw [State.takeFrame_of_empty hhand hload hdup hu hn]
    obtain hout | hun := hidle
    · rw [State.askAddress_of_none (buildContent_of_outstanding hout), ite_self]
    · exact if_neg (by simp [State.configured, hun])
  · intro pending taken
    have htaken : s.tab.taken.map Prod.fst = taken := AddressTable.keys_taken hw hkeys hb
    have hask : s.takeFrame = s.askAddress :=
      (State.takeFrame_of_empty hhand hload hdup hu hn).trans (if_pos (State.configured_iff.2 hconf))
    refine ⟨fun hnone => ?_, fun last hlast => ?_⟩
    · rw [hask, State.askAddress_of_none (buildContent_of_none (List.map_eq_nil_iff.1 (htaken.trans hnone)))]
    · rw [← htaken, List.getLast?_map] at hlast
      obtain ⟨l, hl, rfl⟩ := Option.map_eq_some_iff.1 hlast
      have hrun : s.takeFrame = { s with tab := { s.tab with
          ways := s.tab.marked, build := (l.1 + 1) % 8192, outstanding := true } }.inHand
            (.address (s.tab.taken.map (fun e : Nat × Entry => e.2.announcement))) := by
        rw [hask, State.askAddress, buildContent_of_last hout hl]
      have hreads := AddressTable.find?_putAll (fun e => e.setMark .inFrame) s.tab.ways s.tab.taken s.tab.ways
        (fun e he => AddressTable.find?_of_taken hw he) (fun _ => .inl rfl)
      rw [AddressTable.announcements_taken hw] at hrun
      rw [← htaken, hrun]
      exact ⟨rfl, fun i hi => (hreads i).1 hi, fun i hi => (hreads i).2 hi⟩

end Sys2Proof.Machine
end

section
/-! Learning, announcements, messages and the scan at the Address Table (O27 to O29). -/

namespace Sys2Proof

/-- Replacing every value of a table, whatever its order. -/
theorem Tab.find?_mapValues {α : Type} (f : Nat → α → α) (t : Tab α) (k : Nat) :
    Tab.find? (Tab.filterMap (fun i e => some (f i e)) t) k = (Tab.find? t k).map (f k) := by
  induction t with
  | nil => rfl
  | cons e t ih =>
    change (if e.1 = k then some (f e.1 e.2) else Tab.find? (Tab.filterMap (fun i e => some (f i e)) t) k) =
      (if e.1 = k then some e.2 else Tab.find? t k).map (f k)
    split
    · next he => rw [he]; rfl
    · exact ih

end Sys2Proof

namespace Sys2Proof.Machine

open Sys2Proof.Config

/-! ## Searching the ways of a bucket -/

/-- In a rising list the first number that passes a test is the least one. -/
theorem find?_of_least {l : List Nat} (hl : l.Pairwise (· < ·)) {q : Nat → Bool} {i : Nat} (hi : i ∈ l) (hq : q i = true)
    (hleast : ∀ j ∈ l, q j = true → i ≤ j) : l.find? q = some i := by
  induction l with
  | nil => exact absurd hi List.not_mem_nil
  | cons j l ih =>
    obtain ⟨hj, hl⟩ := List.pairwise_cons.1 hl
    rw [List.find?_cons]
    obtain rfl | hi := List.mem_cons.1 hi
    · rw [hq]
    · cases hqj : q j with
      | true => exact absurd (hleast j List.mem_cons_self hqj) (Nat.not_le_of_lt (hj i hi))
      | false => exact ih hl hi fun k hk => hleast k (List.mem_cons_of_mem _ hk)

theorem pairwise_waysOf (b : Nat) : (waysOf b).Pairwise (· < ·) := by
  simp [waysOf]

namespace AddressTable

variable {x : AddressTable} {t b i : Nat} {a : Addr} {e f : Entry}

/-- What a way says of a key. -/
def keyAt (x : AddressTable) (t : Nat) (a : Addr) (i : Nat) : Option (Nat × Entry) :=
  match Tab.find? x.ways i with
  | some e => if e.hasKey t a then some (i, e) else none
  | none => none

theorem findKey_eq (x : AddressTable) (t : Nat) (a : Addr) : x.findKey t a = (waysOf (bucketOf t a)).findSome? (x.keyAt t a) := by
  unfold AddressTable.findKey
  congr 1

theorem find?_setWay (x : AddressTable) (i : Nat) (f : Entry) (j : Nat) :
    Tab.find? (x.setWay i f).ways j = if j = i then some f else Tab.find? x.ways j := Tab.find?_put ..

theorem keyAt_setWay_self (hf : f.hasKey t a = true) : (x.setWay i f).keyAt t a i = some (i, f) := by
  unfold AddressTable.keyAt
  rw [find?_setWay, if_pos rfl]
  exact if_pos hf

theorem keyAt_setWay_ne {j : Nat} (hj : j ≠ i) : (x.setWay i f).keyAt t a j = x.keyAt t a j := by
  unfold AddressTable.keyAt
  rw [find?_setWay, if_neg hj]

/-- A key is found in the way it was written to, where no way before that has it. -/
theorem findKey_setWay {before after : List Nat} (hways : waysOf (bucketOf t a) = before ++ i :: after)
    (hbefore : ∀ j ∈ before, x.keyAt t a j = none) (hf : f.hasKey t a = true) : (x.setWay i f).findKey t a = some (i, f) := by
  rw [findKey_eq]
  refine List.findSome?_eq_some_iff.2 ⟨before, i, after, hways, keyAt_setWay_self hf, fun j hj => ?_⟩
  have hrising := pairwise_waysOf (bucketOf t a)
  rw [hways] at hrising
  have hlt := (List.pairwise_append.1 hrising).2.2 j hj i List.mem_cons_self
  rw [keyAt_setWay_ne (Nat.ne_of_lt hlt), hbefore j hj]

theorem findKey_setWay_found (h : x.findKey t a = some (i, e)) (hf : f.hasKey t a = true) :
    (x.setWay i f).findKey t a = some (i, f) := by
  rw [findKey_eq] at h
  obtain ⟨before, j, after, hways, hfound, hbefore⟩ := List.findSome?_eq_some_iff.1 h
  have hj : j = i := by
    unfold AddressTable.keyAt at hfound
    split at hfound
    · split at hfound
      · exact congrArg Prod.fst (Option.some.inj hfound)
      · exact nomatch hfound
    · exact nomatch hfound
  exact findKey_setWay (hj ▸ hways) hbefore hf

theorem findKey_setWay_new (h : x.findKey t a = none) (hi : i ∈ waysOf (bucketOf t a)) (hf : f.hasKey t a = true) :
    (x.setWay i f).findKey t a = some (i, f) := by
  rw [findKey_eq] at h
  obtain ⟨before, after, hways⟩ := List.append_of_mem hi
  exact findKey_setWay hways (fun j hj => List.findSome?_eq_none_iff.1 h j (by rw [hways]; exact List.mem_append_left _ hj)) hf

theorem lookup_of_findKey {p g : Nat} {m : Mark} (ha : isGroup a = false) (h : x.findKey t a = some (i, e)) (he : e.place = .atPort p g m) :
    x.lookup t a = .localAt p := by
  unfold AddressTable.lookup
  rw [if_neg (by simp [ha]), h]
  dsimp only
  rw [he]

/-! ## The way a new entry takes (R21) -/

theorem freeIn_of_least (hi : i ∈ waysOf b) (hfree : Tab.find? x.ways i = none)
    (hleast : ∀ j ∈ waysOf b, Tab.find? x.ways j = none → i ≤ j) : x.freeIn b = some i :=
  find?_of_least (pairwise_waysOf b) hi (by simp [Tab.has, hfree]) fun j hj hq => hleast j hj (by simpa [Tab.has] using hq)

theorem freeIn_none (h : ∀ j ∈ waysOf b, Tab.find? x.ways j ≠ none) : x.freeIn b = none :=
  List.find?_eq_none.2 fun j hj => by
    have := h j hj
    simpa [Tab.has, Option.isSome_iff_ne_none] using this

/-- Does the entry of a way pass a test? -/
def Holds (x : AddressTable) (p : Entry → Bool) (i : Nat) : Prop := ∃ e, Tab.find? x.ways i = some e ∧ p e = true

theorem holds_iff {p : Entry → Bool} : (match Tab.find? x.ways i with
    | some e => p e
    | none => false) = true ↔ x.Holds p i := by
  unfold Holds
  cases Tab.find? x.ways i <;> simp

theorem firstIn_of_least {p : Entry → Bool} (hi : i ∈ waysOf b) (hp : x.Holds p i) (hleast : ∀ j ∈ waysOf b, x.Holds p j → i ≤ j) :
    x.firstIn b p = some i :=
  find?_of_least (pairwise_waysOf b) hi (holds_iff.2 hp) fun j hj hq => hleast j hj (holds_iff.1 hq)

theorem firstIn_none {p : Entry → Bool} (h : ∀ j ∈ waysOf b, ¬x.Holds p j) : x.firstIn b p = none :=
  List.find?_eq_none.2 fun j hj hq => h j hj (holds_iff.1 hq)

theorem holds_announced : x.Holds Entry.isAnnounced i ↔ ∃ e, Tab.find? x.ways i = some e ∧ ∃ k, e.place = .atPeer k := by
  have hannounced : ∀ e : Entry, e.isAnnounced = true ↔ ∃ k, e.place = .atPeer k := fun e => by
    unfold Entry.isAnnounced
    cases e.place <;> simp
  simp only [Holds, hannounced]

theorem holds_retired : x.Holds Entry.isRetired i ↔ ∃ e, Tab.find? x.ways i = some e ∧ ∃ m, e.place = .retired m := by
  have hretired : ∀ e : Entry, e.isRetired = true ↔ ∃ m, e.place = .retired m := fun e => by
    unfold Entry.isRetired
    cases e.place <;> simp
  simp only [Holds, hretired]

/-- The age of the LOCAL entry of a way. -/
def Aged (x : AddressTable) (i g : Nat) : Prop := ∃ e, Tab.find? x.ways i = some e ∧ ∃ q m, e.place = .atPort q g m

theorem age?_eq_some {g : Nat} : e.age? = some g ↔ ∃ q m, e.place = .atPort q g m := by
  unfold Entry.age?
  cases e.place <;> simp

theorem holds_age {g : Nat} : x.Holds (fun e => e.age? == some g) i ↔ x.Aged i g := by
  simp only [Holds, Aged, beq_iff_eq, age?_eq_some]

/-- The age of the LOCAL entry of a way, 0 if there is none. -/
def ageAt (x : AddressTable) (i : Nat) : Nat := ((Tab.find? x.ways i).bind Entry.age?).getD 0

theorem ageAt_of_aged {g : Nat} (h : x.Aged i g) : x.ageAt i = g := by
  obtain ⟨e, he, hplace⟩ := h
  unfold ageAt
  rw [he]
  change (e.age?).getD 0 = g
  rw [age?_eq_some.2 hplace]
  rfl

theorem aged_ageAt (h : x.ageAt i ≠ 0) : x.Aged i (x.ageAt i) := by
  unfold ageAt at h ⊢
  cases he : Tab.find? x.ways i with
  | none => rw [he] at h; exact absurd rfl h
  | some e =>
    rw [he] at h
    change e.age?.getD 0 ≠ 0 at h
    change x.Aged i (e.age?.getD 0)
    cases hage : e.age? with
    | none => rw [hage] at h; exact absurd rfl h
    | some g => exact ⟨e, he, age?_eq_some.1 hage⟩

theorem oldestAge_eq (x : AddressTable) (b : Nat) : x.oldestAge b =
    max (max (max (x.ageAt (4 * b)) (x.ageAt (4 * b + 1))) (x.ageAt (4 * b + 2))) (x.ageAt (4 * b + 3)) := by
  unfold AddressTable.oldestAge waysOf
  simp only [List.map_cons, List.map_nil, List.foldl_cons, List.foldl_nil, Nat.zero_max]
  rfl

theorem oldestAge_of_greatest {g : Nat} (hi : i ∈ waysOf b) (hg : x.ageAt i = g) (hle : ∀ j ∈ waysOf b, x.ageAt j ≤ g) :
    x.oldestAge b = g := by
  have h0 := hle (4 * b) (by simp [waysOf])
  have h1 := hle (4 * b + 1) (by simp [waysOf])
  have h2 := hle (4 * b + 2) (by simp [waysOf])
  have h3 := hle (4 * b + 3) (by simp [waysOf])
  rw [oldestAge_eq]
  simp only [waysOf, List.mem_cons, List.not_mem_nil, or_false] at hi
  obtain rfl | rfl | rfl | rfl := hi <;> omega

theorem oldLocal_of_aged {g : Nat} (hi : i ∈ waysOf b) (hold : 2 ≤ g) (haged : x.Aged i g)
    (hfirst : ∀ j ∈ waysOf b, ∀ h, x.Aged j h → h < g ∨ (h = g ∧ i ≤ j)) : x.oldLocal b = some i := by
  have holdest : x.oldestAge b = g := oldestAge_of_greatest hi (ageAt_of_aged haged) fun j hj => by
    by_cases hzero : x.ageAt j = 0
    · omega
    · have := hfirst j hj _ (aged_ageAt hzero)
      omega
  unfold AddressTable.oldLocal
  rw [holdest, if_pos hold]
  refine firstIn_of_least hi (holds_age.2 haged) fun j hj hp => ?_
  have := hfirst j hj g (holds_age.1 hp)
  omega

theorem oldLocal_of_young (h : ∀ j ∈ waysOf b, ∀ g, x.Aged j g → g < 2) : x.oldLocal b = none := by
  have hyoung : ∀ j ∈ waysOf b, x.ageAt j < 2 := fun j hj => by
    by_cases hzero : x.ageAt j = 0
    · omega
    · exact h j hj _ (aged_ageAt hzero)
  have h0 := hyoung (4 * b) (by simp [waysOf])
  have h1 := hyoung (4 * b + 1) (by simp [waysOf])
  have h2 := hyoung (4 * b + 2) (by simp [waysOf])
  have h3 := hyoung (4 * b + 3) (by simp [waysOf])
  refine if_neg ?_
  rw [oldestAge_eq]
  omega

/-! ## Learning (R20, R21) -/

theorem learn_of_same {p g : Nat} {m : Mark} (h : x.findKey t a = some (i, e)) (he : e.place = .atPort p g m) :
    x.learn t a p = x.setWay i { e with place := .atPort p 0 m } := by
  unfold AddressTable.learn
  rw [h]
  dsimp only
  rw [he]
  exact if_pos rfl

theorem learn_of_other {p : Nat} (h : x.findKey t a = some (i, e)) (he : ∀ g m, e.place ≠ .atPort p g m) :
    x.learn t a p = x.setWay i { e with moves := (e.moves + 1) % 16, place := .atPort p 0 .pending } := by
  unfold AddressTable.learn
  rw [h]
  dsimp only
  split
  · next q g m hplace => exact if_neg fun hqp => he g m (by rw [hplace, hqp])
  · rfl
  · rfl

theorem learn_of_new {p : Nat} (h : x.findKey t a = none) (hi : x.victim (bucketOf t a) = some i) :
    x.learn t a p = x.setWay i { tenant := t, addr := a, moves := 0, place := .atPort p 0 .pending } := by
  unfold AddressTable.learn
  rw [h]
  dsimp only
  rw [hi]

theorem learn_of_full {p : Nat} (h : x.findKey t a = none) (hnone : x.victim (bucketOf t a) = none) :
    x.learn t a p = { x with skipped := min 4294967295 (x.skipped + 1) } := by
  unfold AddressTable.learn
  rw [h]
  dsimp only
  rw [hnone, ← bump_eq]
  rfl

end AddressTable

/-- Settles O27. -/
theorem learnedIsFound : Obligations.LearnedIsFound := by
  unfold Obligations.LearnedIsFound
  intro x n p a ha b ways free announced aged retired first noFree noneAnnounced allYoung takes
  have hself : ∀ {e : Entry} {i moves : Nat} {place : Place}, x.findKey n a = some (i, e) →
      Entry.hasKey { e with moves := moves, place := place } n a = true := fun h =>
    (Entry.hasKey_iff ..).2 ⟨(AddressTable.find?_of_findKey h).2.1, (AddressTable.find?_of_findKey h).2.2.1⟩
  have hnew : Entry.hasKey { tenant := n, addr := a, moves := 0, place := .atPort p 0 .pending } n a = true :=
    (Entry.hasKey_iff ..).2 ⟨rfl, rfl⟩
  have hvictim : ∀ i ∈ ways, takes i → x.victim b = some i := fun i hi htakes => by
    unfold AddressTable.victim
    rcases htakes with ⟨hfree, hleast⟩ | ⟨hfull, hann, hleast⟩ | ⟨hfull, hnone, g, hold, haged, hfirst⟩ | ⟨hfull, hnone, hyoung, hret, hleast⟩
    · rw [AddressTable.freeIn_of_least hi hfree hleast]; rfl
    · rw [AddressTable.freeIn_none hfull, AddressTable.firstIn_of_least hi (AddressTable.holds_announced.2 hann) fun j hj hp =>
        hleast j hj (AddressTable.holds_announced.1 hp)]
      rfl
    · rw [AddressTable.freeIn_none hfull, AddressTable.firstIn_none fun j hj hp => hnone j hj (AddressTable.holds_announced.1 hp),
        AddressTable.oldLocal_of_aged hi hold haged hfirst]
      rfl
    · rw [AddressTable.freeIn_none hfull, AddressTable.firstIn_none fun j hj hp => hnone j hj (AddressTable.holds_announced.1 hp),
        AddressTable.oldLocal_of_young hyoung, AddressTable.firstIn_of_least hi (AddressTable.holds_retired.2 hret) fun j hj hp =>
          hleast j hj (AddressTable.holds_retired.1 hp)]
      rfl
  refine ⟨?_, fun i e h => ?_, fun i hi hnone htakes => ?_, fun hnone hfull hann hyoung hret => ?_⟩
  · have hset : ∀ i f, ∃ k, ∀ j, j ≠ k → Tab.find? (x.setWay i f).ways j = Tab.find? x.ways j := fun i f =>
      ⟨i, fun j hj => (AddressTable.find?_setWay x i f j).trans (if_neg hj)⟩
    cases hfound : x.findKey n a with
    | some r =>
      by_cases hplace : ∃ g m, r.2.place = .atPort p g m
      · obtain ⟨g, m, hplace⟩ := hplace
        rw [AddressTable.learn_of_same hfound hplace]
        exact hset _ _
      · rw [AddressTable.learn_of_other hfound fun g m hg => hplace ⟨g, m, hg⟩]
        exact hset _ _
    | none =>
      cases hv : x.victim b with
      | some i =>
        rw [AddressTable.learn_of_new hfound hv]
        exact hset _ _
      | none =>
        rw [AddressTable.learn_of_full hfound hv]
        exact ⟨0, fun _ _ => rfl⟩
  · by_cases hplace : ∃ g m, e.place = .atPort p g m
    · obtain ⟨g, m, hplace⟩ := hplace
      rw [AddressTable.learn_of_same h hplace]
      refine ⟨AddressTable.lookup_of_findKey ha (AddressTable.findKey_setWay_found h (hself h)) rfl, fun g' m' hg => ?_,
        fun hno => absurd hplace (hno g m)⟩
      cases hplace.symm.trans hg
      rw [AddressTable.find?_setWay, if_pos rfl]
    · have hother : ∀ g m, e.place ≠ .atPort p g m := fun g m hg => hplace ⟨g, m, hg⟩
      rw [AddressTable.learn_of_other h hother]
      refine ⟨AddressTable.lookup_of_findKey ha (AddressTable.findKey_setWay_found h (hself h)) rfl,
        fun g m hg => absurd hg (hother g m), fun _ => ?_⟩
      rw [AddressTable.find?_setWay, if_pos rfl]
  · rw [AddressTable.learn_of_new hnone (hvictim i hi htakes)]
    exact ⟨AddressTable.lookup_of_findKey ha (AddressTable.findKey_setWay_new hnone hi hnew) rfl,
      by rw [AddressTable.find?_setWay, if_pos rfl]⟩
  · refine AddressTable.learn_of_full hnone ?_
    unfold AddressTable.victim
    rw [AddressTable.freeIn_none hfull, AddressTable.firstIn_none fun j hj hp => hann j hj (AddressTable.holds_announced.1 hp),
      AddressTable.oldLocal_of_young hyoung, AddressTable.firstIn_none fun j hj hp => hret j hj (AddressTable.holds_retired.1 hp)]
    rfl

/-! ## Announcements (R27, R28) -/

namespace AddressTable

variable {x : AddressTable} {self k i : Nat} {m : AddressEntry} {e : Entry}

theorem find?_freeWay (x : AddressTable) (i j : Nat) :
    Tab.find? (x.freeWay i).ways j = if j = i then none else Tab.find? x.ways j := Tab.find?_drop ..

theorem apply_of_disregarded (h : m.tenant = 0 ∨ isGroup m.addr = true) : AddressTable.apply self k x m = x := if_pos h

section apply

variable (htenant : m.tenant ≠ 0) (hgroup : isGroup m.addr = false)
include htenant hgroup

theorem apply_of_found (h : x.findKey m.tenant m.addr = some (i, e)) : AddressTable.apply self k x m =
    if m.forget then
      match e.place with
      | .atPeer j => if j = k then x.freeWay i else x
      | .atPort _ _ _ => x
      | .retired _ => x
    else match e.place with
      | .atPeer _ => x.setWay i { e with moves := m.moves, place := .atPeer k }
      | .retired _ => x.setWay i { e with moves := m.moves, place := .atPeer k }
      | .atPort q a _ =>
        if announceWins self k m.moves e.moves then x.setWay i { e with moves := m.moves, place := .atPeer k }
        else x.setWay i { e with place := .atPort q a .pending } := by
  refine (if_neg (by simp [htenant, hgroup])).trans ?_
  rw [h] <;> rfl

theorem apply_of_new (h : x.findKey m.tenant m.addr = none) : AddressTable.apply self k x m =
    if m.forget then x
    else match (x.freeIn (bucketOf m.tenant m.addr)).orElse fun _ => x.firstIn (bucketOf m.tenant m.addr) Entry.isAnnounced with
      | some i => x.setWay i { tenant := m.tenant, addr := m.addr, moves := m.moves, place := .atPeer k }
      | none => x.skip := by
  refine (if_neg (by simp [htenant, hgroup])).trans ?_
  rw [h] <;> rfl

end apply

/-- Only the way found changes. -/
theorem apply_elsewhere (htenant : m.tenant ≠ 0) (hgroup : isGroup m.addr = false) (h : x.findKey m.tenant m.addr = some (i, e)) {j : Nat}
    (hj : j ≠ i) : Tab.find? (AddressTable.apply self k x m).ways j = Tab.find? x.ways j := by
  have hset : ∀ f, Tab.find? (x.setWay i f).ways j = Tab.find? x.ways j := fun f => (find?_setWay x i f j).trans (if_neg hj)
  have hfree : Tab.find? (x.freeWay i).ways j = Tab.find? x.ways j := (find?_freeWay x i j).trans (if_neg hj)
  rw [apply_of_found htenant hgroup h]
  split
  · split
    · split
      · exact hfree
      · rfl
    · rfl
    · rfl
  · split
    · exact hset _
    · exact hset _
    · split <;> exact hset _

end AddressTable

/-- A claim wins by being ahead by 1 to 7, or level and of the lower station (R28). -/
theorem announceWins_iff {self k incoming own : Nat} (hown : own ≤ 15) : announceWins self k incoming own = true ↔
    (1 ≤ (incoming + 16 - own) % 16 ∧ (incoming + 16 - own) % 16 ≤ 7) ∨ ((incoming + 16 - own) % 16 = 0 ∧ k < self) := by
  unfold announceWins
  rw [Nat.mod_eq_of_lt (show own < 16 by omega)]
  simp

theorem announceWins_opposed {j k m n : Nat} (hjk : j ≠ k) (hm : m ≤ 15) (hn : n ≤ 15) :
    (announceWins j k m n = true → announceWins k j n m = false) ∧
    ((m + 16 - n) % 16 ≠ 8 → announceWins j k m n = true ∨ announceWins k j n m = true) := by
  rw [← Bool.not_eq_true, announceWins_iff hn, announceWins_iff hm]
  omega

/-- Settles O28. -/
theorem announcementDecided : Obligations.AnnouncementDecided := by
  unfold Obligations.AnnouncementDecided
  refine ⟨fun x self k i m e htenant hgroup hm he h => ?_, fun x self k m => ?_,
    fun j k m n hjk hm hn => announceWins_opposed hjk hm hn⟩
  · intro after d wins
    have happly := AddressTable.apply_of_found (self := self) (k := k) htenant hgroup h
    have hfound := (AddressTable.find?_of_findKey h).1
    have hset : ∀ f, Tab.find? (x.setWay i f).ways i = some f := fun f => (AddressTable.find?_setWay x i f i).trans (if_pos rfl)
    have hwins : announceWins self k m.moves e.moves = true ↔ wins := announceWins_iff he
    refine ⟨fun j hj => AddressTable.apply_elsewhere htenant hgroup h hj,
      fun q g mk hplace => ⟨fun hforget hw => ?_, fun hforget hw => ?_, fun hforget => ?_⟩,
      fun j hplace => ⟨fun hforget => ?_, fun hforget hjk => ?_, fun hforget hjk => ?_⟩,
      fun mk hplace => ⟨fun hforget => ?_, fun hforget => ?_⟩⟩
    all_goals
      simp only [after, happly, hforget, hplace, Bool.false_eq_true, if_false, if_true]
    · rw [if_pos (hwins.2 hw)]; exact hset _
    · rw [if_neg (mt hwins.1 hw)]; exact hset _
    · exact hfound
    · exact hset _
    · rw [if_pos hjk, AddressTable.find?_freeWay, if_pos rfl]
    · rw [if_neg hjk]; exact hfound
    · exact hset _
    · exact hfound
  · intro after b ways free announced new noFree
    refine ⟨AddressTable.apply_of_disregarded, fun htenant hgroup hnone => ?_⟩
    have happly := AddressTable.apply_of_new (self := self) (k := k) htenant hgroup hnone
    refine ⟨fun hforget => happly.trans (if_pos hforget), fun hforget i hi htakes => ?_, fun hforget hfull hann => ?_⟩
    · have hway : ((x.freeIn b).orElse fun _ => x.firstIn b Entry.isAnnounced) = some i := by
        rcases htakes with ⟨hfree, hleast⟩ | ⟨hfull, hann, hleast⟩
        · rw [AddressTable.freeIn_of_least hi hfree hleast]; rfl
        · rw [AddressTable.freeIn_none hfull]
          exact AddressTable.firstIn_of_least hi (AddressTable.holds_announced.2 hann) fun j hj hp =>
            hleast j hj (AddressTable.holds_announced.1 hp)
      have hafter : after = x.setWay i new := by
        refine happly.trans ((if_neg (by simp [hforget])).trans ?_)
        rw [hway]
      rw [hafter]
      exact ⟨(AddressTable.find?_setWay x i new i).trans (if_pos rfl), rfl, fun j hj => (AddressTable.find?_setWay x i new j).trans (if_neg hj)⟩
    · refine happly.trans ((if_neg (by simp [hforget])).trans ?_)
      rw [AddressTable.freeIn_none hfull, AddressTable.firstIn_none fun j hj hp => hann j hj (AddressTable.holds_announced.1 hp)]
      change x.skip = _
      unfold AddressTable.skip
      rw [bump_eq]

/-! ## ADDRESS and SCAN_STEP (R27, R30, R111) -/

theorem applyAll_of_own {x : AddressTable} {self k : Nat} (h : k = self) (ms : List AddressEntry) : x.applyAll self k ms = x := if_pos h

theorem applyAll_of_other {x : AddressTable} {self k : Nat} (h : k ≠ self) (ms : List AddressEntry) :
    x.applyAll self k ms = ms.foldl (AddressTable.apply self k) x := if_neg h

/-- One step of the scan, way by way. -/
theorem scanMark_eq (b i : Nat) (e : Entry) : (if i / 4 = b then e.scanMark else e) =
    match e.place with
    | .atPort q g .clear => if i / 4 = b then { e with place := .atPort q g .pending } else e
    | .atPort _ _ .pending => e
    | .atPort _ _ .inFrame => e
    | .atPeer _ => e
    | .retired _ => e := by
  unfold Entry.scanMark
  split
  · rfl
  · split <;> rfl

/-- Settles O29. -/
theorem messageAppliedAndScanned : Obligations.MessageAppliedAndScanned := by
  unfold Obligations.MessageAppliedAndScanned
  refine ⟨fun s n rest hconf hn hkind => ?_, fun s b hdue hscan => ⟨s.scanTick, rfl, ?_⟩⟩
  · intro taken
    have hrun := State.process_of_front (p := fun n => n.isKind .address) (act := State.actAddress) hn
      (Notice.isKind_of_eq hkind) (State.actsOn_of_configured hconf _)
    have hact : ∀ tab, s.tab.applyAll s.il.station n.sender (readAddressEntries n.payload) = tab →
        exec .addressNotice s = .next { taken with tab := tab }.takeFrame := fun tab htab =>
      htab ▸ congrArg Host.Outcome.next hrun
    refine ⟨fun hself => hact _ (applyAll_of_own hself _), fun ms hother hpayload hrange => hact _ ?_⟩
    rw [hpayload, readAddressEntries_addressEntryWords hrange]
    exact applyAll_of_other hother ms
  · have hstep : s.scanTick = { s with tab := { s.tab with scanDue := s.tab.scanDue - 1
                                                           ways := Tab.filterMap (fun i e => some (if i / 4 = b then e.scanMark else e)) s.tab.ways
                                                           scan := if b = 2047 then none else some (b + 1) } } := by
      have hend : (if b + 1 = buckets then none else some (b + 1)) = if b = 2047 then none else some (b + 1) :=
        if_congr (by unfold buckets; omega) rfl rfl
      unfold State.scanTick AddressTable.scanStep
      rw [if_pos hdue, hscan, ← hend]
      rfl
    rw [hstep]
    refine ⟨rfl, rfl, fun i => ?_⟩
    rw [Tab.find?_mapValues]
    exact congrArg (fun f => (Tab.find? s.tab.ways i).map f) (funext fun e => scanMark_eq b i e)

end Sys2Proof.Machine
end

section
/-! The report tick at the Relief Controller, the LEVEL builder and the Billing Record Queue (O10), and the age tick at its three users
(O11). -/

namespace Sys2Proof.Machine

open Sys2Proof.Config

namespace State

variable {s : State}

/-- The time base with one user's report tick taken. -/
def reported (s : State) (u : ReportUser) : State :=
  { s with tb := { s.tb with reportOwed := s.tb.reportOwed.filter (fun v => v ≠ u) } }

theorem exec_reportTick {u : ReportUser} (h : u ∈ s.tb.reportOwed) :
    exec (.reportTick u) s = .next ((s.reported u).reportAct u).takeFrame := by
  rw [exec_eq_next, State.after, reportTick_of_owed h]
  rfl

/-- The time base with one user's age tick taken. -/
def aged (s : State) (u : AgeUser) : State := { s with tb := { s.tb with ageOwed := s.tb.ageOwed.filter (fun v => v ≠ u) } }

theorem exec_ageTick {u : AgeUser} (h : u ∈ s.tb.ageOwed) : exec (.ageTick u) s = .next ((s.aged u).ageAct u).takeFrame := by
  rw [exec_eq_next, State.after, ageTick_of_owed h]
  rfl

/-! ## The LEVEL builder (R115) -/

theorem kind_level_iff (m : Msg) : m.kind = .level ↔ m = .level := by
  cases m <;> simp [Msg.kind]

theorem placeMsg_level (ms : List Msg) : placeMsg .level ms = if .level ∈ ms then ms else ms ++ [.level] := by
  induction ms with
  | nil => rfl
  | cons m ms ih =>
    unfold placeMsg
    by_cases hm : m = .level
    · subst hm
      rw [if_pos (by rfl), if_pos List.mem_cons_self]
    · have hkey : m.sameKey .level = false := by
        have hkind : (m.kind == Kind.level) = false := beq_eq_false_iff_ne.2 fun hk => hm ((kind_level_iff m).1 hk)
        exact (congrArg (· && m.dest == destAll) hkind)
      rw [hkey, ih]
      by_cases hin : .level ∈ ms
      · rw [if_pos hin, if_pos (List.mem_cons_of_mem _ hin)]; rfl
      · rw [if_neg hin, if_neg fun h => hin ((List.mem_cons.1 h).resolve_left fun heq => hm heq.symm)]; rfl

theorem queueLevel_xc (s : State) : s.queueLevel.xc =
    { s.xc with normal := if s.il.state = .configured ∧ .level ∉ s.xc.normal then s.xc.normal ++ [.level] else s.xc.normal } := by
  unfold State.queueLevel
  by_cases hconf : s.il.state = .configured
  · rw [if_pos (configured_iff.2 hconf)]
    unfold State.queueNormal
    rw [placeMsg_level]
    by_cases hin : .level ∈ s.xc.normal
    · rw [if_pos hin, if_neg fun h => h.2 hin]
    · rw [if_neg hin, if_pos ⟨hconf, hin⟩]
  · rw [if_neg (mt configured_iff.1 hconf), if_neg fun h => hconf h.1]

end State

/-! ## The show timer (R157) -/

namespace BillingQueue

variable {b : BillingQueue} {limit c n : Nat}

theorem showTick_of_shown (h : b.head = .shown c n) :
    b.showTick limit = { b with head := if limit ≤ n + 1 then .fresh else .shown c (n + 1) } := by
  unfold showTick
  rw [h]

theorem showTick_of_unshown (h : b.head = .fresh ∨ b.head = .absent) : b.showTick limit = { b with head := b.head } := by
  unfold showTick
  obtain h | h := h <;> rw [h]

theorem lapses_of_shown (h : b.head = .shown c n) : b.lapses limit = decide (limit ≤ n + 1) := by
  unfold lapses
  rw [h]

theorem lapses_of_unshown (h : b.head = .fresh ∨ b.head = .absent) : b.lapses limit = false := by
  unfold lapses
  obtain h | h := h <;> rw [h]

end BillingQueue

theorem reportTickIf_false {s : State} {u : ReportUser} {named : Bool} (h : named = false) : s.reportTickIf u named = s :=
  if_neg (by simp [h])

theorem reportTickIf_true {s : State} {u : ReportUser} {named : Bool} (h : named = true) : s.reportTickIf u named = s.reportTick u :=
  if_pos h

section shedDecision

variable {s : State}

theorem shedDecision_of_room (h : s.cfg.shedLevel ≤ s.rc.level) (hfew : s.splitCount < s.cfg.maxShed) :
    s.shedDecision = { s with pu := { s.pu with shedDue := s.pu.shedDue + 1 } } := (if_pos h).trans (if_pos hfew)

theorem shedDecision_of_full (h : s.cfg.shedLevel ≤ s.rc.level) (hfull : ¬s.splitCount < s.cfg.maxShed) : s.shedDecision = s :=
  (if_pos h).trans (if_neg hfull)

theorem shedDecision_of_return (h : ¬s.cfg.shedLevel ≤ s.rc.level) (hlow : s.rc.level ≤ s.cfg.returnLevel) :
    s.shedDecision = { s with pu := { s.pu with returnDue := s.pu.returnDue + 1 } } := (if_neg h).trans (if_pos hlow)

theorem shedDecision_of_between (h : ¬s.cfg.shedLevel ≤ s.rc.level) (hhigh : ¬s.rc.level ≤ s.cfg.returnLevel) :
    s.shedDecision = s := (if_neg h).trans (if_neg hhigh)

end shedDecision

/-- Settles O10. -/
theorem reportTickRequestsLevelShow : Obligations.ReportTickRequestsLevelShow := by
  unfold Obligations.ReportTickRequestsLevelShow
  refine ⟨fun s h => ?_, fun s h => ?_, fun s h => ?_⟩
  · refine ⟨_, State.exec_reportTick h, ?_⟩
    simp only [State.reportAct]
    by_cases hshed : s.cfg.shedLevel ≤ s.rc.level
    · by_cases hfew : s.splitCount < s.cfg.maxShed
      · rw [shedDecision_of_room (s := s.reported _) hshed hfew]
        exact ⟨rfl, rfl, fun _ _ => rfl, fun _ hfull => absurd hfew (Nat.not_lt_of_le hfull), fun hlow => absurd hshed (Nat.not_le_of_lt hlow),
          fun hlow => absurd hshed (Nat.not_le_of_lt hlow)⟩
      · rw [shedDecision_of_full (s := s.reported _) hshed hfew]
        exact ⟨rfl, rfl, fun _ h => absurd h hfew, fun _ _ => rfl, fun hlow => absurd hshed (Nat.not_le_of_lt hlow),
          fun hlow => absurd hshed (Nat.not_le_of_lt hlow)⟩
    · by_cases hreturn : s.rc.level ≤ s.cfg.returnLevel
      · rw [shedDecision_of_return (s := s.reported _) hshed hreturn]
        exact ⟨rfl, rfl, fun h => absurd h hshed, fun h => absurd h hshed, fun _ _ => rfl,
          fun _ h => absurd hreturn (Nat.not_le_of_lt h)⟩
      · rw [shedDecision_of_between (s := s.reported _) hshed hreturn]
        exact ⟨rfl, rfl, fun h => absurd h hshed, fun h => absurd h hshed, fun _ h => absurd h hreturn, fun _ _ => rfl⟩
  · refine ⟨_, State.exec_reportTick h, State.eq_iff.2 (by simp [State.reported, State.reportAct]), State.queueLevel_xc _⟩
  · intro tick
    have hrun := State.exec_reportTick h
    have hlapse : ∀ b, s.bq.lapses s.cfg.showLimit = b →
        exec .showLimitLapse s = if b then exec (.reportTick .billingQueue) s else .next s.takeFrame := fun b hb => by
      cases b with
      | true => exact congrArg (fun z : State => Host.Outcome.next z.takeFrame) (reportTickIf_true hb)
      | false => exact congrArg (fun z : State => Host.Outcome.next z.takeFrame) (reportTickIf_false hb)
    have htick : ∀ bq, s.bq.showTick s.cfg.showLimit = bq → exec (.reportTick .billingQueue) s = .next (State.takeFrame { s with
        tb := { s.tb with reportOwed := s.tb.reportOwed.filter (fun v => v ≠ .billingQueue) }, bq := bq }) := fun bq hbq => hbq ▸ hrun
    refine ⟨fun c n hhead hlow => ⟨?_, ?_⟩, fun c n hhead hlimit => ?_, fun hhead => ⟨htick _ (BillingQueue.showTick_of_unshown hhead), ?_⟩⟩
    · exact (htick _ (BillingQueue.showTick_of_shown hhead)).trans (by rw [if_neg (Nat.not_le_of_lt hlow)])
    · exact hlapse false ((BillingQueue.lapses_of_shown hhead).trans (decide_eq_false (Nat.not_le_of_lt hlow)))
    · have hfresh := (htick _ (BillingQueue.showTick_of_shown hhead)).trans (by rw [if_pos hlimit])
      exact ⟨hfresh, (hlapse true ((BillingQueue.lapses_of_shown hhead).trans (decide_eq_true hlimit))).trans hfresh⟩
    · exact hlapse false (BillingQueue.lapses_of_unshown hhead)

/-! ## The age tick (R22, R23, R25, R57, R122) -/

theorem ageTick_eq (limit : Nat) (e : Entry) : e.ageTick limit = match e.place with
    | .atPort q a m => { e with place := if a + 1 < limit then .atPort q (a + 1) m else .retired .pending }
    | .atPeer _ => e
    | .retired _ => e := by
  obtain ⟨tenant, addr, moves, place⟩ := e
  cases place with
  | atPort q a m =>
    change (if limit ≤ a + 1 then _ else _) = _
    by_cases hold : limit ≤ a + 1
    · rw [if_pos hold]
      exact congrArg (Entry.mk tenant addr moves) (if_neg (Nat.not_lt_of_le hold)).symm
    · rw [if_neg hold]
      exact congrArg (Entry.mk tenant addr moves) (if_pos (Nat.lt_of_not_le hold)).symm
  | atPeer k => rfl
  | retired m => rfl

theorem agesOut_iff {x : AddressTable} {limit i : Nat} : x.agesOut limit i = true ↔
    ∃ e q a m, Tab.find? x.ways i = some e ∧ e.place = .atPort q a m ∧ limit ≤ a + 1 := by
  unfold AddressTable.agesOut
  cases Tab.find? x.ways i with
  | none => simp
  | some e =>
    unfold Entry.agesOut
    cases hplace : e.place <;> simp [hplace]

theorem ageTick_of_heldDown {l : PortLink} (h : l.state = .heldDown) :
    l.ageTick = { l with flaps := 0, state := .down, good := 0, stages := 0 } := by
  unfold PortLink.ageTick
  rw [h]

theorem ageTick_of_other {l : PortLink} (h : l.state ≠ .heldDown) : l.ageTick = { l with flaps := 0 } := by
  unfold PortLink.ageTick
  split
  · next hheld => exact absurd hheld h
  all_goals rfl

namespace State

variable {s : State}

theorem link_flapReset (s : State) {p : Nat} (hp : p ∈ allPorts) : s.flapReset.link p = (s.link p).ageTick := by
  have hmapped : (s.mapLinks allPorts PortLink.ageTick).link p = (s.link p).ageTick := by
    rw [link_mapLinks s nodup_allPorts, if_pos hp]
  unfold State.flapReset
  dsimp only
  split
  · exact (link_congr (by simp) p).trans hmapped
  · exact hmapped

theorem mem_freePeer {x : AddressTable} {k : Nat} {e : Nat × Entry} (h : e ∈ (x.freePeer k).ways) :
    e ∈ x.ways ∧ e.2.place ≠ .atPeer k := by
  obtain ⟨v, hv, hf⟩ := Tab.mem_filterMap h
  obtain ⟨i, f⟩ := e
  dsimp only at hv hf
  split at hf
  · next j hplace =>
    split at hf
    · exact nomatch hf
    · next hjk =>
      cases hf
      exact ⟨hv, fun hk => hjk (Place.atPeer.inj (hplace.symm.trans hk))⟩
  · next hplace => cases hf; exact ⟨hv, fun hk => nomatch hplace.symm.trans hk⟩
  · next hplace => cases hf; exact ⟨hv, fun hk => nomatch hplace.symm.trans hk⟩

theorem peerAgeTick_of_stale {k : Nat} (h : (s.peer k).state = .stale) :
    s.peerAgeTick k = { s.setPeer k PeerRecord.reset with tab := s.tab.freePeer k } := by
  unfold State.peerAgeTick
  rw [h]

theorem peerAgeTick_of_other {k : Nat} (h : (s.peer k).state ≠ .stale) : s.peerAgeTick k = s := by
  unfold State.peerAgeTick
  split
  · next hstale => exact absurd hstale h
  all_goals rfl

/-- What the age tick of one peer's record leaves. -/
theorem peerAgeTick_reads (s : State) (k : Nat) :
    (∀ j, (s.peer j).state ≠ .stale → (s.peerAgeTick k).peer j = s.peer j) ∧ (∀ e ∈ (s.peerAgeTick k).tab.ways, e ∈ s.tab.ways) := by
  by_cases hstale : (s.peer k).state = .stale
  · rw [peerAgeTick_of_stale hstale]
    exact ⟨fun j hj => (peer_setPeer s k j PeerRecord.reset).trans (if_neg fun hjk => hj (by rw [hjk]; exact hstale)), fun e he => (mem_freePeer he).1⟩
  · rw [peerAgeTick_of_other hstale]
    exact ⟨fun _ _ => rfl, fun _ he => he⟩

theorem peersAgeTick_reads (ks : List Nat) (s : State) :
    (∀ j, (s.peer j).state ≠ .stale → (s.each ks State.peerAgeTick).peer j = s.peer j) ∧
    (∀ e ∈ (s.each ks State.peerAgeTick).tab.ways, e ∈ s.tab.ways) ∧
    ∀ k ∈ ks, (s.peer k).state = .stale → (s.each ks State.peerAgeTick).peer k = PeerRecord.reset ∧
      ∀ e ∈ (s.each ks State.peerAgeTick).tab.ways, e.2.place ≠ .atPeer k := by
  induction ks generalizing s with
  | nil => exact ⟨fun _ _ => rfl, fun _ he => he, fun _ hk => absurd hk List.not_mem_nil⟩
  | cons k ks ih =>
    obtain ⟨hpeer, htab⟩ := peerAgeTick_reads s k
    obtain ⟨hpeers, htabs, hstales⟩ := ih (s.peerAgeTick k)
    refine ⟨fun j hj => (hpeers j (by rw [hpeer j hj]; exact hj)).trans (hpeer j hj), fun e he => htab e (htabs e he), fun j hj hstale => ?_⟩
    by_cases hjk : j = k
    · subst hjk
      have hstep := peerAgeTick_of_stale hstale
      have hreset : (s.peerAgeTick j).peer j = PeerRecord.reset := by
        rw [hstep]
        exact (peer_setPeer s j j PeerRecord.reset).trans (if_pos rfl)
      refine ⟨(hpeers j (by rw [hreset]; exact nofun)).trans hreset, fun e he => ?_⟩
      have he' := htabs e he
      rw [hstep] at he'
      exact (mem_freePeer he').2
    · have hother : (s.peerAgeTick k).peer j = s.peer j := by
        by_cases hk : (s.peer k).state = .stale
        · rw [peerAgeTick_of_stale hk]
          exact (peer_setPeer s k j PeerRecord.reset).trans (if_neg hjk)
        · rw [peerAgeTick_of_other hk]
      exact hstales j ((List.mem_cons.1 hj).resolve_left hjk) (by rw [hother]; exact hstale)

end State

/-- Settles O11. -/
theorem ageTickAges : Obligations.AgeTickAges := by
  unfold Obligations.AgeTickAges
  refine ⟨fun s h => ⟨_, State.exec_ageTick h, rfl, rfl, fun i => ?_, fun w => ?_⟩,
    fun s h => ⟨_, State.exec_ageTick h, State.eq_iff.2 (by simp [State.ageAct, State.aged]), fun p hp => ?_⟩,
    fun s h => ⟨_, State.exec_ageTick h, State.eq_iff.2 (by simp [State.ageAct, State.aged]), ?_, fun k hk => ?_⟩⟩
  · change Tab.find? (Tab.filterMap (fun _ e => some (e.ageTick s.cfg.ageLimit)) s.tab.ways) i = _
    rw [Tab.find?_mapValues]
    exact congrArg (fun f => (Tab.find? s.tab.ways i).map f) (funext fun e => ageTick_eq s.cfg.ageLimit e)
  · intro ends
    have hcommand : ∀ b, s.tab.agesOut s.cfg.ageLimit w = b →
        exec (.entryAgedOut w) s = if b then exec (.ageTick .addressTable) s else .next s.takeFrame := fun b hb => by
      cases b with
      | true => exact congrArg (fun z : State => Host.Outcome.next z.takeFrame) (if_pos hb)
      | false => exact congrArg (fun z : State => Host.Outcome.next z.takeFrame) (if_neg (by simp [hb]))
    exact ⟨fun hends => (hcommand true (agesOut_iff.2 hends)).trans (State.exec_ageTick h),
      fun hno => hcommand false (Bool.eq_false_iff.2 (mt agesOut_iff.1 hno))⟩
  · have hlink : ((s.aged .linkSupervisor).ageAct .linkSupervisor).link p = (s.link p).ageTick := State.link_flapReset _ hp
    rw [hlink]
    exact ⟨ageTick_of_heldDown, ageTick_of_other⟩
  · exact (State.peersAgeTick_reads s.peers (s.aged .peerView)).2.2
  · exact (State.peersAgeTick_reads s.peers (s.aged .peerView)).1 k hk

end Sys2Proof.Machine
end

section
/-! What a release of one copy makes of the Buffer Manager (R15, R16, R17), and the end of a transmission (R39). -/

namespace Sys2Proof

/-- Taking n off the count of one key. -/
theorem Tab.read_lower (t : Tab Nat) (k n j : Nat) : Tab.read 0 (Tab.write 0 t k (Tab.read 0 t k - n)) j =
    if j = k then Tab.read 0 t j - n else Tab.read 0 t j := by
  rw [Tab.read_write]
  split
  · next hj => rw [hj]
  · rfl

end Sys2Proof

namespace Sys2Proof.Machine

open Sys2Proof.Config

/-! ## Change events and releases -/

namespace BufferManager

variable {b : BufferManager} {c : Change} {d : Desc} {f : StoredFrame} {o : ReleaseOutcome}

/-- A change event that carries anything waits at the tail; nothing else changes. -/
theorem sendChange_eq (b : BufferManager) (c : Change) : b.sendChange c =
    { b with changes := b.changes ++ if c = { measure := none, buffer := none, tenant := none } then [] else [c] } := by
  unfold BufferManager.sendChange
  split
  · rw [List.append_nil]
  · rfl

/-- The change event of a release (R17), read off the accounts after it. -/
def released (b : BufferManager) (q : Nat) (last : Bool) (tenant : Nat) : Change :=
  { measure := if isUplinkQueue q then some b.measure else none
    buffer := if last then some b.bufferInUse else none
    tenant := if last then some (tenant, Tab.read 0 b.inUse tenant) else none }

theorem released_ne (b : BufferManager) {q : Nat} {last : Bool} (h : isUplinkQueue q = true ∨ last = true) (n : Nat) :
    b.released q last n ≠ { measure := none, buffer := none, tenant := none } := by
  rcases h with h | h <;> simp [released, h]

/-- A release with no change event to make (R17). -/
theorem released_eq (b : BufferManager) {q : Nat} (h : isUplinkQueue q = false) (n : Nat) :
    b.released q false n = { measure := none, buffer := none, tenant := none } := by simp [released, h]

theorem released_of {q : Nat} {uplink : Prop} [Decidable uplink] (h : isUplinkQueue q = true ↔ uplink) (last : Bool) (n : Nat) :
    b.released q last n = { measure := if uplink then some b.measure else none
                            buffer := if last then some b.bufferInUse else none
                            tenant := if last then some (n, Tab.read 0 b.inUse n) else none } := by
  unfold BufferManager.released
  rw [if_congr h rfl rfl]

theorem release_of_missing (h : Tab.find? b.frames d.frame = none) : b.release d o = b := by
  unfold BufferManager.release
  split
  · rfl
  · next hf => exact nomatch h.symm.trans hf

/-- A release that leaves other copies of the frame. -/
theorem release_of_more (hf : Tab.find? b.frames d.frame = some f) (h : 1 < f.outstanding) : b.release d o =
    let after := { b.giveBack (queueKey d.port d.cls) f.cells with frames := Tab.put b.frames d.frame (f.afterRelease o) }
    after.sendChange (after.released (queueKey d.port d.cls) false f.tenant) := by
  have hlast : ((f.afterRelease o).outstanding == 0) = false := beq_false_of_ne (Nat.sub_ne_zero_of_lt h)
  unfold BufferManager.release
  split
  · next hnone => exact nomatch hf.symm.trans hnone
  · next g hg =>
    cases hf.symm.trans hg
    simp only [hlast]
    rfl

/-- A release of the last copy of the frame. -/
theorem release_of_last (hf : Tab.find? b.frames d.frame = some f) (h : f.outstanding ≤ 1) : b.release d o =
    let after := (b.giveBack (queueKey d.port d.cls) f.cells).freeFrame d.frame (f.afterRelease o)
    after.sendChange (after.released (queueKey d.port d.cls) true f.tenant) := by
  have hlast : ((f.afterRelease o).outstanding == 0) = true := beq_iff_eq.2 (Nat.sub_eq_zero_of_le h)
  unfold BufferManager.release
  split
  · next hnone => exact nomatch hf.symm.trans hnone
  · next g hg =>
    cases hf.symm.trans hg
    simp only [hlast]
    rfl

end BufferManager

theorem isUplinkQueue_iff {q : Nat} : isUplinkQueue q = true ↔ 64 ≤ q ∧ q < 72 := by
  simp [isUplinkQueue, queueKey, u0]

/-! ## The end of a transmission -/

theorem PortTx.afterFrame_eq (x : PortTx) : x.afterFrame = { x with state := if x.rxHold = none then .idle else .held } := by
  unfold PortTx.afterFrame
  cases x.rxHold <;> rfl

theorem State.copyEnds_of_sending {s : State} {p : Nat} {d : Desc} (h : (s.tx p).state = .sending (.copy d)) :
    s.copyEnds p = ((s.release d .transmitted).setTx p (s.tx p).afterFrame).select p := by
  unfold State.copyEnds
  split
  · next e he => cases h.symm.trans he; rfl
  · next he => cases h.symm.trans he
  · next he => cases h.symm.trans he
  · next he => cases h.symm.trans he

/-- Settles O23: the release of the copy in flight by whether it is the last of its frame, then the selection. -/
theorem copyEndReleases : Obligations.CopyEndReleases := by
  unfold Obligations.CopyEndReleases
  intro s p d f hsend hf key uplink last
  have huplink : isUplinkQueue key = true ↔ uplink := isUplinkQueue_iff
  refine ⟨(s.release d .transmitted).setTx p (s.tx p).afterFrame, congrArg Host.Outcome.next (State.copyEnds_of_sending hsend), rfl,
    rfl, fun q hq => (State.tx_setTx _ _ _ _).trans (if_neg hq), ?_, ?_⟩
  · rw [State.tx_setTx, if_pos rfl, PortTx.afterFrame_eq]
  generalize hz : (s.release d .transmitted).setTx p (s.tx p).afterFrame = z
  have hbm : z.bm = s.bm.release d .transmitted := by rw [← hz]; rfl
  clear hz
  have hmeasure : ((List.range' 64 8).map z.cellsOf).sum = z.bm.measure := rfl
  simp only [hmeasure, State.inUse, State.cellsOf, hbm]
  by_cases hlast : last
  · rw [BufferManager.release_of_last hf hlast]
    dsimp only
    rw [BufferManager.sendChange_eq, if_neg (BufferManager.released_ne _ (.inr rfl) _)]
    have hloss : ((f.afterRelease .transmitted).metered && !(f.afterRelease .transmitted).transmitted) = false := by
      simp [StoredFrame.afterRelease]
    refine ⟨rfl, Tab.read_lower _ _ _, fun i hi => Tab.find?_drop_ne _ hi, rfl, rfl, ?_, fun hmore => absurd hlast hmore,
      fun _ => ⟨rfl, Tab.find?_drop_same _ _, Tab.read_lower _ _ _⟩, ?_⟩
    · simp only [BufferManager.freeFrame, hloss]
      rfl
    · rw [if_pos (.inr hlast), if_pos hlast, if_pos hlast, BufferManager.released_of huplink]
      rfl
  · rw [BufferManager.release_of_more hf (Nat.not_le.1 hlast)]
    dsimp only
    rw [BufferManager.sendChange_eq]
    refine ⟨rfl, Tab.read_lower _ _ _, fun i hi => Tab.find?_put_ne _ _ hi, rfl, rfl, rfl,
      fun _ => ⟨rfl, fun _ => rfl, (Tab.find?_put_same _ _ _).trans ?_⟩, fun h => absurd h hlast, ?_⟩
    · simp [StoredFrame.afterRelease]
    · by_cases hup : uplink
      · rw [if_neg (BufferManager.released_ne _ (.inl (huplink.2 hup)) _), if_pos (.inl hup), if_neg hlast, if_neg hlast,
          BufferManager.released_of huplink]
        rfl
      · rw [BufferManager.released_eq _ (Bool.eq_false_iff.2 (mt huplink.1 hup)), if_pos rfl, if_neg (not_or.2 ⟨hup, hlast⟩)]
        rfl

end Sys2Proof.Machine
end

section
/-! The accounts of the cell buffer (R10) as a relation of the Buffer Manager and the copies there are: what a release and an admission
make of it. The copies count only up to their order. -/

namespace Sys2Proof

/-! ## A table up to the order of its entries -/

section tables

variable {α : Type} {t : Tab α} {k : Nat} {v : α}

theorem Tab.not_mem_drop (t : Tab α) (k : Nat) (v : α) : (k, v) ∉ Tab.drop t k := by simp [Tab.drop]

theorem Tab.perm_put (hw : Tab.wf t = true) : (Tab.put t k v).Perm ((k, v) :: Tab.drop t k) := by
  refine (List.perm_ext_iff_of_nodup (Tab.nodup_of_wf (Tab.wf_put k v hw))
    (List.nodup_cons.2 ⟨Tab.not_mem_drop t k v, Tab.nodup_of_wf (Tab.wf_drop k hw)⟩)).2 fun ⟨j, w⟩ => ?_
  rw [Tab.mem_iff_find? (Tab.wf_put k v hw), List.mem_cons, Tab.mem_iff_find? (Tab.wf_drop k hw), Tab.find?_put, Tab.find?_drop]
  by_cases hj : j = k
  · simp [hj, eq_comm]
  · simp [hj]

theorem Tab.perm_of_find? (hw : Tab.wf t = true) (h : Tab.find? t k = some v) : t.Perm ((k, v) :: Tab.drop t k) := by
  refine (List.perm_ext_iff_of_nodup (Tab.nodup_of_wf hw)
    (List.nodup_cons.2 ⟨Tab.not_mem_drop t k v, Tab.nodup_of_wf (Tab.wf_drop k hw)⟩)).2 fun ⟨j, w⟩ => ?_
  rw [Tab.mem_iff_find? hw, List.mem_cons, Tab.mem_iff_find? (Tab.wf_drop k hw), Tab.find?_drop]
  by_cases hj : j = k
  · subst hj; simp [h, eq_comm]
  · simp [hj]

theorem Tab.drop_of_missing (hw : Tab.wf t = true) (h : Tab.find? t k = none) : Tab.drop t k = t :=
  List.filter_eq_self.2 fun ⟨j, w⟩ hj => by
    have hfind := (Tab.mem_iff_find? hw j w).1 hj
    simp only [decide_eq_true_eq]
    rintro rfl
    exact nomatch h.symm.trans hfind

/-- Whatever lists are read off the values, where the default gives none: a written table lists those of its new value and of its
other keys. -/
theorem Tab.flatMap_write [DecidableEq α] {d : α} {β : Type} {F : α → List β} (hF : F d = []) (hw : Tab.wf t = true) :
    ((Tab.write d t k v).flatMap fun e => F e.2).Perm (F v ++ (Tab.drop t k).flatMap fun e => F e.2) := by
  unfold Tab.write
  split
  · next hv => rw [hv, hF, List.nil_append]
  · exact (Tab.perm_put hw).flatMap_right _

theorem Tab.flatMap_read {d : α} {β : Type} {F : α → List β} (hF : F d = []) (hw : Tab.wf t = true) (k : Nat) :
    (t.flatMap fun e => F e.2).Perm (F (Tab.read d t k) ++ (Tab.drop t k).flatMap fun e => F e.2) := by
  unfold Tab.read
  cases h : Tab.find? t k with
  | none => rw [Tab.drop_of_missing hw h, Option.getD_none, hF, List.nil_append]
  | some w => exact (Tab.perm_of_find? hw h).flatMap_right _

/-- Adding n to the count of every key of a list of keys, as often as it stands there. -/
theorem Tab.read_raise {β : Type} (key : β → Nat) (n : Nat) (bs : List β) (t : Tab Nat) (j : Nat) :
    Tab.read 0 (bs.foldl (fun q b => Tab.write 0 q (key b) (Tab.read 0 q (key b) + n)) t) j =
      Tab.read 0 t j + ((bs.filter fun b => key b == j).map fun _ => n).sum := by
  induction bs generalizing t with
  | nil => rfl
  | cons b bs ih =>
    rw [List.foldl_cons, ih, Tab.read_write]
    by_cases hj : key b = j
    · simp [hj, Nat.add_assoc]
    · simp [hj, Ne.symm hj]

end tables

end Sys2Proof

namespace Sys2Proof.Machine

open Sys2Proof.Config

/-! ## The accounts -/

namespace BufferManager

variable {b c : BufferManager} {d : Desc} {ds es : List Desc} {f : StoredFrame} {o : ReleaseOutcome}

/-- The cells of a copy: those of its frame. -/
def copyCells (b : BufferManager) (d : Desc) : Nat :=
  match Tab.find? b.frames d.frame with
  | some f => f.cells
  | none => 0

/-- R10's accounts, where ds are the copies there are, with what they rest on (`State.BufferLinked`). -/
structure Accounts (b : BufferManager) (ds : List Desc) : Prop where
  wf : Tab.wf b.frames = true
  cells : b.freeCells + Tab.sum StoredFrame.cells b.frames = bufferCells
  inUse : ∀ n, Tab.read 0 b.inUse n = ((b.frames.filter fun e => e.2.tenant == n).map fun e => e.2.cells).sum
  queues : ∀ q, Tab.read 0 b.queueCells q = ((ds.filter fun d => queueKey d.port d.cls == q).map b.copyCells).sum
  descriptors : b.freeDescriptors + ds.length = descriptors
  frames : ∀ i f, Tab.find? b.frames i = some f → i < b.nextFrame ∧ 1 ≤ f.outstanding ∧ 1 ≤ f.tenant ∧ f.tenant ≤ 255 ∧
    f.outstanding = (ds.filter fun d => d.frame == i).length
  stored : ∀ d ∈ ds, Tab.has b.frames d.frame = true

theorem copyCells_of_find? (h : Tab.find? b.frames d.frame = some f) : b.copyCells d = f.cells := by
  unfold BufferManager.copyCells
  rw [h]

theorem copyCells_congr (h : Tab.find? c.frames d.frame = Tab.find? b.frames d.frame) : c.copyCells d = b.copyCells d := by
  unfold BufferManager.copyCells
  rw [h]

theorem Accounts.perm (h : b.Accounts ds) (hp : ds.Perm es) : b.Accounts es where
  wf := h.wf
  cells := h.cells
  inUse := h.inUse
  queues q := (h.queues q).trans ((hp.filter _).map _).sum_eq
  descriptors := hp.length_eq ▸ h.descriptors
  frames i f hf := (hp.filter _).length_eq ▸ h.frames i f hf
  stored d hd := h.stored d (hp.mem_iff.2 hd)

/-- Change events and reports are no part of the accounts. -/
theorem Accounts.congr (h : b.Accounts ds) (hfree : c.freeCells = b.freeCells) (huse : c.inUse = b.inUse)
    (hqueue : c.queueCells = b.queueCells) (hdesc : c.freeDescriptors = b.freeDescriptors) (hframes : c.frames = b.frames)
    (hnext : c.nextFrame = b.nextFrame) : c.Accounts ds := by
  have hcells : c.copyCells = b.copyCells := funext fun d => copyCells_congr (by rw [hframes])
  exact ⟨hframes ▸ h.wf, by rw [hfree, hframes]; exact h.cells, by rw [huse, hframes]; exact h.inUse,
    by rw [hqueue, hcells]; exact h.queues, by rw [hdesc]; exact h.descriptors, by rw [hframes, hnext]; exact h.frames,
    by rw [hframes]; exact h.stored⟩

theorem Accounts.sendChange (h : b.Accounts ds) (x : Change) : (b.sendChange x).Accounts ds := by
  rw [sendChange_eq]
  exact h.congr rfl rfl rfl rfl rfl rfl

theorem sum_cells_of_perm {t : Tab StoredFrame} {i : Nat} {u : Tab StoredFrame} (h : t.Perm ((i, f) :: u)) :
    Tab.sum StoredFrame.cells t = f.cells + Tab.sum StoredFrame.cells u := (h.map _).sum_eq

theorem tenant_cells_of_perm {t : Tab StoredFrame} {i : Nat} {u : Tab StoredFrame} (h : t.Perm ((i, f) :: u)) (n : Nat) :
    ((t.filter fun e => e.2.tenant == n).map fun e => e.2.cells).sum =
      (if n = f.tenant then f.cells else 0) + ((u.filter fun e => e.2.tenant == n).map fun e => e.2.cells).sum := by
  rw [((h.filter _).map _).sum_eq]
  by_cases hn : n = f.tenant
  · simp [hn]
  · simp [hn, Ne.symm hn]

theorem queue_cells_cons (g : Desc → Nat) (q : Nat) : (((d :: ds).filter fun e => queueKey e.port e.cls == q).map g).sum =
    (if q = queueKey d.port d.cls then g d else 0) + ((ds.filter fun e => queueKey e.port e.cls == q).map g).sum := by
  by_cases hq : q = queueKey d.port d.cls
  · simp [hq]
  · simp [hq, Ne.symm hq]

theorem copies_cons_self : ((d :: ds).filter fun e => e.frame == d.frame).length = (ds.filter fun e => e.frame == d.frame).length + 1 := by
  simp

theorem copies_cons_ne {i : Nat} (h : i ≠ d.frame) :
    ((d :: ds).filter fun e => e.frame == i).length = (ds.filter fun e => e.frame == i).length := by
  simp [Ne.symm h]

/-- The queue cells after the release of a copy. -/
theorem Accounts.queues_released (h : b.Accounts (d :: ds)) (hf : Tab.find? b.frames d.frame = some f)
    (hkeep : ∀ e ∈ ds, c.copyCells e = b.copyCells e) (q : Nat) :
    Tab.read 0 (b.giveBack (queueKey d.port d.cls) f.cells).queueCells q =
      ((ds.filter fun e => queueKey e.port e.cls == q).map c.copyCells).sum := by
  have hmap : (ds.filter fun e => queueKey e.port e.cls == q).map c.copyCells = (ds.filter fun e => queueKey e.port e.cls == q).map b.copyCells :=
    List.map_congr_left fun e he => hkeep e (List.mem_of_mem_filter he)
  rw [hmap]
  refine (Tab.read_lower _ _ _ _).trans ?_
  rw [h.queues, queue_cells_cons, copyCells_of_find? hf]
  split <;> omega

theorem Accounts.descriptors_released (h : b.Accounts (d :: ds)) : b.freeDescriptors + 1 + ds.length = Config.descriptors := by
  have := h.descriptors
  rw [List.length_cons] at this
  omega

/-- A release of one of several copies of its frame. -/
theorem Accounts.release_more (h : b.Accounts (d :: ds)) (hf : Tab.find? b.frames d.frame = some f) (hmore : 1 < f.outstanding) :
    (b.release d o).Accounts ds := by
  rw [release_of_more hf hmore]
  refine Accounts.sendChange ?_ _
  have hold := Tab.perm_of_find? h.wf hf
  have hnew := Tab.perm_put (k := d.frame) (v := f.afterRelease o) h.wf
  have hkeep : ∀ e, BufferManager.copyCells { b with frames := Tab.put b.frames d.frame (f.afterRelease o) } e = b.copyCells e := fun e => by
    by_cases he : e.frame = d.frame
    · rw [copyCells_of_find? (b := b) (f := f) (by rw [he]; exact hf), copyCells_of_find? (f := f.afterRelease o) (by simp [he])]
      rfl
    · exact copyCells_congr (Tab.find?_put_ne _ _ he)
  refine ⟨Tab.wf_put _ _ h.wf, ?_, fun n => ?_, fun q => h.queues_released hf (fun e _ => hkeep e) q, h.descriptors_released,
    fun i g hg => ?_, fun e he => ?_⟩
  · rw [← h.cells, sum_cells_of_perm hnew, sum_cells_of_perm hold]
    rfl
  · refine (h.inUse n).trans ?_
    rw [tenant_cells_of_perm hnew, tenant_cells_of_perm hold]
    rfl
  · by_cases hi : i = d.frame
    · subst hi
      obtain ⟨hlt, -, hlow, hhigh, hcount⟩ := h.frames _ _ hf
      cases (Tab.find?_put_same _ _ _).symm.trans hg
      rw [copies_cons_self] at hcount
      exact ⟨hlt, Nat.le_sub_of_add_le hmore, hlow, hhigh, Nat.sub_eq_of_eq_add hcount⟩
    · have := h.frames i g ((Tab.find?_put_ne _ _ hi).symm.trans hg)
      rwa [copies_cons_ne hi] at this
  · have := h.stored e (List.mem_cons_of_mem _ he)
    unfold Tab.has at *
    rw [Tab.find?_put]
    split
    · rfl
    · exact this

/-- A release of the last copy of its frame. -/
theorem Accounts.release_last (h : b.Accounts (d :: ds)) (hf : Tab.find? b.frames d.frame = some f) (hlast : f.outstanding ≤ 1) :
    (b.release d o).Accounts ds := by
  rw [release_of_last hf hlast]
  refine Accounts.sendChange ?_ _
  have hold := Tab.perm_of_find? h.wf hf
  have hgone : ∀ e ∈ ds, e.frame ≠ d.frame := fun e he hframe => by
    have hcount := (h.frames _ _ hf).2.2.2.2
    rw [copies_cons_self] at hcount
    have : 0 < (ds.filter fun e => e.frame == d.frame).length := List.length_pos_of_mem (List.mem_filter.2 ⟨he, by simp [hframe]⟩)
    omega
  refine ⟨Tab.wf_drop _ h.wf, ?_, fun n => ?_,
    fun q => h.queues_released hf (fun e he => copyCells_congr (Tab.find?_drop_ne _ (hgone e he))) q, h.descriptors_released,
    fun i g hg => ?_, fun e he => ?_⟩
  · rw [← h.cells, sum_cells_of_perm hold]
    exact Nat.add_assoc _ _ _
  · refine (Tab.read_lower _ _ _ _).trans ?_
    have huse : Tab.read 0 (b.giveBack (queueKey d.port d.cls) f.cells).inUse n = _ := h.inUse n
    rw [huse, tenant_cells_of_perm hold]
    change (if n = f.tenant then _ - f.cells else _) = ((Tab.drop b.frames d.frame).filter _ |>.map _).sum
    split <;> omega
  · have hi : i ≠ d.frame := fun hi => by
      rw [hi] at hg
      exact nomatch (Tab.find?_drop_same _ _).symm.trans hg
    have := h.frames i g ((Tab.find?_drop_ne _ hi).symm.trans hg)
    rwa [copies_cons_ne hi] at this
  · have := h.stored e (List.mem_cons_of_mem _ he)
    unfold Tab.has at *
    rw [← Tab.find?_drop_ne _ (hgone e he)] at this
    exact this

theorem Accounts.find? (h : b.Accounts ds) (hd : d ∈ ds) : ∃ f, Tab.find? b.frames d.frame = some f :=
  Option.isSome_iff_exists.1 (h.stored d hd)

/-- A release of any copy there is. -/
theorem Accounts.release (h : b.Accounts (d :: ds)) (o : ReleaseOutcome) : (b.release d o).Accounts ds := by
  obtain ⟨f, hf⟩ := h.find? List.mem_cons_self
  by_cases hlast : f.outstanding ≤ 1
  · exact h.release_last hf hlast
  · exact h.release_more hf (Nat.not_le.1 hlast)

/-! ## Admission -/

/-- The accounts with the cells, the descriptors and the record of an admitted frame taken, and its copies counted (R13). -/
theorem Accounts.admitFrame (h : b.Accounts ds) {a : Arrival} {xs : List Dest} (htenant : 1 ≤ a.tenant ∧ a.tenant ≤ 255) (hxs : xs ≠ [])
    (hdesc : xs.length ≤ b.freeDescriptors) (hcells : a.cells ≤ b.freeCells) (w : Decision) :
    (b.admitFrame a xs w).Accounts (xs.map (descOf b.nextFrame a.cls) ++ ds) := by
  refine Accounts.sendChange ?_ _
  have hnew : Tab.find? b.frames b.nextFrame = none := by
    cases hfind : Tab.find? b.frames b.nextFrame with
    | none => rfl
    | some f => exact absurd (h.frames _ _ hfind).1 (Nat.lt_irrefl _)
  have hne : ∀ e ∈ ds, e.frame ≠ b.nextFrame := fun e he hframe => by
    obtain ⟨f, hf⟩ := h.find? he
    rw [hframe] at hf
    exact nomatch hnew.symm.trans hf
  have hperm : ∀ f, (Tab.put b.frames b.nextFrame f).Perm ((b.nextFrame, f) :: b.frames) := fun f => by
    have := Tab.perm_put (k := b.nextFrame) (v := f) h.wf
    rwa [Tab.drop_of_missing h.wf hnew] at this
  have hcount : ∀ i, ((xs.map (descOf b.nextFrame a.cls)).filter fun d => d.frame == i).length =
      if i = b.nextFrame then xs.length else 0 := fun i => by
    by_cases hi : i = b.nextFrame
    · simp [hi, descOf, List.filter_map, Function.comp_def]
    · simp [hi, descOf, List.filter_map, Function.comp_def, Ne.symm hi]
  refine ⟨Tab.wf_put _ _ h.wf, ?_, fun n => ?_, fun q => ?_, ?_, fun i g hg => ?_, fun e he => ?_⟩
  · have := h.cells
    rw [sum_cells_of_perm (hperm _)]
    change b.freeCells - a.cells + (a.cells + _) = _
    omega
  · rw [tenant_cells_of_perm (hperm _)]
    refine (Tab.read_write _ _ _ _ _).trans ?_
    rw [← h.inUse n]
    change (if n = a.tenant then _ else _) = (if n = a.tenant then a.cells else 0) + _
    split
    · next hn => rw [hn, Nat.add_comm]
    · rw [Nat.zero_add]
  · refine (Tab.read_raise _ _ _ _ _).trans ?_
    rw [h.queues q, Nat.add_comm, List.filter_append, List.map_append, List.sum_append, List.filter_map, List.map_map]
    refine congrArg₂ (· + ·) (congrArg List.sum (List.map_congr_left fun x _ => ?_)) (congrArg List.sum (List.map_congr_left fun e he => ?_))
    · refine ((copyCells_of_find? (d := descOf b.nextFrame a.cls x) (f := ?_) ?_).trans ?_).symm
      rotate_left
      · exact Tab.find?_put_same _ _ _
      · rfl
    · exact (copyCells_congr (Tab.find?_put_ne _ _ (hne e (List.mem_of_mem_filter he)))).symm
  · have := h.descriptors
    simp only [List.length_append, List.length_map]
    omega
  · rw [List.filter_append, List.length_append, hcount i]
    by_cases hi : i = b.nextFrame
    · subst hi
      cases (Tab.find?_put_same _ _ _).symm.trans hg
      have hnone : (ds.filter fun d => d.frame == b.nextFrame) = [] :=
        List.filter_eq_nil_iff.2 fun e he => by simpa using hne e he
      rw [if_pos rfl, hnone]
      exact ⟨Nat.lt_succ_self _, List.length_pos_iff.2 hxs, htenant.1, htenant.2, rfl⟩
    · obtain ⟨hlt, hrest⟩ := h.frames i g ((Tab.find?_put_ne _ _ hi).symm.trans hg)
      rw [if_neg hi, Nat.zero_add]
      exact ⟨Nat.lt_succ_of_lt hlt, hrest⟩
  · have hhas : ∀ f, Tab.has (Tab.put b.frames b.nextFrame f) e.frame = true := fun f => by
      unfold Tab.has
      rw [Tab.find?_put]
      split
      · rfl
      · next hi =>
        refine h.stored e ((List.mem_append.1 he).resolve_left fun hmem => hi ?_)
        obtain ⟨x, -, rfl⟩ := List.mem_map.1 hmem
        rfl
    exact hhas _

end BufferManager

end Sys2Proof.Machine
end

section
/-! The accounts of the cell buffer (R10) as an invariant: what each operation of the Egress Scheduler owes the Buffer Manager, and that
every step settles it. -/

namespace Sys2Proof.Machine

open Sys2Proof.Config

theorem PortTx.inFlight_congr {x y : PortTx} (h : x.state = y.state) : x.inFlight = y.inFlight := by
  unfold PortTx.inFlight
  rw [h]

theorem PortTx.inFlight_afterFrame (x : PortTx) : x.afterFrame.inFlight = [] := by
  unfold PortTx.afterFrame PortTx.inFlight
  cases x.rxHold <;> rfl

namespace State

variable {s t : State} {ds es : List Desc}

/-! ## The copies there are -/

theorem copies_setTx (hw : Tab.wf s.es.ports = true) (p : Nat) : ∃ rest : List Desc, s.copies.Perm ((s.tx p).inFlight ++ rest) ∧
    ∀ x, (s.setTx p x).copies.Perm (x.inFlight ++ rest) := by
  have hold := Tab.flatMap_read (d := PortTx.reset) (F := PortTx.inFlight) rfl hw p
  have hnew := fun x => Tab.flatMap_write (d := PortTx.reset) (F := PortTx.inFlight) (k := p) (v := x) rfl hw
  have hmove : ∀ xs ys zs : List Desc, (ys ++ (xs ++ zs)).Perm (xs ++ (ys ++ zs)) := fun xs ys zs => List.perm_append_comm_assoc ..
  exact ⟨s.es.queues.flatMap (fun e => e.2) ++ (Tab.drop s.es.ports p).flatMap (fun e => e.2.inFlight),
    (List.Perm.append_left _ hold).trans (hmove ..), fun x => (List.Perm.append_left _ (hnew x)).trans (hmove ..)⟩

theorem copies_setQueue (hw : Tab.wf s.es.queues = true) (q : Nat) : ∃ rest : List Desc, s.copies.Perm (s.queue q ++ rest) ∧
    ∀ xs, (s.setQueue q xs).copies.Perm (xs ++ rest) := by
  have hold := Tab.flatMap_read (d := ([] : List Desc)) (F := id) rfl hw q
  have hnew := fun xs => Tab.flatMap_write (d := ([] : List Desc)) (F := id) (k := q) (v := xs) rfl hw
  exact ⟨(Tab.drop s.es.queues q).flatMap (fun e => e.2) ++ s.es.ports.flatMap (fun e => e.2.inFlight),
    (List.Perm.append_right _ hold).trans (.of_eq (List.append_assoc ..)),
    fun xs => (List.Perm.append_right _ (hnew xs)).trans (.of_eq (List.append_assoc ..))⟩

/-! ## What is owed -/

/-- The Buffer Manager's accounts count, besides the copies there are, the copies ds, which have left the Egress Scheduler and are still
to be released. -/
def Owes (s : State) (ds : List Desc) : Prop :=
  Tab.wf s.es.queues = true ∧ Tab.wf s.es.ports = true ∧ s.bm.Accounts (ds ++ s.copies)

/-- The accounts are settled. -/
def Balanced (s : State) : Prop := s.Owes []

theorem Owes.of_same (h : s.Owes ds) (hes : t.es = s.es) (hbm : t.bm = s.bm) : t.Owes ds := by
  unfold Owes State.copies at *
  rwa [hes, hbm]

theorem Owes.of_reports (h : s.Owes ds) (hes : t.es = s.es)
    (hbm : t.bm = { s.bm with usageReports := t.bm.usageReports, refusals := t.bm.refusals, losses := t.bm.losses, changes := t.bm.changes }) :
    t.Owes ds := by
  obtain ⟨hqueues, hports, hacc⟩ := h
  unfold Owes State.copies at *
  rw [hes, hbm]
  exact ⟨hqueues, hports, hacc.congr rfl rfl rfl rfl rfl rfl⟩

theorem Owes.setTx (h : s.Owes ds) {p : Nat} {x : PortTx} (hx : (ds ++ (s.tx p).inFlight).Perm (es ++ x.inFlight)) :
    (s.setTx p x).Owes es := by
  obtain ⟨hqueues, hports, hacc⟩ := h
  obtain ⟨rest, hold, hnew⟩ := copies_setTx hports p
  refine ⟨hqueues, Tab.wf_write _ _ _ hports, hacc.perm ?_⟩
  calc (ds ++ s.copies).Perm (ds ++ ((s.tx p).inFlight ++ rest)) := .append_left _ hold
    _ = (ds ++ (s.tx p).inFlight) ++ rest := (List.append_assoc ..).symm
    (ds ++ (s.tx p).inFlight ++ rest).Perm ((es ++ x.inFlight) ++ rest) := .append_right _ hx
    _ = es ++ (x.inFlight ++ rest) := List.append_assoc ..
    (es ++ (x.inFlight ++ rest)).Perm (es ++ (s.setTx p x).copies) := .append_left _ (hnew x).symm

theorem Owes.setQueue (h : s.Owes ds) {q : Nat} {xs : List Desc} (hx : (ds ++ s.queue q).Perm (es ++ xs)) : (s.setQueue q xs).Owes es := by
  obtain ⟨hqueues, hports, hacc⟩ := h
  obtain ⟨rest, hold, hnew⟩ := copies_setQueue hqueues q
  refine ⟨Tab.wf_write _ _ _ hqueues, hports, hacc.perm ?_⟩
  calc (ds ++ s.copies).Perm (ds ++ (s.queue q ++ rest)) := .append_left _ hold
    _ = (ds ++ s.queue q) ++ rest := (List.append_assoc ..).symm
    (ds ++ s.queue q ++ rest).Perm ((es ++ xs) ++ rest) := .append_right _ hx
    _ = es ++ (xs ++ rest) := List.append_assoc ..
    (es ++ (xs ++ rest)).Perm (es ++ (s.setQueue q xs).copies) := .append_left _ (hnew xs).symm

theorem Owes.release {d : Desc} (h : s.Owes (d :: ds)) (o : ReleaseOutcome) : (s.release d o).Owes ds := by
  obtain ⟨hqueues, hports, hacc⟩ := h
  exact ⟨hqueues, hports, BufferManager.Accounts.release hacc o⟩

/-- A change of a transmitter that keeps what it has in flight. -/
theorem Owes.keepTx (h : s.Owes ds) {p : Nat} {x : PortTx} (hx : x.inFlight = (s.tx p).inFlight) : (s.setTx p x).Owes ds :=
  h.setTx (by rw [hx])

/-! ## The operations of the Egress Scheduler -/

theorem Owes.select (h : s.Owes ds) (p : Nat) : (s.select p).Owes ds := by
  have hkeep : ∀ {x : PortTx}, (s.tx p).inFlight = [] → x.inFlight = [] → (s.setTx p x).Owes ds := fun hold hnew =>
    h.keepTx (hnew.trans hold.symm)
  unfold State.select
  dsimp only
  split
  · split
    · exact h
    · next hstate =>
      have hnone : (s.tx p).inFlight = [] := by simp [PortTx.inFlight, hstate]
      split
      · exact hkeep hnone rfl
      · split
        · next q d rest htop =>
          obtain ⟨c, -, rfl, hqueue⟩ := exists_class_of_topCopy htop
          have htaken : (s.setQueue (queueKey p c) rest).Owes (d :: ds) :=
            h.setQueue (by rw [hqueue]; exact List.perm_middle)
          refine htaken.setTx ?_
          rw [tx_setQueue, hnone]
          exact (List.append_nil (d :: ds)).symm ▸ (List.perm_append_singleton d ds).symm
        · exact h
    · next hstate =>
      have hnone : (s.tx p).inFlight = [] := by simp [PortTx.inFlight, hstate]
      split
      · exact hkeep hnone rfl
      · exact h
  · exact h

theorem Owes.holdRequest (h : s.Owes ds) (p time : Nat) : (s.holdRequest p time).Owes ds := by
  unfold State.holdRequest
  split
  · exact (h.keepTx (x := { s.tx p with pendingHold := some time }) (PortTx.inFlight_congr rfl)).select p
  · exact h

theorem Owes.endHold (h : s.Owes ds) (p : Nat) : (s.endHold p).Owes ds := by
  unfold State.endHold
  dsimp only
  split
  · next hstate =>
    exact (h.keepTx (by simp [PortTx.inFlight, hstate])).select p
  · exact h.keepTx (PortTx.inFlight_congr rfl)
  · exact h.keepTx (PortTx.inFlight_congr rfl)

theorem Owes.receivedHold (h : s.Owes ds) (p time : Nat) : (s.receivedHold p time).Owes ds := by
  unfold State.receivedHold
  split
  · split
    · split
      · exact h.endHold p
      · exact h
    · refine h.keepTx ?_
      cases hstate : (s.tx p).state <;> simp [PortTx.inFlight, hstate]
  · exact h

theorem Owes.holdTick (h : s.Owes ds) (p : Nat) : (s.holdTick p).Owes ds := by
  unfold State.holdTick
  dsimp only
  split
  · split
    · split
      · exact h.endHold p
      · exact h.keepTx (PortTx.inFlight_congr rfl)
    · exact h.keepTx (PortTx.inFlight_congr rfl)
  · exact h

theorem Owes.copyEnds (h : s.Owes []) (p : Nat) : (s.copyEnds p).Owes [] := by
  unfold State.copyEnds
  split
  · next d hstate =>
    have hleft : (s.setTx p (s.tx p).afterFrame).Owes [d] := h.setTx (by
      rw [PortTx.inFlight_afterFrame]
      simp [PortTx.inFlight, hstate])
    exact (hleft.release .transmitted).select p
  all_goals exact h

theorem Owes.holdEnds (h : s.Owes ds) (p : Nat) : (s.holdEnds p).Owes ds := by
  unfold State.holdEnds
  split
  · next hstate =>
    refine (h.keepTx ?_).select p
    rw [PortTx.inFlight_afterFrame]
    simp [PortTx.inFlight, hstate]
  all_goals exact h

theorem Owes.releaseAll (h : s.Owes (ds ++ es)) : (ds.foldl State.releaseFlushed s).Owes es := by
  induction ds generalizing s with
  | nil => exact h
  | cons d ds ih => exact ih (h.release .flushed)

theorem Owes.flushQueue (h : s.Owes ds) (q : Nat) : (s.flushQueue q).Owes ds :=
  Owes.releaseAll (h.setQueue (es := s.queue q ++ ds) (by rw [List.append_nil]; exact List.perm_append_comm))

theorem Owes.flushQueues (h : s.Owes ds) (p : Nat) : (s.flushQueues p).Owes ds :=
  (((h.flushQueue _).flushQueue _).flushQueue _).flushQueue _

theorem flushQueue_setTx (s : State) (q p : Nat) (x : PortTx) : (s.setTx p x).flushQueue q = (s.flushQueue q).setTx p x := by
  have hfold : ∀ (ds : List Desc) (z : State),
      ds.foldl State.releaseFlushed (z.setTx p x) = (ds.foldl State.releaseFlushed z).setTx p x := fun ds => by
    induction ds with
    | nil => exact fun _ => rfl
    | cons d ds ih => exact fun z => ih (z.releaseFlushed d)
  exact hfold (s.queue q) (s.setQueue q [])

theorem flushQueues_setTx (s : State) (p q : Nat) (x : PortTx) : (s.setTx q x).flushQueues p = (s.flushQueues p).setTx q x := by
  simp only [State.flushQueues, flushQueue_setTx]

theorem truncate_setTx (s : State) (p : Nat) (x : PortTx) : (s.truncate p).setTx p x =
    (s.tx p).inFlight.foldl (fun z d => z.release d .truncated) (s.setTx p x) := by
  unfold State.truncate PortTx.inFlight
  cases (s.tx p).state with
  | sending f => cases f <;> rfl
  | idle => rfl
  | held => rfl

/-- The link-loss flush leaves the transmitter as after reset first. -/
theorem linkLoss_eq (s : State) (p : Nat) : s.linkLoss p =
    ((s.tx p).inFlight.foldl (fun z d => z.release d .truncated) (s.setTx p PortTx.reset)).flushQueues p := by
  unfold State.linkLoss
  rw [← truncate_setTx, flushQueues_setTx]

theorem Owes.linkLoss (h : s.Owes ds) (p : Nat) : (s.linkLoss p).Owes ds := by
  rw [linkLoss_eq]
  have hcut : (s.setTx p PortTx.reset).Owes ((s.tx p).inFlight ++ ds) := h.setTx (by
    exact (List.append_nil _).symm ▸ List.perm_append_comm)
  refine Owes.flushQueues ?_ p
  generalize (s.tx p).inFlight = fs at hcut ⊢
  generalize s.setTx p PortTx.reset = z at hcut ⊢
  induction fs generalizing z with
  | nil => exact hcut
  | cons d fs ih => exact ih _ (hcut.release .truncated)

theorem Owes.each {f : State → Nat → State} (hf : ∀ {z : State} p, z.Owes ds → (f z p).Owes ds) (h : s.Owes ds) (ps : List Nat) :
    (s.each ps f).Owes ds :=
  foldl_induct (f := f) (P := fun z => z.Owes ds) (fun _ p hz => hf p hz) ps h

theorem Owes.compareHold (h : s.Owes ds) (p : Nat) : (s.compareHold p).Owes ds := by
  have hset : ∀ x, (s.setHold p x).Owes ds := fun _ => h
  unfold State.compareHold
  dsimp only
  split
  · exact (hset _).holdRequest ..
  · split
    · exact (hset _).holdRequest ..
    · exact h

theorem Owes.compareHolds (h : s.Owes ds) : s.compareHolds.Owes ds := h.each (fun p hz => hz.compareHold p) accessPorts

theorem Owes.mapTx (h : s.Owes ds) {f : PortTx → PortTx} (hf : ∀ x, (f x).inFlight = x.inFlight) (ps : List Nat) :
    (s.mapTx ps f).Owes ds := Owes.each (f := fun z p => z.setTx p (f (z.tx p))) (fun _ hz => hz.keepTx (hf _)) h ps

theorem Owes.egressTick (h : s.Owes ds) : s.egressTick.Owes ds := by
  have hcounted := h.mapTx (f := PortTx.reportTick) (fun x => by
    unfold PortTx.reportTick
    split <;> exact PortTx.inFlight_congr rfl) allPorts
  exact hcounted.each (fun p hz => hz.flushQueues p) _

theorem Owes.placeCopy {d : Desc} (h : s.Owes (d :: ds)) : (s.placeCopy d).Owes ds := by
  unfold State.placeCopy
  split
  · refine Owes.select (h.setQueue ?_) _
    rw [List.cons_append, ← List.append_assoc]
    exact (List.perm_append_singleton d _).symm
  · exact h.release .flushed

theorem Owes.placeCopies (h : s.Owes (ds ++ es)) : (ds.foldl State.placeCopy s).Owes es := by
  induction ds generalizing s with
  | nil => exact h
  | cons d ds ih => exact ih h.placeCopy

theorem Owes.admitArrival (h : s.Owes []) {a : Arrival} (htenant : 1 ≤ a.tenant ∧ a.tenant ≤ 255) : (s.admitArrival a).Owes [] := by
  have hadmit : ∀ w, s.admitDecision a (s.withinLimits a) ≠ .refused →
      (((s.withinLimits a).map (descOf s.bm.nextFrame a.cls)).foldl State.placeCopy
        { s with bm := s.bm.admitFrame a (s.withinLimits a) w }).Owes [] := fun w hw => by
    obtain ⟨hqueues, hports, hacc⟩ := h
    obtain ⟨hsome, hdesc, hcells, -⟩ : s.withinLimits a ≠ [] ∧ ¬s.bm.freeDescriptors < (s.withinLimits a).length ∧
        ¬s.bm.freeCells < a.cells ∧ ¬_ := by
      simpa only [ne_eq, admitDecision_refused_iff, not_or] using hw
    exact Owes.placeCopies ⟨hqueues, hports, (List.append_nil _).symm ▸
      BufferManager.Accounts.admitFrame hacc htenant hsome (Nat.not_lt.1 hdesc) (Nat.not_lt.1 hcells) w⟩
  unfold State.admitArrival
  dsimp only
  split
  · split
    · exact h
    · exact h.of_reports rfl rfl
  · next hw => exact hadmit _ (by simpa using hw)

/-! ## The other blocks -/

theorem Owes.evaluateTenants (h : s.Owes ds) : s.evaluateTenants.Owes ds := by
  unfold State.evaluateTenants
  dsimp only
  split
  · exact h.of_same rfl rfl
  · exact Owes.compareHolds (h.of_same rfl rfl)

theorem Owes.takeChange (h : s.Owes ds) (c : Change) : (s.takeChange c).Owes ds := by
  have hstages : (if c.measure.isSome then { s with rc := s.rc.store c }.evaluateStages else { s with rc := s.rc.store c }).Owes ds := by
    split
    · exact h.of_same (by simp) (by simp)
    · exact h.of_same rfl rfl
  unfold State.takeChange
  dsimp only
  split
  · exact hstages.evaluateTenants
  · exact hstages

theorem Owes.nextChange (h : s.Owes ds) : s.nextChange.Owes ds := by
  unfold State.nextChange
  split
  · exact Owes.takeChange (by exact h.of_reports rfl rfl) _
  · exact h

theorem Owes.renewTick (h : s.Owes ds) (p : Nat) : (s.renewTick p).Owes ds := by
  have hset : ∀ x, (s.setHold p x).Owes ds := fun _ => h
  unfold State.renewTick
  dsimp only
  split
  · split
    · split
      · exact (hset _).holdRequest ..
      · exact hset _
    · exact hset _
  · exact h

theorem Owes.linkFault (h : s.Owes ds) (p : Nat) : (s.linkFault p).Owes ds := by
  have hcut : ((s.setLink p ((s.link p).faulted s.cfg.flapLimit)).cutReception p).Owes ds := h
  have hlost := hcut.linkLoss p
  unfold State.linkFault
  dsimp only
  generalize State.linkLoss _ p = z at hlost ⊢
  unfold State.faultReports
  split
  · exact Owes.compareHolds (hlost.of_same rfl rfl)
  · exact hlost.of_same (by simp) (by simp)
  · exact hlost.of_same (by simp) (by simp)

theorem Owes.enterUp (h : s.Owes ds) (p : Nat) : (s.enterUp p).Owes ds := by
  have hset : (s.setLink p { s.link p with state := .up }).Owes ds := h
  have hselect := hset.select p
  unfold State.enterUp State.upReports
  generalize State.select _ p = z at hselect ⊢
  split
  · exact hselect.compareHolds
  · exact hselect.of_same (by simp) (by simp)
  · exact hselect.of_same (by simp) (by simp)

theorem Owes.judged (h : s.Owes ds) (p : Nat) (bad : Bool) : (s.judged p bad).Owes ds := by
  have hset : ∀ l, (s.setLink p l).Owes ds := fun _ => h
  have hchanged : ∀ l, ((s.setLink p l).uplinkChanged p).Owes ds := fun l => (hset l).of_same (by simp) (by simp)
  unfold State.judged
  dsimp only
  split
  · split
    · exact hchanged _
    · exact h
  · split
    · exact hset _
    · split
      · exact (hset _).enterUp p
      · exact hset _
  · split
    · exact hchanged _
    · exact h
  · split
    · exact h.linkFault p
    · exact hchanged _
  · exact h

theorem Owes.judgeWindow (h : s.Owes ds) (p : Nat) : (s.judgeWindow p).Owes ds := Owes.judged (by exact h) p _

theorem Owes.takeWindowEnd (h : s.Owes ds) (p : Nat) : (s.takeWindowEnd p).Owes ds := by
  unfold State.takeWindowEnd
  split
  · exact Owes.judgeWindow (by exact h) p
  · split
    · exact Owes.judgeWindow (by exact h) p
    · exact h

theorem Owes.signalGone (h : s.Owes ds) (p : Nat) : (s.signalGone p).Owes ds := by
  have hset : ∀ l, (s.setLink p l).Owes ds := fun _ => h
  unfold State.signalGone
  dsimp only
  split
  · split
    · exact hset _
    · exact hset _
    · exact h.of_same (by simp) (by simp)
    · exact (hset _).linkFault p
    · exact (hset _).linkFault p
  · exact hset _

theorem Owes.fineTick (h : s.Owes ds) : s.fineTick.Owes ds := by
  have hcounted := (h.of_same (t := s.prescalerTick.windowTick) (by simp) (by simp)).mapTx (f := PortTx.fineTick) (fun x => by
    unfold PortTx.fineTick
    repeat' split
    all_goals exact PortTx.inFlight_congr rfl) allPorts
  exact hcounted.of_same (by simp [State.fineTick]) (by simp [State.fineTick])

theorem Owes.receiveFrame (h : s.Owes ds) (p : Nat) (frame : ReceivedFrame) : (s.receiveFrame p frame).Owes ds := by
  have hcontrol : ∀ {z : State} bytes, z.Owes ds → (z.controlFrame p bytes).Owes ds := fun bytes hz => by
    unfold State.controlFrame
    split
    · exact hz.receivedHold ..
    · exact hz
  have hcheck : ∀ {z : State} bytes, z.Owes ds → (z.checkFrame p bytes).Owes ds := fun bytes hz => by
    unfold State.checkFrame
    split
    · unfold State.receiveCross
      split
      · split
        · exact hz
        · exact hcontrol _ hz
      · dsimp only
        split <;> exact hz.of_same rfl rfl
    · unfold State.receivePlain
      split
      · exact hz
      · split
        · exact hcontrol _ hz
        · exact hz.of_same (by simp) (by simp)
  have hset : ∀ i, (s.setIntake p i).Owes ds := fun _ => h
  unfold State.receiveFrame
  dsimp only
  split
  · exact hcheck _ (hset _)
  · exact hset _
  · split
    · exact hcheck _ (hset _)
    · exact hset _
  · exact h

/-! ## Tenants (R6, R8) -/

/-- Every arrival record, and every entry of the tenant map, is of a tenant 1 to 255. -/
def Tenanted (s : State) : Prop :=
  (∀ a ∈ s.iu.arrivals, 1 ≤ a.tenant ∧ a.tenant ≤ 255) ∧ ∀ e ∈ s.cfg.tenantMap, 1 ≤ e.tenant ∧ e.tenant ≤ 255

theorem Tenanted.of_same (h : s.Tenanted) (harr : t.iu.arrivals = s.iu.arrivals) (hcfg : t.cfg = s.cfg) : t.Tenanted := by
  unfold Tenanted at *; rwa [harr, hcfg]

theorem Tenanted.forward (h : s.Tenanted) {tenant : Nat} (htenant : 1 ≤ tenant ∧ tenant ≤ 255) (kind : ArrivalKind) (p cls : Nat)
    (frame : List Byte) (borrowed flood : Bool) : (s.forward kind p tenant cls frame borrowed flood).Tenanted := by
  refine ⟨fun a ha => ?_, h.2⟩
  rcases List.mem_append.1 ha with hold | hnew
  · exact h.1 a hold
  · rw [List.mem_singleton.1 hnew]; exact htenant

theorem Tenanted.tenantOf (h : s.Tenanted) {sc : Scope} {tag n : Nat} (hn : s.tenantOf sc tag = some n) : 1 ≤ n ∧ n ≤ 255 := by
  obtain ⟨e, he, rfl⟩ := Option.map_eq_some_iff.1 hn
  exact h.2 e (List.mem_of_find?_eq_some he)

theorem Tenanted.checkFrame (h : s.Tenanted) (p : Nat) (bytes : List Byte) : (s.checkFrame p bytes).Tenanted := by
  have hcontrol : ∀ frame, (s.controlFrame p frame).Tenanted := fun frame => by
    unfold State.controlFrame
    split
    · exact h.of_same (by simp) (by simp)
    · exact h
  unfold State.checkFrame
  split
  · unfold State.receiveCross
    split
    · split
      · exact h
      · exact hcontrol _
    · dsimp only
      split
      · exact h
      · next hgood =>
        have hzero : (readHeader bytes).tenant ≠ 0 := fun hzero => hgood (by simp [State.headerBad, hzero])
        exact h.forward ⟨Nat.pos_of_ne_zero hzero, byteAt_le bytes 1⟩ ..
  · unfold State.receivePlain
    split
    · exact h
    · split
      · exact hcontrol _
      · unfold State.classify
        split
        · exact h
        · next hn =>
          dsimp only
          split
          · exact Tenanted.forward (by exact h) (h.tenantOf hn) ..
          · exact h.forward (h.tenantOf hn) ..

theorem Tenanted.receiveFrame (h : s.Tenanted) (p : Nat) (frame : ReceivedFrame) : (s.receiveFrame p frame).Tenanted := by
  have hidle : ∀ i, (s.setIntake p i).Tenanted := fun _ => h
  unfold State.receiveFrame
  dsimp only
  split
  · exact (hidle _).checkFrame ..
  · exact h
  · split
    · exact (hidle _).checkFrame ..
    · exact h
  · exact h

theorem Tenanted.admitFrom (h : s.Tenanted) (p : Nat) : (s.admitFrom p).Tenanted := by
  unfold State.admitFrom
  split
  · next a rest htake =>
    have hrest : State.Tenanted { s with iu := { s.iu with arrivals := rest } } :=
      ⟨fun b hb => h.1 b ((takeArrival_mem htake).2 hb), h.2⟩
    exact hrest.of_same (by simp) (by simp)
  · exact h

theorem Owes.admitFrom (h : s.Owes []) (hn : s.Tenanted) (p : Nat) : (s.admitFrom p).Owes [] := by
  unfold State.admitFrom
  split
  · next htake => exact Owes.admitArrival (by exact h.of_same rfl rfl) (hn.1 _ (takeArrival_mem htake).1)
  · exact h

theorem Tenanted.endLoad (h : s.Tenanted) (b : List Byte) : (s.endLoad b).Tenanted := by
  unfold State.endLoad
  split
  · split
    · refine ⟨h.1, fun e he => ?_⟩
      obtain ⟨hlow, hhigh, -⟩ := mem_readTenantMap he
      exact ⟨hlow, hhigh⟩
    all_goals exact h
  · exact h

/-! ## Every step -/

theorem buffer_iff : s.BufferLinked ∧ s.BufferSound ↔ s.Balanced ∧ s.Tenanted := by
  constructor
  · rintro ⟨⟨hframes, hqueues, hports, hlinked, hstored, harr, hmap⟩, hcells, huse, hqueue, hdesc⟩
    exact ⟨⟨hqueues, hports, hframes, hcells, huse, hqueue, hdesc, fun i f hf => hlinked _ (Tab.mem_of_find? hf), hstored⟩, harr, hmap⟩
  · rintro ⟨⟨hqueues, hports, hframes, hcells, huse, hqueue, hdesc, hlinked, hstored⟩, harr, hmap⟩
    exact ⟨⟨hframes, hqueues, hports, fun e he => hlinked _ _ (Tab.find?_of_mem hframes he), hstored, harr, hmap⟩, hcells, huse, hqueue,
      hdesc⟩

theorem Tenanted.after (h : s.Tenanted) (c : Instr) : (s.after c).Tenanted := by
  cases c with
  | reset straps signals => exact ⟨nofun, nofun⟩
  | imageLoadEnd b => exact h.endLoad b
  | frameReception p frame => exact (h.receiveFrame p frame).of_same (by simp [State.after]) (by simp [State.after])
  | admission p => exact h.admitFrom p
  | _ => exact h.of_same (after_arrivals s _ nofun nofun nofun) (by simp [State.after])

theorem Balanced.after (h : s.Balanced) (hn : s.Tenanted) (c : Instr) : (s.after c).Balanced := by
  have tick : ∀ u, ∀ {z : State}, z.Balanced → (z.reportAct u).Balanced := fun u z hz => by
    cases u with
    | egressScheduler => exact Owes.egressTick hz
    | _ => exact Owes.of_same hz (by simp [State.reportAct]) (by simp [State.reportAct])
  have take : ∀ {z : State}, z.Balanced → z.takeFrame.Balanced := fun hz => Owes.of_same hz (by simp) (by simp)
  have act : ∀ (p : Notice → Bool) {f : State → Notice → State}, (∀ (z : State) n, (f z n).es = z.es) →
      (∀ (z : State) n, (f z n).bm = z.bm) → (s.process p f).Balanced := fun p f hes hbm =>
    Owes.of_same h (State.process_eq State.es s rfl (fun n => hes _ n) (by simp))
      (State.process_eq State.bm s rfl (fun n => hbm _ n) (by simp))
  cases c with
  | reset straps signals => exact (buffer_iff.1 ⟨bufferLinked_resetWith s straps signals, bufferSound_resetWith s straps signals⟩).1
  | fineTick => exact Owes.fineTick h
  | windowEnd p => exact take (Owes.takeWindowEnd h p)
  | signalLost p => exact take (Owes.signalGone h p)
  | reportTick u => exact take (State.reportTick_keeps (P := State.Balanced) (fun _ _ hz => hz) (fun _ hz => tick u hz) h)
  | heldLimitFlush p => exact take (State.reportTickIf_keeps (P := State.Balanced) (fun _ _ hz => hz) (fun _ hz => tick _ hz) _ h)
  | frameReception p frame => exact take (Owes.receiveFrame h p frame)
  | admission p => exact Owes.admitFrom h hn p
  | copyTransmitted p => exact Owes.copyEnds h p
  | holdFrameEnd p => exact Owes.holdEnds h p
  | receivedHoldTimerExpiry p => exact Owes.holdTick h p
  | renewTimerExpiry p => exact Owes.renewTick h p
  | changeEvent => exact take (Owes.nextChange h)
  | ageTick u =>
    exact take (Owes.of_same h (State.ageTick_eq State.es s u (fun _ _ => rfl) fun z => by cases u <;> simp [State.ageAct])
      (State.ageTick_eq State.bm s u (fun _ _ => rfl) fun z => by cases u <;> simp [State.ageAct]))
  | usageReport =>
    simp only [State.after, State.takeUsage]
    split
    · exact Owes.of_reports h rfl rfl
    · exact h
  | refusalReport =>
    simp only [State.after, State.takeRefusal]
    split
    · exact Owes.of_reports h rfl rfl
    · exact h
  | lossReport =>
    simp only [State.after, State.takeLoss]
    split
    · exact Owes.of_reports h rfl rfl
    · exact h
  | levelNotice | addressNotice | borrowNotice | grantNotice | withdrawNotice | returnNotice | billFetchPlain
  | billFetchRepeat | statusFetch => exact act _ (by simp) (by simp)
  | _ => exact Owes.of_same h (by simp [State.after]) (by simp [State.after])

end State

/-- Settles O26: the copies that leave the Egress Scheduler are those that the Buffer Manager releases, and those that an admission
counts are placed. -/
theorem bufferKept : Obligations.BufferKept := by
  unfold Obligations.BufferKept
  intro s t h hstep
  exact State.buffer_iff.2 (step_keeps (P := fun z => z.Balanced ∧ z.Tenanted) (fun _ _ hz => hz)
    (fun _ c hz => ⟨hz.1.after hz.2 c, hz.2.after c⟩) (State.buffer_iff.1 h) hstep)

end Sys2Proof.Machine
end

section
/-! Copies that leave without having been sent (R15, R16, R45, R46): what becomes of their frames, the flush of class queues, and the
Egress Scheduler's report tick. -/

namespace Sys2Proof.Machine

open Sys2Proof.Config

/-! ## Copies released without having been sent -/

namespace BufferManager

variable {b c : BufferManager} {d : Desc} {f : StoredFrame} {o : ReleaseOutcome}

/-- Release copies in turn, each with its outcome (R15). -/
def releaseAll (b : BufferManager) (xs : List (Desc × ReleaseOutcome)) : BufferManager := xs.foldl (fun b x => b.release x.1 x.2) b

/-- How many of the copies are of frame i. -/
def copiesOf (ds : List Desc) (i : Nat) : Nat := (ds.filter fun d => d.frame == i).length

/-- The loss report of a frame (R16). -/
def lossOf (f : StoredFrame) : LossReport := { tenant := f.tenant, length := f.length }

/-- Does a frame earn the loss credit when its last copy leaves without having been sent (R16)? -/
def Earns (f : StoredFrame) : Prop := f.metered = true ∧ f.transmitted = false

/-- From b to c as many copies of each frame as n says leave without having been sent: a frame that keeps another copy counts them
off, any other is deleted, with a loss report when it earns one (R15, R16). -/
structure Discards (b c : BufferManager) (n : Nat → Nat) : Prop where
  kept : ∀ i f, Tab.find? b.frames i = some f → n i = 0 → Tab.find? c.frames i = some f
  counted : ∀ i f, Tab.find? b.frames i = some f → 1 ≤ n i → n i < f.outstanding →
    Tab.find? c.frames i = some { f with outstanding := f.outstanding - n i }
  deleted : ∀ i f, Tab.find? b.frames i = some f → 1 ≤ f.outstanding → f.outstanding ≤ n i →
    Tab.find? c.frames i = none ∧ (Earns f → lossOf f ∈ c.losses)
  missing : ∀ i, Tab.find? b.frames i = none → Tab.find? c.frames i = none
  losses : b.losses ⊆ c.losses
  earned : ∀ r ∈ c.losses, r ∈ b.losses ∨ ∃ i f, Tab.find? b.frames i = some f ∧ f.outstanding ≤ n i ∧ Earns f ∧ r = lossOf f
  reports : c.usageReports = b.usageReports ∧ c.refusals = b.refusals

theorem Discards.of_empty (b : BufferManager) {n : Nat → Nat} (hn : ∀ i, n i = 0) : b.Discards b n where
  kept _ _ hf _ := hf
  counted i _ _ hpos _ := absurd (hn i) (Nat.ne_of_gt hpos)
  deleted i _ _ hpos hle := absurd (Nat.le_trans hpos hle) (by rw [hn i]; exact Nat.not_succ_le_zero 0)
  missing _ h := h
  losses := List.Subset.refl _
  earned _ hr := .inl hr
  reports := ⟨rfl, rfl⟩

/-- A release of a copy of which other copies of the frame are left. -/
theorem frames_release_of_more (hf : Tab.find? b.frames d.frame = some f) (hmore : 1 < f.outstanding) (ho : o ≠ .transmitted) :
    (b.release d o).losses = b.losses ∧ (∀ i, Tab.find? (b.release d o).frames i =
      if i = d.frame then some { f with outstanding := f.outstanding - 1 } else Tab.find? b.frames i) := by
  rw [release_of_more hf hmore]
  dsimp only
  rw [sendChange_eq]
  refine ⟨rfl, fun i => (Tab.find?_put _ _ _ _).trans ?_⟩
  have hsent : f.afterRelease o = { f with outstanding := f.outstanding - 1 } := by
    cases o <;> simp [StoredFrame.afterRelease] at ho ⊢
  rw [hsent]

theorem frames_release_of_last (hf : Tab.find? b.frames d.frame = some f) (hlast : f.outstanding ≤ 1) (ho : o ≠ .transmitted) :
    (b.release d o).losses = b.losses ++ (if f.metered && !f.transmitted then [lossOf f] else []) ∧
    (∀ i, Tab.find? (b.release d o).frames i = if i = d.frame then none else Tab.find? b.frames i) := by
  rw [release_of_last hf hlast]
  dsimp only
  rw [sendChange_eq]
  refine ⟨?_, fun i => Tab.find?_drop _ _ _⟩
  have hsent : (f.afterRelease o).transmitted = f.transmitted := by
    cases o <;> simp [StoredFrame.afterRelease] at ho ⊢
  change (if (f.metered && !(f.afterRelease o).transmitted) = true then _ else _) = _
  rw [hsent]
  split
  · rfl
  · exact (List.append_nil _).symm

theorem release_reports (b : BufferManager) (d : Desc) (o : ReleaseOutcome) :
    (b.release d o).usageReports = b.usageReports ∧ (b.release d o).refusals = b.refusals := by
  cases hf : Tab.find? b.frames d.frame with
  | none => rw [release_of_missing hf]; exact ⟨rfl, rfl⟩
  | some f =>
    by_cases hlast : f.outstanding ≤ 1
    · rw [release_of_last hf hlast]; dsimp only; rw [sendChange_eq]; exact ⟨rfl, rfl⟩
    · rw [release_of_more hf (Nat.not_le.1 hlast)]; dsimp only; rw [sendChange_eq]; exact ⟨rfl, rfl⟩

theorem earns_iff : Earns f ↔ (f.metered && !f.transmitted) = true := by simp [Earns]

theorem Discards.release_first {ds : List Desc} (ho : o ≠ .transmitted) (h : (b.release d o).Discards c (copiesOf ds)) :
    b.Discards c (copiesOf (d :: ds)) := by
  have hsame : copiesOf (d :: ds) d.frame = copiesOf ds d.frame + 1 := copies_cons_self
  have hother : ∀ i, i ≠ d.frame → copiesOf (d :: ds) i = copiesOf ds i := fun _ => copies_cons_ne
  have hreports := release_reports b d o
  cases hf : Tab.find? b.frames d.frame with
  | none =>
    rw [release_of_missing hf] at h
    have hne : ∀ i g, Tab.find? b.frames i = some g → copiesOf (d :: ds) i = copiesOf ds i := fun i g hg =>
      hother i fun hi => by rw [hi] at hg; exact nomatch hf.symm.trans hg
    exact ⟨fun i g hg => (hne i g hg).symm ▸ h.kept i g hg, fun i g hg => (hne i g hg).symm ▸ h.counted i g hg,
      fun i g hg => (hne i g hg).symm ▸ h.deleted i g hg, h.missing, h.losses,
      fun r hr => (h.earned r hr).imp_right fun ⟨i, g, hg, hle, hrest⟩ => ⟨i, g, hg, (hne i g hg).symm ▸ hle, hrest⟩, h.reports⟩
  | some f =>
    by_cases hlast : f.outstanding ≤ 1
    · obtain ⟨hloss, hframes⟩ := frames_release_of_last hf hlast ho
      have hkeep : ∀ i, i ≠ d.frame → Tab.find? (b.release d o).frames i = Tab.find? b.frames i := fun i hi => (hframes i).trans (if_neg hi)
      have hgone : Tab.find? c.frames d.frame = none := h.missing _ ((hframes _).trans (if_pos rfl))
      refine ⟨fun i g hg hn => ?_, fun i g hg hpos hlt => ?_, fun i g hg hpos hle => ?_, fun i hi => ?_, ?_, fun r hr => ?_,
        h.reports.1.trans hreports.1, h.reports.2.trans hreports.2⟩
      · by_cases hi : i = d.frame
        · rw [hi, hsame] at hn; exact absurd hn (Nat.succ_ne_zero _)
        · rw [hother i hi] at hn; exact h.kept i g ((hkeep i hi).trans hg) hn
      · by_cases hi : i = d.frame
        · subst hi
          cases hf.symm.trans hg
          omega
        · rw [hother i hi] at hpos hlt ⊢; exact h.counted i g ((hkeep i hi).trans hg) hpos hlt
      · by_cases hi : i = d.frame
        · subst hi
          cases hf.symm.trans hg
          refine ⟨hgone, fun hearns => h.losses ?_⟩
          rw [hloss, if_pos (earns_iff.1 hearns)]
          exact List.mem_append_right _ List.mem_cons_self
        · rw [hother i hi] at hle; exact h.deleted i g ((hkeep i hi).trans hg) hpos hle
      · by_cases hid : i = d.frame
        · rw [hid]; exact hgone
        · exact h.missing i ((hkeep i hid).trans hi)
      · exact List.Subset.trans (hloss ▸ List.subset_append_left _ _) h.losses
      · rcases h.earned r hr with hold | ⟨i, g, hg, hle, hrest⟩
        · rw [hloss] at hold
          rcases List.mem_append.1 hold with hold | hnew
          · exact .inl hold
          · split at hnew
            · next hearns =>
              exact .inr ⟨d.frame, f, hf, by omega, earns_iff.2 hearns, List.mem_singleton.1 hnew⟩
            · exact nomatch hnew
        · have hi : i ≠ d.frame := fun hi => by
            rw [hi, hframes, if_pos rfl] at hg
            exact nomatch hg
          exact .inr ⟨i, g, (hkeep i hi).symm.trans hg, (hother i hi).symm ▸ hle, hrest⟩
    · obtain ⟨hloss, hframes⟩ := frames_release_of_more (o := o) hf (Nat.not_le.1 hlast) ho
      have hkeep : ∀ i, i ≠ d.frame → Tab.find? (b.release d o).frames i = Tab.find? b.frames i := fun i hi => (hframes i).trans (if_neg hi)
      have hleft : Tab.find? (b.release d o).frames d.frame = some { f with outstanding := f.outstanding - 1 } :=
        (hframes _).trans (if_pos rfl)
      refine ⟨fun i g hg hn => ?_, fun i g hg hpos hlt => ?_, fun i g hg hpos hle => ?_, fun i hi => ?_, ?_, fun r hr => ?_,
        h.reports.1.trans hreports.1, h.reports.2.trans hreports.2⟩
      · by_cases hi : i = d.frame
        · rw [hi, hsame] at hn; exact absurd hn (Nat.succ_ne_zero _)
        · rw [hother i hi] at hn; exact h.kept i g ((hkeep i hi).trans hg) hn
      · by_cases hi : i = d.frame
        · subst hi
          cases hf.symm.trans hg
          rw [hsame] at hlt ⊢
          by_cases hnone : copiesOf ds d.frame = 0
          · rw [hnone, Nat.zero_add]
            exact h.kept _ _ hleft hnone
          · refine (h.counted _ _ hleft (Nat.pos_of_ne_zero hnone) (Nat.lt_sub_of_add_lt hlt)).trans ?_
            simp only [Nat.sub_sub, Nat.add_comm 1]
        · rw [hother i hi] at hpos hlt ⊢; exact h.counted i g ((hkeep i hi).trans hg) hpos hlt
      · by_cases hi : i = d.frame
        · subst hi
          cases hf.symm.trans hg
          rw [hsame] at hle
          have hdeleted := h.deleted _ _ hleft (Nat.le_sub_of_add_le (Nat.not_le.1 hlast)) (Nat.sub_le_of_le_add hle)
          exact hdeleted
        · rw [hother i hi] at hle; exact h.deleted i g ((hkeep i hi).trans hg) hpos hle
      · have hid : i ≠ d.frame := fun hid => by rw [hid] at hi; exact nomatch hf.symm.trans hi
        exact h.missing i ((hkeep i hid).trans hi)
      · exact hloss ▸ h.losses
      · rcases h.earned r hr with hold | ⟨i, g, hg, hle, hrest⟩
        · exact .inl (hloss ▸ hold)
        · by_cases hi : i = d.frame
          · subst hi
            cases hleft.symm.trans hg
            refine .inr ⟨_, f, hf, ?_, hrest⟩
            rw [hsame]
            exact Nat.le_add_of_sub_le hle
          · exact .inr ⟨i, g, (hkeep i hi).symm.trans hg, (hother i hi).symm ▸ hle, hrest⟩

theorem discards_releaseAll (b : BufferManager) {xs : List (Desc × ReleaseOutcome)} (h : ∀ x ∈ xs, x.2 ≠ .transmitted) :
    b.Discards (b.releaseAll xs) (copiesOf (xs.map Prod.fst)) := by
  induction xs generalizing b with
  | nil => exact .of_empty b fun _ => rfl
  | cons x xs ih =>
    exact Discards.release_first (h x List.mem_cons_self) (ih (b.release x.1 x.2) fun y hy => h y (List.mem_cons_of_mem _ hy))

theorem Discards.perm {ds es : List Desc} (h : b.Discards c (copiesOf ds)) (hp : ds.Perm es) : b.Discards c (copiesOf es) := by
  have hsame : copiesOf ds = copiesOf es := funext fun _ => (hp.filter _).length_eq
  exact hsame ▸ h

/-- What becomes of a frame and which loss reports there are, field by field. -/
theorem Discards.spec {n : Nat → Nat} (h : b.Discards c n) :
    (∀ i f, Tab.find? b.frames i = some f →
      (n i = 0 → Tab.find? c.frames i = some f) ∧
      (1 ≤ n i → n i < f.outstanding → Tab.find? c.frames i = some { f with outstanding := f.outstanding - n i }) ∧
      (1 ≤ f.outstanding → f.outstanding ≤ n i → Tab.find? c.frames i = none ∧
        (f.metered = true → f.transmitted = false → { tenant := f.tenant, length := f.length } ∈ c.losses))) ∧
    (∀ r ∈ c.losses, r ∈ b.losses ∨ ∃ i f, Tab.find? b.frames i = some f ∧ f.outstanding ≤ n i ∧
      f.metered = true ∧ f.transmitted = false ∧ r = { tenant := f.tenant, length := f.length }) := by
  refine ⟨fun i f hf => ⟨h.kept i f hf, h.counted i f hf, fun hpos hle => ?_⟩, fun r hr => (h.earned r hr).imp_right ?_⟩
  · obtain ⟨hgone, hloss⟩ := h.deleted i f hf hpos hle
    exact ⟨hgone, fun hmetered hunsent => hloss ⟨hmetered, hunsent⟩⟩
  · rintro ⟨i, f, hf, hle, ⟨hmetered, hunsent⟩, hr⟩
    exact ⟨i, f, hf, hle, hmetered, hunsent, hr⟩

theorem releaseAll_append (b : BufferManager) (xs ys : List (Desc × ReleaseOutcome)) :
    b.releaseAll (xs ++ ys) = (b.releaseAll xs).releaseAll ys := List.foldl_append

end BufferManager

/-! ## Flushes (R45, R46) -/

namespace State

variable {s : State}

/-- The copies queued on a port, as a flush takes them (R45). -/
def portCopies (s : State) (p : Nat) : List Desc := [3, 2, 1, 0].flatMap fun c => s.queue (queueKey p c)

/-- Copies released FLUSHED. -/
def flushed (ds : List Desc) : List (Desc × ReleaseOutcome) := ds.map fun d => (d, .flushed)

theorem flushed_append (ds es : List Desc) : flushed (ds ++ es) = flushed ds ++ flushed es := List.map_append

theorem bm_releases (s : State) (ds : List Desc) : (ds.foldl State.releaseFlushed s).bm = s.bm.releaseAll (flushed ds) := by
  induction ds generalizing s with
  | nil => rfl
  | cons d ds ih => exact ih (s.releaseFlushed d)

theorem bm_flushQueue (s : State) (q : Nat) : (s.flushQueue q).bm = s.bm.releaseAll (flushed (s.queue q)) := bm_releases (s.setQueue q []) _

theorem queue_flushQueue_ne (s : State) {p c d : Nat} (h : c ≠ d) (hc : c ≤ 3) (hd : d ≤ 3) :
    (s.flushQueue (queueKey p d)).queue (queueKey p c) = s.queue (queueKey p c) := by
  rw [queue_flushQueue, if_neg fun hk => h ((queueKey_inj hc hd).1 hk).2]

theorem bm_flushQueues (s : State) (p : Nat) : (s.flushQueues p).bm = s.bm.releaseAll (flushed (s.portCopies p)) := by
  have hcopies : s.portCopies p = s.queue (queueKey p 3) ++ s.queue (queueKey p 2) ++ s.queue (queueKey p 1) ++ s.queue (queueKey p 0) := by
    simp [portCopies]
  rw [hcopies]
  simp only [State.flushQueues, bm_flushQueue, queue_flushQueue_ne _ (show (2 : Nat) ≠ 3 by decide), queue_flushQueue_ne _ (show (1 : Nat) ≠ 3 by decide),
    queue_flushQueue_ne _ (show (1 : Nat) ≠ 2 by decide), queue_flushQueue_ne _ (show (0 : Nat) ≠ 3 by decide),
    queue_flushQueue_ne _ (show (0 : Nat) ≠ 2 by decide), queue_flushQueue_ne _ (show (0 : Nat) ≠ 1 by decide),
    show (2 : Nat) ≤ 3 by decide, show (1 : Nat) ≤ 3 by decide, show (0 : Nat) ≤ 3 by decide, Nat.le_refl, flushed_append,
    BufferManager.releaseAll_append]

/-- A flush of one port by the port and the class. -/
theorem queue_flushQueues_port (s : State) (p q : Nat) {c : Nat} (hc : c < 4) :
    (s.flushQueues p).queue (queueKey q c) = if q = p then [] else s.queue (queueKey q c) := by
  rw [queue_flushQueues]
  refine if_congr ?_ rfl rfl
  have hc3 : c ≤ 3 := Nat.le_of_lt_succ hc
  simp only [List.mem_cons, List.not_mem_nil, or_false, queueKey_inj hc3 (Nat.zero_le 3), queueKey_inj hc3 (show 1 ≤ 3 by decide),
    queueKey_inj hc3 (show 2 ≤ 3 by decide), queueKey_inj hc3 (Nat.le_refl 3)]
  omega

theorem portCopies_flushQueues_ne (s : State) {p q : Nat} (h : q ≠ p) : (s.flushQueues p).portCopies q = s.portCopies q := by
  have hqueue : ∀ c < 4, (s.flushQueues p).queue (queueKey q c) = s.queue (queueKey q c) := fun c hc =>
    (queue_flushQueues_port s p q hc).trans (if_neg h)
  simp [portCopies, hqueue]

theorem queue_flushPorts (s : State) (ps : List Nat) (q : Nat) {c : Nat} (hc : c < 4) :
    (s.each ps State.flushQueues).queue (queueKey q c) = if q ∈ ps then [] else s.queue (queueKey q c) := by
  induction ps generalizing s with
  | nil => rfl
  | cons p ps ih =>
    refine (ih (s.flushQueues p)).trans ?_
    rw [queue_flushQueues_port s p q hc]
    by_cases hq : q = p <;> simp [hq]

theorem tx_flushPorts (s : State) (ps : List Nat) (q : Nat) : (s.each ps State.flushQueues).tx q = s.tx q :=
  foldl_induct (f := State.flushQueues) (P := fun z => z.tx q = s.tx q) (fun z p hz => (tx_flushQueues z p q).trans hz) ps rfl

theorem bm_flushPorts (s : State) {ps : List Nat} (hps : ps.Nodup) :
    (s.each ps State.flushQueues).bm = s.bm.releaseAll (flushed (ps.flatMap s.portCopies)) := by
  induction ps generalizing s with
  | nil => rfl
  | cons p ps ih =>
    obtain ⟨hp, hnodup⟩ := List.nodup_cons.1 hps
    have hrest : ps.flatMap (s.flushQueues p).portCopies = ps.flatMap s.portCopies :=
      List.flatMap_congr fun q hq => portCopies_flushQueues_ne s fun h => hp (h ▸ hq)
    refine (ih (s.flushQueues p) hnodup).trans ?_
    rw [hrest, bm_flushQueues, ← BufferManager.releaseAll_append, ← flushed_append]
    rfl

theorem perm_portCopies (s : State) (p : Nat) : (s.portCopies p).Perm ((List.range 4).flatMap fun c => s.queue (queueKey p c)) :=
  List.Perm.flatMap_right _ (show [3, 2, 1, 0].Perm (List.range 4) by decide)

/-- What the flush of some ports makes of the stored frames. -/
theorem discards_flushPorts (s : State) {ps : List Nat} (hps : ps.Nodup) : s.bm.Discards (s.each ps State.flushQueues).bm
    (BufferManager.copiesOf (ps.flatMap fun p => (List.range 4).flatMap fun c => s.queue (queueKey p c))) := by
  rw [bm_flushPorts s hps]
  refine BufferManager.Discards.perm (BufferManager.discards_releaseAll _ fun x hx => ?_) (?_ : List.Perm _ _)
  · obtain ⟨d, -, rfl⟩ := List.mem_map.1 hx
    exact nofun
  · rw [flushed, List.map_map]
    exact (List.Perm.of_eq (List.map_id _)).trans (List.Perm.flatMap_left _ fun p _ => perm_portCopies s p)

/-! ## The received-hold timer (R43) -/

theorem holdTick_of_last {p : Nat} (hdue : (s.tx p).holdDue = true) (h : (s.tx p).rxHold = some 1) : s.holdTick p = s.endHold p := by
  unfold State.holdTick
  rw [if_pos hdue]
  split
  · next n hn => cases h.symm.trans hn; rfl
  · next hnone => exact nomatch h.symm.trans hnone

theorem holdTick_of_more {p n : Nat} (hdue : (s.tx p).holdDue = true) (h : (s.tx p).rxHold = some (n + 2)) :
    s.holdTick p = s.setTx p { s.tx p with rxHold := some (n + 1), holdDue := false } := by
  unfold State.holdTick
  rw [if_pos hdue]
  split
  · next m hm =>
    cases h.symm.trans hm
    exact if_neg (by omega)
  · next hnone => exact nomatch h.symm.trans hnone

/-! ## The Egress Scheduler's report tick (R44, R45) -/

/-- The ports that a report tick brings to the held limit, or finds there. -/
def limitedPorts (s : State) : List Nat := allPorts.filter fun p => (s.tx p).atLimit s.cfg.heldLimit

theorem nodup_limitedPorts (s : State) : s.limitedPorts.Nodup := List.Nodup.filter _ nodup_allPorts

theorem queue_mapTx (s : State) (ps : List Nat) (f : PortTx → PortTx) (q : Nat) : (s.mapTx ps f).queue q = s.queue q := by
  unfold State.queue
  rw [queues_mapTx]

theorem tx_egressTick (s : State) {p : Nat} (hp : p ∈ allPorts) : s.egressTick.tx p = (s.tx p).reportTick := by
  unfold State.egressTick
  rw [tx_flushPorts, tx_mapTx _ nodup_allPorts, if_pos hp]

theorem queue_egressTick (s : State) {p c : Nat} (hp : p ∈ allPorts) (hc : c < 4) : s.egressTick.queue (queueKey p c) =
    if (s.tx p).atLimit s.cfg.heldLimit then [] else s.queue (queueKey p c) := by
  unfold State.egressTick
  rw [queue_flushPorts _ _ _ hc, queue_mapTx]
  exact if_congr (by simp [hp]) rfl rfl

theorem discards_egressTick (s : State) : s.bm.Discards s.egressTick.bm
    (BufferManager.copiesOf (s.limitedPorts.flatMap fun p => (List.range 4).flatMap fun c => s.queue (queueKey p c))) := by
  have h := discards_flushPorts (s.mapTx allPorts PortTx.reportTick) s.nodup_limitedPorts
  have hbm : (s.mapTx allPorts PortTx.reportTick).bm = s.bm := by simp
  rw [hbm] at h
  simp only [queue_mapTx] at h
  unfold State.egressTick
  exact h

end State

theorem PortTx.atLimit_eq (limit : Nat) (x : PortTx) :
    x.atLimit limit = (x.rxHold.isSome && decide (limit ≤ min 256 (x.heldCount + 1))) := by
  unfold PortTx.atLimit PortTx.reportTick
  cases hx : x.rxHold <;> simp [hx]

theorem PortTx.reportTick_state (x : PortTx) : x.reportTick.state = x.state := by
  unfold PortTx.reportTick
  split <;> rfl

/-- Settles O25: the end of a hold by its timer, and the flush of the ports at the limit by what the Buffer Manager discards. -/
theorem holdsEnd : Obligations.HoldsEnd := by
  unfold Obligations.HoldsEnd
  refine ⟨fun s p hdue => ?_, ?_⟩
  · intro ended
    have hrun : exec (.receivedHoldTimerExpiry p) s = .next (s.holdTick p) := rfl
    refine ⟨fun hone hheld => ?_, fun f hone hsend => ?_, fun n hn => ?_⟩
    · rw [hrun, State.holdTick_of_last hdue hone, State.endHold_of_held hheld]
    · rw [hrun, State.holdTick_of_last hdue hone, State.endHold_of_not_held (by simp [hsend])]
    · rw [hrun, State.holdTick_of_more hdue hn]
  · intro s howed limited flushed copies
    have hlimited : ∀ p, (s.tx p).atLimit s.cfg.heldLimit = limited p := fun p => PortTx.atLimit_eq _ _
    have hports : s.limitedPorts = allPorts.filter limited := List.filter_congr fun p _ => hlimited p
    have hdiscard := State.discards_egressTick (s.reported .egressScheduler)
    have hcopies : BufferManager.copiesOf ((s.reported .egressScheduler).limitedPorts.flatMap fun p =>
        (List.range 4).flatMap fun c => s.queue (queueKey p c)) = copies := by
      change BufferManager.copiesOf (s.limitedPorts.flatMap _) = _
      rw [hports]
      rfl
    replace hdiscard : s.bm.Discards (s.reported .egressScheduler).egressTick.bm copies := hcopies ▸ hdiscard
    have hrun : exec (.reportTick .egressScheduler) s = .next (s.reported .egressScheduler).egressTick.takeFrame :=
      State.exec_reportTick howed
    obtain ⟨hframes, hlosses⟩ := hdiscard.spec
    refine ⟨(s.reported .egressScheduler).egressTick, fun p hp => ?_, fun p hp => ?_, hrun, State.eq_iff.2 (by simp [State.reported]),
      fun p hp => ⟨?_, fun c hc => ?_⟩, hframes, hlosses, hdiscard.reports⟩
    · refine Eq.trans ?_ hrun
      exact congrArg (fun z : State => Host.Outcome.next z.takeFrame) (reportTickIf_true ((hlimited p).trans hp))
    · exact congrArg (fun z : State => Host.Outcome.next z.takeFrame) (reportTickIf_false ((hlimited p).trans hp))
    · rw [State.tx_egressTick _ hp, PortTx.reportTick_state]
      rfl
    · refine (State.queue_egressTick _ hp hc).trans (if_congr ?_ rfl rfl)
      exact Bool.eq_iff_iff.1 (hlimited p)

end Sys2Proof.Machine
end

section
/-! The Path Unit's report tick (R78, R82) and what it leaves of each binding, record, lend and message; the report ticks of the Egress
Scheduler and the Peer View. -/

namespace Sys2Proof.Machine

open Sys2Proof.Config

namespace State

variable {s t : State}

/-! ## The staged fault return (R78, step 1) -/

/-- A REPLACE path whose home uplink is UP. -/
def goesBack (s : State) (i : Nat) : Bool :=
  (match s.binding i with
   | .replaceUplink => true
   | .replacePeer _ => true
   | .unbound => false
   | .home => false
   | .split _ => false) && (s.link (s.homePort i)).state == .up

theorem goesBack_iff {i : Nat} : s.goesBack i = true ↔
    (s.binding i = .replaceUplink ∨ ∃ k, s.binding i = .replacePeer k) ∧ (s.link (s.homePort i)).state = .up := by
  unfold State.goesBack
  cases s.binding i <;> simp

theorem stagedReturn_of_first {i : Nat} (h : paths.find? s.goesBack = some i) : s.stagedReturn = s.setBinding i .home := by
  unfold State.stagedReturn
  split
  · next j hj => cases h.symm.trans hj; rfl
  · next hnone => exact nomatch h.symm.trans hnone

theorem stagedReturn_of_none (h : paths.find? s.goesBack = none) : s.stagedReturn = s := by
  unfold State.stagedReturn
  split
  · next j hj => exact nomatch h.symm.trans hj
  · rfl

theorem rebound_stagedReturn (s : State) : s.Rebound s.stagedReturn := by
  cases h : paths.find? s.goesBack with
  | none => rw [stagedReturn_of_none h]; rfl
  | some i => rw [stagedReturn_of_first h]; rfl

theorem hasUnbound_stagedReturn (s : State) : s.stagedReturn.hasUnbound = s.hasUnbound := by
  cases h : paths.find? s.goesBack with
  | none => rw [stagedReturn_of_none h]
  | some i =>
    have hback : s.binding i ≠ .unbound := fun hunbound => by
      rcases (goesBack_iff.1 (List.find?_some h)).1 with hb | ⟨k, hb⟩ <;> exact nomatch hunbound.symm.trans hb
    rw [stagedReturn_of_first h, Bool.eq_iff_iff, hasUnbound_iff, hasUnbound_iff]
    refine exists_congr fun j => and_congr_right fun _ => ?_
    rw [binding_setBinding]
    split
    · next hj => exact iff_of_false nofun (hj ▸ hback)
    · rfl

theorem candidate_fault_congr (hground : s.SameGround t) (hborrow : ∀ k, t.borrow k = s.borrow k) : t.candidate .fault = s.candidate .fault := by
  have heligible : t.qualifies .fault = s.qualifies .fault := funext fun k => by
    change t.eligible k = s.eligible k
    unfold State.eligible
    rw [hground.peerLive, hground.crossLive, hborrow, hground.peer]
  have hbetter : t.better = s.better := by
    funext best k
    unfold State.better betterLender
    cases best with
    | none => rfl
    | some b => simp only [hground.peer]
  rw [candidate_eq, candidate_eq, hground.peers, heligible, hbetter]

/-! ## The withdrawal of one lend (R82) -/

/-- Is the lend to peer k one that a test passes? -/
def lends (s : State) (p : LendRecord → Bool) (k : Nat) : Prop := k ∈ s.peers ∧ ∃ d, s.lend k = some d ∧ p d = true

theorem peers_pairwise (s : State) : s.peers.Pairwise (· < ·) := (by decide : stations.Pairwise (· < ·)).filter _

/-- In a list of falling numbers the greatest that passes is found. -/
theorem find?_reverse_of_greatest {l : List Nat} (hl : l.Pairwise (· < ·)) {q : Nat → Bool} {i : Nat} (hi : i ∈ l) (hq : q i = true)
    (hgreatest : ∀ j ∈ l, q j = true → j ≤ i) : l.reverse.find? q = some i := by
  cases h : l.reverse.find? q with
  | none => exact absurd hq (List.find?_eq_none.1 h i (List.mem_reverse.2 hi))
  | some j =>
    have hji := hgreatest j (List.mem_reverse.1 (List.mem_of_find?_eq_some h)) (List.find?_some h)
    obtain ⟨-, xs, ys, hsplit, hnone⟩ := List.find?_eq_some_iff_append.1 h
    have hpair : (xs ++ j :: ys).Pairwise (· > ·) := hsplit ▸ List.pairwise_reverse.2 hl
    have hmem : i ∈ xs ++ j :: ys := hsplit ▸ List.mem_reverse.2 hi
    rcases List.mem_append.1 hmem with hx | hy
    · exact absurd hq (by simpa using hnone i hx)
    · rcases List.mem_cons.1 hy with rfl | hy
      · rfl
      · have := (List.pairwise_cons.1 (List.pairwise_append.1 hpair).2.1).1 i hy
        omega

theorem highestLend_of_greatest {p : LendRecord → Bool} {k : Nat} (hk : s.lends p k) (hgreatest : ∀ j, k < j → ¬s.lends p j) :
    s.highestLend p = some k := by
  obtain ⟨hpeer, d, hd, hp⟩ := hk
  refine find?_reverse_of_greatest s.peers_pairwise hpeer (by simp [hd, hp]) fun j hj hpass => Nat.not_lt.1 fun hlt => ?_
  refine hgreatest j hlt ⟨hj, ?_⟩
  split at hpass
  · next e he => exact ⟨e, he, hpass⟩
  · exact nomatch hpass

theorem highestLend_none {p : LendRecord → Bool} (h : ∀ j, ¬s.lends p j) : s.highestLend p = none :=
  List.find?_eq_none.2 fun j hj hpass => by
    refine h j ⟨List.mem_reverse.1 hj, ?_⟩
    split at hpass
    · next e he => exact ⟨e, he, hpass⟩
    · exact nomatch hpass

theorem withdrawOne_of_low (h : s.rc.level < s.cfg.withdrawLevel) : s.withdrawOne = s := if_neg (Nat.not_le.2 h)

section withdraws

variable (hlevel : s.cfg.withdrawLevel ≤ s.rc.level)
include hlevel

theorem withdrawOne_of_relief {k : Nat} (h : s.highestLend (fun l => l.reason == .relief) = some k) : s.withdrawOne = s.withdrawLend k := by
  unfold State.withdrawOne
  rw [if_pos hlevel, h]

theorem withdrawOne_of_fault {k : Nat} (hnone : s.highestLend (fun l => l.reason == .relief) = none)
    (h : s.highestLend (fun l => !l.solePath) = some k) : s.withdrawOne = s.withdrawLend k := by
  unfold State.withdrawOne
  rw [if_pos hlevel, hnone, h]

theorem withdrawOne_of_none (hnone : s.highestLend (fun l => l.reason == .relief) = none)
    (h : s.highestLend (fun l => !l.solePath) = none) : s.withdrawOne = s := by
  unfold State.withdrawOne
  rw [if_pos hlevel, hnone, h]

end withdraws

/-- A withdrawal changes the lends and the messages only. -/
theorem withdrawOne_cases (s : State) : s.withdrawOne = s ∨ ∃ k, s.withdrawOne = s.withdrawLend k := by
  unfold State.withdrawOne
  split
  · split
    · exact .inr ⟨_, rfl⟩
    · split
      · exact .inr ⟨_, rfl⟩
      · exact .inl rfl
  · exact .inl rfl

theorem withdrawOne_reads (s : State) : s.SameGround s.withdrawOne ∧ (∀ i, s.withdrawOne.binding i = s.binding i) ∧
    (∀ k, s.withdrawOne.borrow k = s.borrow k) ∧ s.withdrawOne.pu.solePath = s.pu.solePath ∧
    s.withdrawOne.xc.normal = s.xc.normal := by
  rcases withdrawOne_cases s with h | ⟨k, h⟩ <;> rw [h] <;> exact ⟨⟨rfl, rfl, rfl, rfl⟩, fun _ => rfl, fun _ => rfl, rfl, rfl⟩

/-- A withdrawal leaves a BORROW that waits. -/
theorem urgent_withdrawOne {k : Nat} {r : Reason} {sole : Bool} (h : .borrow k r sole ∈ s.xc.urgent) :
    .borrow k r sole ∈ s.withdrawOne.xc.urgent := by
  rcases withdrawOne_cases s with hw | ⟨j, hw⟩
  · rwa [hw]
  · rw [hw]
    refine mem_placeMsg_of_mem (List.mem_filter.2 ⟨h, ?_⟩) fun hkey => ?_
    · simp [Msg.kind]
    · simp [Msg.sameKey, Msg.kind] at hkey

/-! ## The timers (R78, steps 4 and 5) -/

end State

/-- A record at step 4 of the report tick (R78). -/
def BorrowRecord.timed (b : BorrowRecord) (unbound : Bool) : BorrowRecord :=
  if b.runsOut then
    match b.state with
    | .requested _ => b.ended
    | .active _ => if unbound then { b with timer := 2 } else { b with timer := 0, upgrade := false }
    | .none => b
  else if b.counts then { b with timer := b.timer - 1 } else b

namespace State

variable {s t : State}

theorem rerecorded_requestTick (s : State) (k : Nat) : s.Rerecorded (s.requestTick k) := by
  unfold State.requestTick
  dsimp only
  repeat' split
  all_goals rfl

theorem borrow_requestTick (s : State) (k j : Nat) :
    (s.requestTick k).borrow j = if j = k then (s.borrow k).timed s.hasUnbound else s.borrow j := by
  have hsame : ∀ {b}, b = s.borrow k → s.borrow j = if j = k then b else s.borrow j := fun hb => by
    split
    · next hj => rw [hb, hj]
    · rfl
  have hsend : ∀ b, ((s.setBorrow k b).sendBorrow k .fault).borrow j = (s.setBorrow k b).borrow j := fun _ => rfl
  unfold State.requestTick BorrowRecord.timed
  dsimp only
  by_cases hout : (s.borrow k).runsOut = true
  · rw [if_pos hout, if_pos hout]
    cases hstate : (s.borrow k).state with
    | none => exact hsame rfl
    | requested r => exact borrow_setBorrow ..
    | active r =>
      dsimp only
      split
      · exact (hsend _).trans (borrow_setBorrow ..)
      · exact borrow_setBorrow ..
  · rw [if_neg hout, if_neg hout]
    split
    · exact borrow_setBorrow ..
    · exact hsame rfl

theorem borrow_requestTicks {ks : List Nat} (hks : ks.Nodup) (s : State) (j : Nat) :
    (s.each ks State.requestTick).borrow j = if j ∈ ks then (s.borrow j).timed s.hasUnbound else s.borrow j := by
  induction ks generalizing s with
  | nil => rfl
  | cons k ks ih =>
    obtain ⟨hk, hks⟩ := List.nodup_cons.1 hks
    refine (ih hks (s.requestTick k)).trans ?_
    rw [(rerecorded_requestTick s k).hasUnbound, borrow_requestTick]
    by_cases hj : j = k
    · subst hj; simp [hk]
    · simp [hj]

theorem borrow_tickTimers (s : State) {j : Nat} (hj : j ∈ s.peers) :
    s.tickTimers.borrow j = ((s.borrow j).timed s.hasUnbound).exclusionTick := by
  have hticked := rerecorded_each rerecorded_requestTick s s.peers
  unfold State.tickTimers
  rw [borrow_mapBorrows _ (nodup_peers s), if_pos hj, borrow_requestTicks (nodup_peers s), if_pos hj]

theorem rerecorded_tickTimers (s : State) : s.Rerecorded s.tickTimers :=
  (rerecorded_each rerecorded_requestTick s s.peers).trans (rerecorded_mapBorrows ..)

/-! ## The whole tick at the Path Unit -/

/-- Does the tick's fault request go to peer k (R78, step 2)? -/
def overtakes (s : State) (k : Nat) : Prop := s.callsFault ∧ s.candidate .fault = some k

theorem callsFault_stagedReturn (s : State) : s.stagedReturn.callsFault ↔ s.callsFault := by
  have hsame := rebound_stagedReturn s
  unfold State.callsFault
  rw [hasUnbound_stagedReturn, lender_congr hsame.ground.peers fun k _ => by rw [hsame.borrow]]

theorem candidate_stagedReturn (s : State) : s.stagedReturn.candidate .fault = s.candidate .fault :=
  candidate_fault_congr (rebound_stagedReturn s).ground (rebound_stagedReturn s).borrow

theorem ground_tickPaths (s : State) : s.SameGround s.tickPaths :=
  ((rebound_stagedReturn s).ground.trans (rerecorded_faultRequest _).ground).trans (withdrawOne_reads _).1

theorem binding_tickPaths (s : State) (i : Nat) : s.tickPaths.binding i = s.stagedReturn.binding i :=
  ((withdrawOne_reads _).2.1 i).trans ((rerecorded_faultRequest _).binding i)

theorem hasUnbound_tickPaths (s : State) : s.tickPaths.hasUnbound = s.hasUnbound :=
  (hasUnbound_congr fun i _ => binding_tickPaths s i).trans (hasUnbound_stagedReturn s)

theorem borrow_tickPaths_of_overtaken {k : Nat} (h : s.overtakes k) : s.tickPaths.borrow k = (s.borrow k).requested .fault := by
  refine ((withdrawOne_reads _).2.2.1 k).trans ?_
  rw [faultRequest_of_calls ((callsFault_stagedReturn s).2 h.1) ((candidate_stagedReturn s).trans h.2), borrow_request, if_pos rfl,
    (rebound_stagedReturn s).borrow]

theorem borrow_tickPaths_of_not {k : Nat} (h : ¬s.overtakes k) : s.tickPaths.borrow k = s.borrow k := by
  refine ((withdrawOne_reads _).2.2.1 k).trans ?_
  rcases borrow_faultRequest s.stagedReturn k with hb | ⟨hcall, hcand, -⟩
  · rw [hb, (rebound_stagedReturn s).borrow]
  · exact absurd ⟨(callsFault_stagedReturn s).1 hcall, (candidate_stagedReturn s).symm.trans hcand⟩ h

theorem solePath_tickPaths (s : State) : s.tickPaths.pu.solePath = s.pu.solePath := by
  refine (withdrawOne_reads _).2.2.2.1.trans ?_
  have hrequest := rerecorded_faultRequest s.stagedReturn
  have hreturn := rebound_stagedReturn s
  rw [hrequest, hreturn]

end State

/-- A record as an event leaves it: freed without a path, and, with no path UNBOUND, a fault request given up (R69, R72). -/
def BorrowRecord.settled (b : BorrowRecord) (unbound path : Bool) : BorrowRecord :=
  if unbound then b.freed path else (b.freed path).abandoned

theorem BorrowRecord.settled_none {b : BorrowRecord} (h : b.state = .none) (unbound path : Bool) : b.settled unbound path = b := by
  unfold BorrowRecord.settled
  rw [BorrowRecord.freed_of_not_active (by rw [h]; rfl), BorrowRecord.abandoned_of_ne (by rw [h]; exact nofun), ite_self]

theorem BorrowRecord.settled_exclusion (b : BorrowRecord) (unbound path : Bool) :
    (b.settled unbound path).exclusion = b.exclusion ∧ (b.settled unbound path).noUplink = b.noUplink := by
  unfold BorrowRecord.settled
  split
  · exact BorrowRecord.freed_exclusion ..
  · rw [(BorrowRecord.abandoned_exclusion _).1, (BorrowRecord.abandoned_exclusion _).2]
    exact BorrowRecord.freed_exclusion ..

theorem BorrowRecord.settled_active {b : BorrowRecord} (h : b.state.isActive = true) (unbound path : Bool) :
    b.settled unbound path = if path then b else b.ended := by
  have hfreed : b.freed path = if path then b else b.ended := by cases path <;> simp [BorrowRecord.freed, h]
  have hkept : (b.freed path).abandoned = b.freed path := BorrowRecord.abandoned_of_ne fun hreq => by
    rw [hfreed] at hreq
    split at hreq
    · simp [hreq, BorrowState.isActive] at h
    · exact nomatch hreq
  unfold BorrowRecord.settled
  rw [hkept, ite_self, hfreed]

theorem BorrowRecord.settled_requested {b : BorrowRecord} {r : Reason} (h : b.state = .requested r) (unbound path : Bool) :
    b.settled unbound path = if unbound = false ∧ r = .fault then b.ended else b := by
  unfold BorrowRecord.settled
  rw [BorrowRecord.freed_of_not_active (by rw [h]; rfl)]
  cases unbound <;> cases r <;> simp [BorrowRecord.abandoned, h]

namespace State

variable {s t : State}

/-- The Path Unit's report tick before its changes are reported. -/
def ticked (s : State) : State := (s.tickPaths.tickTimers.each s.tickPaths.tickTimers.peers State.freeRecord).abandonFault

theorem pathTick_eq (s : State) : s.pathTick = s.reportPaths s.ticked := rfl

theorem rerecorded_ticked (s : State) : s.tickPaths.Rerecorded s.ticked :=
  ((rerecorded_tickTimers _).trans (rerecorded_freeRecords ..)).trans (rerecorded_abandonFault _)

theorem binding_pathTick (s : State) (i : Nat) : s.pathTick.binding i = s.stagedReturn.binding i :=
  ((binding_reportPaths ..).trans ((rerecorded_ticked s).binding i)).trans (binding_tickPaths s i)

theorem hasPathToward_pathTick (s : State) (k : Nat) : s.pathTick.hasPathToward k = s.tickPaths.hasPathToward k :=
  hasPathToward_congr (fun i _ => (binding_reportPaths ..).trans ((rerecorded_ticked s).binding i)) k

theorem lend_pathTick (s : State) (k : Nat) : s.pathTick.lend k = s.tickPaths.lend k :=
  (lend_reportPaths ..).trans ((rerecorded_ticked s).lend k)

/-- What the tick leaves of a peer's record. -/
theorem borrow_pathTick (s : State) {k : Nat} (hk : k ∈ s.peers) : s.pathTick.borrow k =
    ((s.tickPaths.borrow k).timed s.hasUnbound).exclusionTick.settled s.hasUnbound (s.pathTick.hasPathToward k) := by
  have hticked := rerecorded_tickTimers s.tickPaths
  have hpeers : s.tickPaths.tickTimers.peers = s.peers := hticked.ground.peers.trans (ground_tickPaths s).peers
  rw [hasPathToward_pathTick]
  refine (borrow_reportPaths ..).trans ((borrow_cleared _ (by rwa [hpeers])).trans ?_)
  unfold State.cleared
  rw [borrow_tickTimers _ ((ground_tickPaths s).peers.symm ▸ hk), hticked.hasUnbound, hticked.hasPathToward, hasUnbound_tickPaths]
  rfl

theorem frame_pathTick (s : State) : s.pathTick = { s with pu := s.pathTick.pu, rc := s.pathTick.rc, xc := s.pathTick.xc } :=
  State.eq_iff.2 (by simp)

end State

end Sys2Proof.Machine
end

section
/-! What the Path Unit's report tick queues, and the report ticks of the Egress Scheduler, the Peer View and the Path Unit (R44, R45,
R78, R82, R121). -/

namespace Sys2Proof.Machine

open Sys2Proof.Config

theorem BorrowRecord.exclusionTick_state (b : BorrowRecord) : b.exclusionTick.state = b.state := by
  unfold BorrowRecord.exclusionTick
  split <;> rfl

theorem BorrowRecord.timed_not_active {b : BorrowRecord} (h : b.state.isActive = false) (unbound : Bool) :
    (b.timed unbound).state.isActive = false := by
  unfold BorrowRecord.timed
  split
  · split
    · rfl
    · next hstate => simp [hstate, BorrowState.isActive] at h
    · exact h
  · split <;> exact h

namespace State

variable {s t : State}

/-! ## Messages at the Path Unit's tick -/

theorem urgent_pathTick (s : State) : s.pathTick.xc.urgent = (s.tickPaths.each s.tickPaths.peers State.requestTick).xc.urgent := by
  rw [pathTick_eq, urgent_reportPaths, State.ticked, xc_abandonFault, urgent_freeRecords, State.tickTimers, xc_mapBorrows]

/-- A request timer queues a BORROW to its own peer, and only for an upgrade. -/
theorem urgent_requestTick {m : Msg} {k : Nat} (hm : m ∈ s.xc.urgent)
    (h : (∀ r sole, m.sameKey (.borrow k r sole) = false) ∨ (s.borrow k).state.isActive = false) : m ∈ (s.requestTick k).xc.urgent := by
  unfold State.requestTick
  dsimp only
  split
  · split
    · exact hm
    · next hstate =>
      split
      · refine mem_placeMsg_of_mem hm fun hkey => ?_
        rcases h with h | h
        · exact nomatch (h _ _).symm.trans hkey
        · simp [hstate, BorrowState.isActive] at h
      · exact hm
    · exact hm
  · split <;> exact hm

theorem borrow_sameKey_ne {j k : Nat} (h : j ≠ k) (r r' : Reason) (sole sole' : Bool) :
    Msg.sameKey (.borrow k r sole) (.borrow j r' sole') = false := by
  simp [Msg.sameKey, Msg.kind, Msg.dest, Ne.symm h]

/-- A message of another key stays through the request timers. -/
theorem urgent_requestTicks {m : Msg} (hkey : ∀ j r sole, m.sameKey (.borrow j r sole) = false) (hm : m ∈ s.xc.urgent) (ks : List Nat) :
    m ∈ (s.each ks State.requestTick).xc.urgent :=
  foldl_induct (f := State.requestTick) (P := fun z => m ∈ z.xc.urgent) (fun _ k hz => urgent_requestTick hz (.inl (hkey k))) ks hm

/-- The BORROW of a record that is not ACTIVE stays through the request timers. -/
theorem urgent_requestTicks_borrow {k : Nat} {r : Reason} {sole : Bool} (hm : .borrow k r sole ∈ s.xc.urgent)
    (hactive : (s.borrow k).state.isActive = false) (ks : List Nat) : .borrow k r sole ∈ (s.each ks State.requestTick).xc.urgent := by
  refine (foldl_induct (f := State.requestTick) (s := s) (P := fun z => .borrow k r sole ∈ z.xc.urgent ∧ (z.borrow k).state.isActive = false)
    (fun z j hz => ?_) ks ⟨hm, hactive⟩).1
  obtain ⟨hmem, hstate⟩ := hz
  by_cases hj : j = k
  · subst hj
    refine ⟨urgent_requestTick hmem (.inr hstate), ?_⟩
    rw [borrow_requestTick, if_pos rfl]
    exact BorrowRecord.timed_not_active hstate _
  · refine ⟨urgent_requestTick hmem (.inl fun r' sole' => borrow_sameKey_ne hj ..), ?_⟩
    rw [borrow_requestTick, if_neg (Ne.symm hj)]
    exact hstate

theorem requestTick_of_upgrade {k : Nat} {r : Reason} (hout : (s.borrow k).runsOut = true) (hstate : (s.borrow k).state = .active r)
    (hunbound : s.hasUnbound = true) : s.requestTick k = (s.setBorrow k { s.borrow k with timer := 2 }).sendBorrow k .fault := by
  unfold State.requestTick
  dsimp only
  rw [if_pos hout]
  split
  · next hs => exact nomatch hstate.symm.trans hs
  · rw [if_pos hunbound]
  · next hs => exact nomatch hstate.symm.trans hs

/-- An upgrade whose timer runs out is asked for again. -/
theorem urgent_requestTicks_upgrade {k : Nat} {r : Reason} {ks : List Nat} (hks : ks.Nodup) (hk : k ∈ ks) (hout : (s.borrow k).runsOut = true)
    (hstate : (s.borrow k).state = .active r) (hunbound : s.hasUnbound = true) :
    .borrow k .fault s.pu.solePath ∈ (s.each ks State.requestTick).xc.urgent := by
  induction ks generalizing s with
  | nil => exact nomatch hk
  | cons j ks ih =>
    obtain ⟨hj, hks⟩ := List.nodup_cons.1 hks
    by_cases hjk : j = k
    · subst hjk
      have hsent : .borrow j .fault s.pu.solePath ∈ (s.requestTick j).xc.urgent := by
        rw [requestTick_of_upgrade hout hstate hunbound]
        exact mem_placeMsg_self ..
      have hrest : ∀ (js : List Nat) (z : State), j ∉ js → .borrow j .fault s.pu.solePath ∈ z.xc.urgent →
          .borrow j .fault s.pu.solePath ∈ (z.each js State.requestTick).xc.urgent := fun js => by
        induction js with
        | nil => exact fun _ _ hz => hz
        | cons i is ih =>
          intro z hi hz
          exact ih (z.requestTick i) (fun h => hi (List.mem_cons_of_mem _ h))
            (urgent_requestTick hz (.inl fun r' sole' => borrow_sameKey_ne (fun h => hi (by rw [h]; exact List.mem_cons_self)) ..))
      exact hrest ks _ hj hsent
    · have hsole : (s.requestTick j).pu.solePath = s.pu.solePath := by rw [rerecorded_requestTick s j]
      have hkeep : (s.requestTick j).borrow k = s.borrow k := (borrow_requestTick ..).trans (if_neg (Ne.symm hjk))
      have := ih (s := s.requestTick j) hks ((List.mem_cons.1 hk).resolve_left (Ne.symm hjk)) (by rwa [hkeep]) (by rwa [hkeep])
        (by rwa [(rerecorded_requestTick s j).hasUnbound])
      rwa [hsole] at this

/-! ## Messages in the normal queue -/

theorem mem_normal_queueLevel {m : Msg} (h : m ∈ s.queueLevel.xc.normal) : m = .level ∨ m ∈ s.xc.normal := by
  unfold State.queueLevel at h
  split at h
  · exact mem_placeMsg h
  · exact .inr h

theorem mem_normal_reofferLend {m : Msg} (h : m ∈ s.reofferLend.xc.normal) : m = .level ∨ m ∈ s.xc.normal := by
  unfold State.reofferLend at h
  split at h
  · exact .inr h
  · exact mem_normal_queueLevel (s := { s with rc := { s.rc with lendOffer := s.offerNow } }) h

/-- The report of what an event changed queues no message but a LEVEL. -/
theorem mem_normal_reportPaths {b : State} {m : Msg} (h : m ∈ (b.reportPaths s).xc.normal) : m = .level ∨ m ∈ s.xc.normal := by
  unfold State.reportPaths at h
  dsimp only at h
  split at h
  · split at h
    · exact .inr h
    · exact mem_normal_queueLevel h
  · rcases mem_normal_reofferLend h with hm | hm
    · exact .inl hm
    · split at hm
      · exact .inr hm
      · exact mem_normal_queueLevel hm

/-- A freed record queues a RETURN to its own peer. -/
theorem mem_normal_freeRecord {m : Msg} {k : Nat} (h : m ∈ (s.freeRecord k).xc.normal) :
    m ∈ s.xc.normal ∨ (m = .ret k ∧ (s.borrow k).state.isActive = true ∧ s.peerLive k = true ∧ s.crossLive k = true) := by
  unfold State.freeRecord at h
  split at h
  · next hfree =>
    dsimp only at h
    split at h
    · next hlive =>
      simp only [Bool.and_eq_true] at hlive hfree
      exact (mem_placeMsg h).elim (fun hm => .inr ⟨hm, hfree.1, hlive.1, hlive.2⟩) .inl
    · exact .inl h
  · exact .inl h

/-- A record that is not ACTIVE has no RETURN queued for it while others are freed. -/
theorem not_mem_normal_freeRecords {k : Nat} (hactive : (s.borrow k).state.isActive = false) (h : .ret k ∉ s.xc.normal) (ks : List Nat) :
    .ret k ∉ (s.each ks State.freeRecord).xc.normal := by
  refine (foldl_induct (f := State.freeRecord) (s := s) (P := fun z => .ret k ∉ z.xc.normal ∧ (z.borrow k).state.isActive = false)
    (fun z j hz => ?_) ks ⟨h, hactive⟩).1
  obtain ⟨hnot, hstate⟩ := hz
  refine ⟨fun hm => ?_, ?_⟩
  · rcases mem_normal_freeRecord hm with hm | ⟨hm, hj, -⟩
    · exact hnot hm
    · cases hm
      exact nomatch hstate.symm.trans hj
  · rw [borrow_freeRecord]
    split
    · next hj =>
      subst hj
      rw [BorrowRecord.freed_of_not_active hstate]
      exact hstate
    · exact hstate

theorem normal_requestTicks (s : State) (ks : List Nat) : (s.each ks State.requestTick).xc.normal = s.xc.normal :=
  foldl_induct (f := State.requestTick) (P := fun z => z.xc.normal = s.xc.normal) (fun z k hz => by
    have hsame : (z.requestTick k).xc.normal = z.xc.normal := by
      unfold State.requestTick
      dsimp only
      repeat' split
      all_goals rfl
    exact hsame.trans hz) ks rfl

/-! ## The lends and the messages of the tick -/

theorem lends_faultRequest (s : State) (p : LendRecord → Bool) (k : Nat) : s.stagedReturn.faultRequest.lends p k ↔ s.lends p k := by
  have hreturn := rebound_stagedReturn s
  have hrequest := rerecorded_faultRequest s.stagedReturn
  unfold State.lends
  rw [hrequest.ground.peers, hreturn.ground.peers, hrequest.lend, hreturn.lend]

theorem lend_withdrawLend (s : State) (k j : Nat) : (s.withdrawLend k).lend j = if j = k then none else s.lend j := lend_dropLend ..

/-- The lend that the tick withdraws. -/
theorem withdrawn_pathTick {k : Nat} (h : s.tickPaths = s.stagedReturn.faultRequest.withdrawLend k) :
    s.pathTick.lend k = none ∧ .withdraw k .level ∈ s.pathTick.xc.urgent ∧ ∀ j, j ≠ k → s.pathTick.lend j = s.lend j := by
  have hlend : ∀ j, s.pathTick.lend j = if j = k then none else s.lend j := fun j => by
    rw [lend_pathTick, h, lend_withdrawLend, (rerecorded_faultRequest _).lend, (rebound_stagedReturn s).lend]
  refine ⟨(hlend k).trans (if_pos rfl), ?_, fun j hj => (hlend j).trans (if_neg hj)⟩
  rw [urgent_pathTick]
  refine urgent_requestTicks (fun j r sole => by simp [Msg.sameKey, Msg.kind]) ?_ _
  rw [h]
  exact mem_placeMsg_self ..

theorem kept_pathTick (h : s.tickPaths = s.stagedReturn.faultRequest) (k : Nat) : s.pathTick.lend k = s.lend k := by
  rw [lend_pathTick, h, (rerecorded_faultRequest _).lend, (rebound_stagedReturn s).lend]

theorem tickPaths_eq (s : State) : s.tickPaths = s.stagedReturn.faultRequest.withdrawOne := rfl

/-- The request that the tick makes. -/
theorem tickPaths_of_overtaken {k : Nat} (h : s.overtakes k) : s.tickPaths = (s.stagedReturn.request k .fault).withdrawOne := by
  rw [tickPaths_eq, faultRequest_of_calls ((callsFault_stagedReturn s).2 h.1) ((candidate_stagedReturn s).trans h.2)]

theorem messages_of_overtaken {k : Nat} (h : s.overtakes k) :
    .borrow k .fault s.pu.solePath ∈ s.pathTick.xc.urgent ∧ .ret k ∉ s.pathTick.xc.normal := by
  have hrecord : (s.tickPaths.borrow k).state = .requested .fault := by rw [borrow_tickPaths_of_overtaken h]; rfl
  have hactive : (s.tickPaths.borrow k).state.isActive = false := by rw [hrecord]; rfl
  have hsole : s.stagedReturn.pu.solePath = s.pu.solePath := by rw [rebound_stagedReturn s]
  constructor
  · rw [urgent_pathTick]
    refine urgent_requestTicks_borrow ?_ hactive _
    rw [tickPaths_of_overtaken h]
    refine urgent_withdrawOne ?_
    rw [← hsole]
    exact mem_placeMsg_self ..
  · have hnone : .ret k ∉ s.tickPaths.xc.normal := by
      rw [tickPaths_of_overtaken h, (withdrawOne_reads _).2.2.2.2]
      exact fun hm => by simpa [Msg.kind, Msg.dest] using (List.mem_filter.1 hm).2
    rw [pathTick_eq]
    intro hm
    rcases mem_normal_reportPaths hm with hlevel | hm
    · exact nomatch hlevel
    · rw [State.ticked, xc_abandonFault] at hm
      refine not_mem_normal_freeRecords ?_ ?_ _ hm
      · have hk : k ∈ s.tickPaths.peers := (ground_tickPaths s).peers.symm ▸ (candidate_qualifies h.2).1
        rw [borrow_tickTimers _ hk, BorrowRecord.exclusionTick_state]
        exact BorrowRecord.timed_not_active hactive _
      · rw [State.tickTimers, xc_mapBorrows, normal_requestTicks]
        exact hnone

end State

end Sys2Proof.Machine
end

section
/-! The report ticks of the Egress Scheduler, the Peer View and the Path Unit (R44, R45, R78, R82, R121), and the rows that name what the
Path Unit's tick brings about. -/

namespace Sys2Proof.Machine

open Sys2Proof.Config

/-! ## The Peer View (R121) -/

theorem PeerRecord.reportTick_of_live {r : PeerRecord} (h : r.state = .live) :
    r.reportTick = if 2 ≤ r.missed then { r with state := .stale, missed := 3 } else { r with missed := r.missed + 1 } := by
  unfold PeerRecord.reportTick
  rw [h]

theorem PeerRecord.reportTick_of_not_live {r : PeerRecord} (h : r.state ≠ .live) : r.reportTick = r := by
  unfold PeerRecord.reportTick
  split
  · next hlive => exact absurd hlive h
  · rfl
  · rfl

namespace State

variable {s : State}

theorem pv_pathsPeersLost (s : State) (ks : List Nat) : (s.each ks State.pathsPeerLost).pv = s.pv :=
  foldl_induct (f := State.pathsPeerLost) (P := fun z => z.pv = s.pv) (fun z k hz => Eq.trans (by simp) hz) ks rfl

theorem peer_peerReportTick (s : State) (k : Nat) :
    s.peerReportTick.peer k = if k ∈ s.peers then (s.peer k).reportTick else s.peer k := by
  have hpeer : s.peerReportTick.peer k = (s.mapPeers s.peers PeerRecord.reportTick).peer k := by
    unfold State.peer State.peerReportTick
    rw [pv_pathsPeersLost]
  rw [hpeer, peer_mapPeers _ (nodup_peers s)]

end State

/-! ## The Egress Scheduler (R44) -/

theorem PortTx.reportTick_of_free {x : PortTx} (h : x.rxHold = none) : x.reportTick = x := by
  unfold PortTx.reportTick
  rw [h]
  rfl

theorem PortTx.reportTick_of_held {x : PortTx} (h : x.rxHold ≠ none) :
    x.reportTick = { x with heldCount := min 256 (x.heldCount + 1) } := if_pos (Option.isSome_iff_ne_none.2 h)

/-! ## A record at the Path Unit's tick (R78) -/

namespace BorrowRecord

variable {b : BorrowRecord} {r : Reason}

theorem runsOut_iff : b.runsOut = true ↔ b.counts = true ∧ b.timer ≤ 1 := by simp [BorrowRecord.runsOut]

theorem counts_requested (h : b.state = .requested r) : b.counts = true := by simp [BorrowRecord.counts, h]

theorem counts_active (h : b.state = .active r) : b.counts = b.upgrade := by simp [BorrowRecord.counts, h]

theorem counts_none (h : b.state = .none) : b.counts = false := by simp [BorrowRecord.counts, h]

theorem timed_none (h : b.state = .none) (unbound : Bool) : b.timed unbound = b := by
  unfold BorrowRecord.timed BorrowRecord.runsOut
  rw [counts_none h]
  rfl

theorem timed_of_more (hcounts : b.counts = true) (h : 1 < b.timer) (unbound : Bool) :
    b.timed unbound = { b with timer := b.timer - 1 } := by
  unfold BorrowRecord.timed
  rw [if_neg fun hout => absurd (runsOut_iff.1 hout).2 (Nat.not_le.2 h), if_pos hcounts]

theorem timed_requested (h : b.state = .requested r) (hlast : b.timer ≤ 1) (unbound : Bool) : b.timed unbound = b.ended := by
  unfold BorrowRecord.timed
  rw [if_pos (runsOut_iff.2 ⟨counts_requested h, hlast⟩)]
  simp only [h]

theorem timed_upgrade (h : b.state = .active r) (hup : b.upgrade = true) (hlast : b.timer ≤ 1) (unbound : Bool) :
    b.timed unbound = if unbound then { b with timer := 2 } else { b with timer := 0, upgrade := false } := by
  unfold BorrowRecord.timed
  rw [if_pos (runsOut_iff.2 ⟨(counts_active h).trans hup, hlast⟩)]
  split
  · next hs => exact nomatch h.symm.trans hs
  · rfl
  · next hs => exact nomatch h.symm.trans hs

theorem timed_exclusion (b : BorrowRecord) (unbound : Bool) :
    (b.timed unbound).exclusion = b.exclusion ∧ (b.timed unbound).noUplink = b.noUplink := by
  unfold BorrowRecord.timed
  repeat' split
  all_goals exact ⟨rfl, rfl⟩

theorem exclusionTick_of_zero (h : b.exclusion = 0) : b.exclusionTick = b := if_pos h

theorem exclusionTick_exclusion (b : BorrowRecord) : b.exclusionTick.exclusion = b.exclusion - 1 ∧
    (b.exclusion = 1 → b.exclusionTick.noUplink = false) ∧ (b.exclusion ≠ 1 → b.exclusionTick.noUplink = b.noUplink) := by
  unfold BorrowRecord.exclusionTick
  split
  · next h => exact ⟨by omega, fun h1 => by omega, fun _ => rfl⟩
  · next h =>
    refine ⟨rfl, fun h1 => ?_, fun h1 => ?_⟩
    · simp [h1]
    · have : 1 < b.exclusion := by omega
      simp [this]

end BorrowRecord

namespace State

variable {s : State}

theorem exclusion_of_overtaken {k : Nat} (h : s.overtakes k) : (s.borrow k).exclusion = 0 :=
  (eligible_iff.1 (qualifies_eligible (candidate_qualifies h.2).2)).2.2.1

/-- The record of the request that the tick makes: its timer falls at once (R78). -/
theorem borrow_pathTick_of_overtaken {k : Nat} (h : s.overtakes k) :
    s.pathTick.borrow k = { s.borrow k with state := .requested .fault, timer := 1, upgrade := false } := by
  have hrecord := borrow_tickPaths_of_overtaken h
  rw [borrow_pathTick s (candidate_qualifies h.2).1, hrecord,
    BorrowRecord.timed_of_more (BorrowRecord.counts_requested (r := .fault) rfl) (Nat.lt_succ_self 1),
    BorrowRecord.exclusionTick_of_zero (by exact exclusion_of_overtaken h), BorrowRecord.settled_requested (r := .fault) rfl,
    if_neg fun hnone => Bool.noConfusion (h.1.1.symm.trans hnone.1)]
  rfl

end State

/-- Settles O9: each user's report tick, record by record. -/
theorem reportTickCountsAndReturns : Obligations.ReportTickCountsAndReturns := by
  unfold Obligations.ReportTickCountsAndReturns
  refine ⟨fun s howed => ?_, fun s howed => ?_, ?_⟩
  · refine ⟨(s.reported .egressScheduler).egressTick, State.exec_reportTick howed, State.eq_iff.2 (by simp [State.reported]),
      by simp [State.reported], fun p hp => ?_⟩
    intro count
    have htx : (s.reported .egressScheduler).egressTick.tx p = (s.tx p).reportTick := State.tx_egressTick _ hp
    have hqueue : ∀ c < 4, (s.reported .egressScheduler).egressTick.queue (queueKey p c) =
        if (s.tx p).atLimit s.cfg.heldLimit then [] else s.queue (queueKey p c) := fun c hc => State.queue_egressTick _ hp hc
    refine ⟨fun hfree => htx.trans (PortTx.reportTick_of_free hfree), fun hheld => htx.trans (PortTx.reportTick_of_held hheld),
      fun hheld hlimit c hc => ?_, fun hnot c hc => ?_⟩
    · refine (hqueue c hc).trans (if_pos ?_)
      rw [PortTx.atLimit_eq, Bool.and_eq_true, decide_eq_true_eq]
      exact ⟨Option.isSome_iff_ne_none.2 hheld, hlimit⟩
    · refine (hqueue c hc).trans (if_neg ?_)
      rw [PortTx.atLimit_eq, Bool.and_eq_true, decide_eq_true_eq]
      rintro ⟨hheld, hlimit⟩
      rcases hnot with hfree | hlt
      · exact Option.isSome_iff_ne_none.1 hheld hfree
      · exact absurd hlimit (Nat.not_le.2 hlt)
  · have hpeer : ∀ k, (s.reported .peerView).peerReportTick.peer k = if k ∈ s.peers then (s.peer k).reportTick else s.peer k := fun k =>
      State.peer_peerReportTick _ k
    refine ⟨(s.reported .peerView).peerReportTick, State.exec_reportTick howed, State.eq_iff.2 (by simp [State.reported]),
      fun k hk => ⟨fun hlive hfew => ?_, fun hlive hmany => ?_, fun hnot => ?_⟩, fun k hk => (hpeer k).trans (if_neg hk)⟩
    · rw [hpeer, if_pos hk, PeerRecord.reportTick_of_live hlive, if_neg (Nat.not_le.2 hfew)]
    · rw [hpeer, if_pos hk, PeerRecord.reportTick_of_live hlive, if_pos hmany]
    · rw [hpeer, if_pos hk, PeerRecord.reportTick_of_not_live hnot]
  · intro s howed back lent relief spare
    have hback : ∀ i, (s.reported .pathUnit).goesBack i = true ↔ back i := fun i => State.goesBack_iff
    have hrelief : ∀ k, (s.reported .pathUnit).stagedReturn.faultRequest.lends (fun d => d.reason == .relief) k ↔ relief k := fun k =>
      (State.lends_faultRequest _ _ k).trans (by simp only [State.lends, beq_iff_eq]; rfl)
    have hspare : ∀ k, (s.reported .pathUnit).stagedReturn.faultRequest.lends (fun d => !d.solePath) k ↔ spare k := fun k =>
      (State.lends_faultRequest _ _ k).trans (by simp only [State.lends, Bool.not_eq_true']; rfl)
    have hlevel : (s.reported .pathUnit).stagedReturn.faultRequest.rc.level = s.rc.level ∧
        (s.reported .pathUnit).stagedReturn.faultRequest.cfg.withdrawLevel = s.cfg.withdrawLevel := by
      simp [State.reported]
    refine ⟨(s.reported .pathUnit).pathTick, State.exec_reportTick howed, State.eq_iff.2 (by simp [State.reported]),
      fun i hi hb hleast => ?_, fun hnone j => ?_, fun k hunbound hlender hcand => ?_, fun hnot k hk hstate => ?_, ?_⟩
    · have hfirst : paths.find? (s.reported .pathUnit).goesBack = some i :=
        find?_of_least (by decide) hi ((hback i).2 hb) fun j _ hj => Nat.not_lt.1 fun hlt => hleast j hlt ((hback j).1 hj)
      have hbinding : ∀ j, (s.reported .pathUnit).pathTick.binding j = if j = i then .home else s.binding j := fun j => by
        rw [State.binding_pathTick, State.stagedReturn_of_first hfirst]
        exact State.binding_setBinding ..
      exact ⟨(hbinding i).trans (if_pos rfl), fun j hj => (hbinding j).trans (if_neg hj)⟩
    · rw [State.binding_pathTick, State.stagedReturn_of_none (List.find?_eq_none.2 fun i hi hb => hnone i hi ((hback i).1 hb))]
      rfl
    · have hover : (s.reported .pathUnit).overtakes k := ⟨⟨hunbound, hlender⟩, hcand⟩
      refine ⟨?_, State.messages_of_overtaken hover⟩
      exact State.borrow_pathTick_of_overtaken hover
    · have hkeep : (s.reported .pathUnit).tickPaths.borrow k = s.borrow k := State.borrow_tickPaths_of_not (by
        rintro ⟨⟨hunbound, hlender⟩, hcand⟩
        rcases hnot with h | h | h
        · exact nomatch h.symm.trans hunbound
        · exact h hlender
        · exact nomatch h.symm.trans hcand)
      rw [State.borrow_pathTick (s.reported .pathUnit) hk, hkeep, BorrowRecord.timed_none hstate, BorrowRecord.settled_none]
      · exact (BorrowRecord.exclusionTick_state _).trans hstate
      · exact (BorrowRecord.exclusionTick_state _).trans hstate
    · intro goes keep
      refine ⟨fun hlow => State.kept_pathTick (State.withdrawOne_of_low (by rwa [hlevel.1, hlevel.2])), fun hhigh => ?_⟩
      have hhigh' : (s.reported .pathUnit).stagedReturn.faultRequest.cfg.withdrawLevel ≤
          (s.reported .pathUnit).stagedReturn.faultRequest.rc.level := by rwa [hlevel.1, hlevel.2]
      refine ⟨fun k hk hgreatest => ?_, fun k hnone hk hgreatest => ?_, fun hnone hnospare => ?_⟩
      · exact State.withdrawn_pathTick (State.withdrawOne_of_relief hhigh'
          (State.highestLend_of_greatest ((hrelief k).2 hk) fun j hj => mt (hrelief j).1 (hgreatest j hj)))
      · exact State.withdrawn_pathTick (State.withdrawOne_of_fault hhigh' (State.highestLend_none fun j => mt (hrelief j).1 (hnone j))
          (State.highestLend_of_greatest ((hspare k).2 hk) fun j hj => mt (hspare j).1 (hgreatest j hj)))
      · exact State.kept_pathTick (State.withdrawOne_of_none hhigh' (State.highestLend_none fun j => mt (hrelief j).1 (hnone j))
          (State.highestLend_none fun j => mt (hspare j).1 (hnospare j)))

end Sys2Proof.Machine
end

section
/-! The timers at the Path Unit's tick, and the rows that name their expiry (R70, R75, R78). -/

namespace Sys2Proof.Machine

open Sys2Proof.Config

namespace BorrowRecord

variable {b : BorrowRecord}

theorem exclusionTick_fields (b : BorrowRecord) :
    b.exclusionTick.state = b.state ∧ b.exclusionTick.timer = b.timer ∧ b.exclusionTick.upgrade = b.upgrade := by
  unfold BorrowRecord.exclusionTick
  split <;> exact ⟨rfl, rfl, rfl⟩

theorem runsOut_of_more (h : 1 < b.timer) : b.runsOut = false :=
  Bool.eq_false_iff.2 fun hout => absurd (runsOut_iff.1 hout).2 (Nat.not_le.2 h)

theorem runsOut_of_idle (h : b.counts = false) : b.runsOut = false :=
  Bool.eq_false_iff.2 fun hout => Bool.noConfusion (h.symm.trans (runsOut_iff.1 hout).1)

theorem timed_active {r : Reason} (h : b.state = .active r) (unbound : Bool) : (b.timed unbound).state = .active r := by
  unfold BorrowRecord.timed
  split
  · split
    · next hs => exact nomatch h.symm.trans hs
    · split <;> exact h
    · exact h
  · split <;> exact h

theorem eq_of_fields {s : BorrowState} {u : Bool} {n : Nat} (hs : b.state = s) (hu : b.upgrade = u) (hn : b.timer = n) :
    b = { b with state := s, upgrade := u, timer := n } := by
  subst hs hu hn
  rfl

end BorrowRecord

namespace State

variable {s : State} {u : ReportUser}

/-- A row that names what a report tick brings about is that whole tick. -/
theorem tickIf_true {named : Bool} (h : named = true) :
    (Host.Outcome.next (s.reportTickIf u named).takeFrame : Host.Outcome State Fault Refusal) = exec (.reportTick u) s := by
  rw [reportTickIf_true h]
  rfl

theorem tickIf_false {named : Bool} (h : named = false) :
    (Host.Outcome.next (s.reportTickIf u named).takeFrame : Host.Outcome State Fault Refusal) = .next s.takeFrame := by
  rw [reportTickIf_false h]

theorem tickPaths_exclusion (s : State) (k : Nat) : (s.tickPaths.borrow k).exclusion = (s.borrow k).exclusion ∧
    (s.tickPaths.borrow k).noUplink = (s.borrow k).noUplink := by
  by_cases h : s.overtakes k
  · rw [borrow_tickPaths_of_overtaken h]; exact ⟨rfl, rfl⟩
  · rw [borrow_tickPaths_of_not h]; exact ⟨rfl, rfl⟩

theorem borrow_tickPaths_reported (s : State) (k : Nat) : (s.reported u).tickPaths.borrow k = s.tickPaths.borrow k := by
  by_cases h : s.overtakes k
  · rw [borrow_tickPaths_of_overtaken h, borrow_tickPaths_of_overtaken (s := s.reported u) h]
    rfl
  · rw [borrow_tickPaths_of_not h, borrow_tickPaths_of_not (s := s.reported u) h]
    rfl

/-- The exclusion timer and the no-uplink mark after the tick. -/
theorem exclusion_pathTick (s : State) {k : Nat} (hk : k ∈ s.peers) :
    (s.pathTick.borrow k).exclusion = (s.borrow k).exclusion - 1 ∧
    ((s.borrow k).exclusion = 1 → (s.pathTick.borrow k).noUplink = false) ∧
    ((s.borrow k).exclusion ≠ 1 → (s.pathTick.borrow k).noUplink = (s.borrow k).noUplink) := by
  rw [borrow_pathTick s hk, (BorrowRecord.settled_exclusion ..).1, (BorrowRecord.settled_exclusion ..).2]
  obtain ⟨htimer, hclear, hkeep⟩ := BorrowRecord.exclusionTick_exclusion ((s.tickPaths.borrow k).timed s.hasUnbound)
  rw [(BorrowRecord.timed_exclusion _ _).1, (tickPaths_exclusion s k).1] at htimer hclear hkeep
  rw [(BorrowRecord.timed_exclusion _ _).2, (tickPaths_exclusion s k).2] at hkeep
  exact ⟨htimer, hclear, hkeep⟩

/-- An upgrade is not overtaken: its record is the FAULT record. -/
theorem not_overtakes_of_active {k : Nat} (hk : k ∈ s.peers) (h : (s.borrow k).state = .active .fault) : ¬s.overtakes k := fun hover => by
  have hnone : s.peers.find? _ = none := hover.1.2
  have := List.find?_eq_none.1 hnone k hk
  simp [h, BorrowState.hasReason] at this

end State

/-- Settles O38: a record at the tick by its state and its timer. -/
theorem timersLapse : Obligations.TimersLapse := by
  unfold Obligations.TimersLapse
  refine ⟨fun s howed => ?_, fun s k => ⟨fun hnot => ?_, fun hk => ⟨?_, ?_⟩⟩⟩
  · have hrun : exec (.reportTick .pathUnit) s = .next (s.reported .pathUnit).pathTick.takeFrame := State.exec_reportTick howed
    refine ⟨(s.reported .pathUnit).pathTick, hrun, State.eq_iff.2 (by simp [State.reported]), fun k hk => ?_⟩
    intro b c requested overtaken upgrading
    have hover : s.overtakes k ↔ overtaken := and_assoc
    have hrecord : c = ((s.tickPaths.borrow k).timed s.hasUnbound).exclusionTick.settled s.hasUnbound
      ((s.reported .pathUnit).pathTick.hasPathToward k) := by
      rw [← State.borrow_tickPaths_reported (u := .pathUnit)]
      exact State.borrow_pathTick (s.reported .pathUnit) hk
    have hpeer : s.peers.contains k.val = true := List.contains_iff_mem.2 hk
    have hrequest : ∀ {named}, (s.peers.contains k.val && (s.tickPaths.borrow k).runsOut && !(s.tickPaths.borrow k).state.isActive) = named →
        exec (.requestTimeout k) s = .next (s.reportTickIf .pathUnit named).takeFrame := fun h => h ▸ rfl
    have hupgrade : ∀ {named}, (s.peers.contains k.val && (s.tickPaths.borrow k).runsOut && (s.tickPaths.borrow k).state.isActive) = named →
        exec (.upgradeTimeout k) s = .next (s.reportTickIf .pathUnit named).takeFrame := fun h => h ▸ rfl
    refine ⟨fun ⟨r, hr⟩ hnot => ?_, fun hnot => ?_, fun ⟨hactive, hup⟩ => ?_, fun hup => ?_,
      State.exclusion_pathTick (s.reported .pathUnit) hk, fun hone => ?_⟩
    · have hr : (s.borrow k).state = .requested r := hr
      have hquiet : (s.borrow k).state.isActive = false := by rw [hr]; rfl
      have hcounts := BorrowRecord.counts_requested hr
      rw [State.borrow_tickPaths_of_not (mt hover.1 hnot)] at hrecord hrequest
      refine ⟨fun hlast => ⟨?_, ?_⟩, fun n hn => ?_⟩
      · have hnone := (BorrowRecord.exclusionTick_state (s.borrow k).ended).trans rfl
        rw [hrecord, BorrowRecord.timed_requested hr hlast, BorrowRecord.settled_none hnone]
        exact hnone
      · refine ((hrequest (named := true) ?_).trans (State.tickIf_true rfl)).trans hrun
        rw [hpeer, hquiet, BorrowRecord.runsOut_iff.2 ⟨hcounts, hlast⟩]
        rfl
      · have hn : (s.borrow k).timer = n + 2 := hn
        have hlong : (s.borrow k).runsOut = false := BorrowRecord.runsOut_of_more (by omega)
        rw [BorrowRecord.timed_of_more hcounts (by omega)] at hrecord
        obtain ⟨hstate, htimer, -⟩ := BorrowRecord.exclusionTick_fields { s.borrow k with timer := (s.borrow k).timer - 1 }
        rw [BorrowRecord.settled_requested (hstate.trans hr)] at hrecord
        refine ⟨(hrequest (named := false) (by rw [hlong, Bool.and_false]; rfl)).trans (State.tickIf_false rfl), fun hkept => ?_,
          fun hfault hbound => ?_⟩
        · rw [if_neg] at hrecord
          · rw [hrecord]
            exact ⟨hstate, htimer.trans (by simp [hn])⟩
          · rintro ⟨hbound, rfl⟩
            rcases hkept with h | h
            · exact nomatch h.symm.trans hr
            · exact Bool.noConfusion (hbound.symm.trans h)
        · rw [hrecord, if_pos ⟨hbound, BorrowState.requested.inj (hr.symm.trans hfault)⟩]
          rfl
    · refine (hrequest (named := false) ?_).trans (State.tickIf_false rfl)
      by_cases h : s.overtakes k
      · rw [State.borrow_tickPaths_of_overtaken h, BorrowRecord.runsOut_of_more (Nat.lt_succ_self 1), Bool.and_false]
        rfl
      · rw [State.borrow_tickPaths_of_not h]
        cases hstate : (s.borrow k).state with
        | none => rw [BorrowRecord.runsOut_of_idle (BorrowRecord.counts_none hstate), Bool.and_false]; rfl
        | requested r => exact absurd ⟨r, hstate⟩ hnot
        | active r => exact Bool.and_false _
    · have hstate : (s.borrow k).state = .active .fault := hactive
      have hcounts := (BorrowRecord.counts_active hstate).trans hup
      have hisActive : (s.borrow k).state.isActive = true := by rw [hstate]; rfl
      have hnot := State.not_overtakes_of_active hk hstate
      rw [State.borrow_tickPaths_of_not hnot] at hrecord hupgrade
      have hpath : ∀ {x : BorrowRecord}, (s.borrow k).timed s.hasUnbound = x → x.state = .active .fault →
          c = if (s.reported .pathUnit).pathTick.hasPathToward k then x.exclusionTick else x.exclusionTick.ended := fun hx hs => by
        rw [hrecord, hx, BorrowRecord.settled_active]
        rw [BorrowRecord.exclusionTick_state, hs]
        rfl
      have hread : ∀ {x : BorrowRecord}, (s.borrow k).timed s.hasUnbound = x → x.state = .active .fault →
          (s.reported .pathUnit).pathTick.hasPathToward k = true →
          c = { c with state := .active .fault, upgrade := x.upgrade, timer := x.timer } := fun {x} hx hs htoward => by
        obtain ⟨hstate', htimer', hup'⟩ := BorrowRecord.exclusionTick_fields x
        have hc := (hpath hx hs).trans (if_pos htoward)
        exact BorrowRecord.eq_of_fields ((congrArg BorrowRecord.state hc).trans (hstate'.trans hs))
          ((congrArg BorrowRecord.upgrade hc).trans hup') ((congrArg BorrowRecord.timer hc).trans htimer')
      refine ⟨fun hlast => ⟨?_, fun htoward => ⟨fun hunbound => ⟨?_, ?_⟩, fun hbound => ?_⟩⟩, fun n hn => ⟨?_, fun htoward => ?_⟩,
        fun hbare => ?_⟩
      · refine ((hupgrade (named := true) ?_).trans (State.tickIf_true rfl)).trans hrun
        rw [hpeer, hisActive, BorrowRecord.runsOut_iff.2 ⟨hcounts, hlast⟩]
        rfl
      · have htimed := (BorrowRecord.timed_upgrade hstate hup hlast s.hasUnbound).trans (if_pos hunbound)
        have := hread htimed hstate htoward
        rwa [show ({ s.borrow k with timer := 2 } : BorrowRecord).upgrade = true from hup, ← hstate] at this
      · have hkeep : (s.reported .pathUnit).tickPaths.borrow k = s.borrow k :=
          (State.borrow_tickPaths_reported s k).trans (State.borrow_tickPaths_of_not hnot)
        have hsent := State.urgent_requestTicks_upgrade (s := (s.reported .pathUnit).tickPaths) (State.nodup_peers _)
          ((State.ground_tickPaths (s.reported .pathUnit)).peers.symm ▸ hk)
          (by rw [hkeep]; exact BorrowRecord.runsOut_iff.2 ⟨hcounts, hlast⟩) (by rw [hkeep]; exact hstate)
          ((State.hasUnbound_tickPaths (s.reported .pathUnit)).trans hunbound)
        rw [State.urgent_pathTick]
        rwa [State.solePath_tickPaths] at hsent
      · have htimed := (BorrowRecord.timed_upgrade hstate hup hlast s.hasUnbound).trans (if_neg (by simp [hbound]))
        have := hread htimed hstate htoward
        rwa [← hstate] at this
      · have hn : (s.borrow k).timer = n + 2 := hn
        refine (hupgrade (named := false) ?_).trans (State.tickIf_false rfl)
        rw [BorrowRecord.runsOut_of_more (by omega), Bool.and_false]
        rfl
      · have hn : (s.borrow k).timer = n + 2 := hn
        have htimed := BorrowRecord.timed_of_more hcounts (by omega) s.hasUnbound
        have := hread htimed hstate htoward
        rwa [show ({ s.borrow k with timer := (s.borrow k).timer - 1 } : BorrowRecord).upgrade = true from hup,
          show ({ s.borrow k with timer := (s.borrow k).timer - 1 } : BorrowRecord).timer = n + 1 from congrArg (· - 1) hn, ← hstate] at this
      · rw [hpath rfl (BorrowRecord.timed_active hstate _), if_neg (by simp [hbare])]
        rfl
    · refine (hupgrade (named := false) ?_).trans (State.tickIf_false rfl)
      by_cases h : s.overtakes k
      · rw [State.borrow_tickPaths_of_overtaken h]
        exact Bool.and_false _
      · rw [State.borrow_tickPaths_of_not h]
        have hup : (s.borrow k).upgrade = false := hup
        cases hstate : (s.borrow k).state with
        | none => exact Bool.and_false _
        | requested r => exact Bool.and_false _
        | active r => rw [BorrowRecord.runsOut_of_idle ((BorrowRecord.counts_active hstate).trans hup), Bool.and_false]; rfl
    · exact (State.tickIf_true (by rw [hpeer]; simpa using hone)).trans hrun
  · refine State.tickIf_false ?_
    rcases hnot with hk | hexcl
    · simp [hk]
    · simp [hexcl]
  · exact State.tickIf_false (by simp [hk])
  · exact State.tickIf_false (by simp [hk])

end Sys2Proof.Machine
end

section
/-! A peer out of reach (R77): not LIVE, or behind a cross port that is not live. No request, no RETURN and no other message goes to
it, and the end of its arrangements is for good. -/

namespace Sys2Proof.Machine

open Sys2Proof.Config

namespace State

variable {s t z : State} {j k : Nat}

/-! ## Messages -/

/-- Peer j is LIVE behind a live cross port. -/
def inReach (s : State) (j : Nat) : Bool := s.peerLive j && s.crossLive j

theorem SameGround.inReach (h : s.SameGround t) (j : Nat) : t.inReach j = s.inReach j := by
  unfold State.inReach
  rw [h.peerLive, h.crossLive]

theorem candidate_ne (h : s.inReach j = false) (r : Reason) : s.candidate r ≠ some j := fun hcand => by
  obtain ⟨hlive, hcross, -⟩ := eligible_iff.1 (qualifies_eligible (candidate_qualifies hcand).2)
  have hreach : s.inReach j = true := by simp [State.inReach, State.peerLive, hlive, hcross]
  exact Bool.noConfusion (h.symm.trans hreach)

/-- The messages that wait. -/
def waiting (s : State) : List Msg := s.xc.urgent ++ s.xc.normal

/-- From s to z no message to peer j is queued. -/
def NoNews (j : Nat) (s z : State) : Prop := ∀ m ∈ z.waiting, m ∈ s.waiting ∨ m.dest ≠ j

theorem NoNews.refl (j : Nat) (s : State) : NoNews j s s := fun _ hm => .inl hm

theorem NoNews.of_xc (h : t.xc = s.xc) : NoNews j s t := fun m hm => .inl (by unfold State.waiting at *; rwa [h] at hm)

theorem NoNews.trans (h : NoNews j s z) (h' : NoNews j z t) : NoNews j s t := fun m hm => (h' m hm).elim (h m) .inr

theorem noNews_queueUrgent {m : Msg} (h : m.dest ≠ j) : NoNews j s (s.queueUrgent m) := fun x hx => by
  rcases List.mem_append.1 hx with hx | hx
  · rcases mem_placeMsg hx with rfl | hx
    · exact .inr h
    · exact .inl (List.mem_append_left _ hx)
  · exact .inl (List.mem_append_right _ hx)

theorem noNews_queueNormal {m : Msg} (h : m.dest ≠ j) : NoNews j s (s.queueNormal m) := fun x hx => by
  rcases List.mem_append.1 hx with hx | hx
  · exact .inl (List.mem_append_left _ hx)
  · rcases mem_placeMsg hx with rfl | hx
    · exact .inr h
    · exact .inl (List.mem_append_right _ hx)

theorem noNews_dropReturn (s : State) : NoNews j s (s.dropReturn k) := fun x hx => by
  rcases List.mem_append.1 hx with hx | hx
  · exact .inl (List.mem_append_left _ hx)
  · exact .inl (List.mem_append_right _ (List.mem_of_mem_filter hx))

theorem noNews_request (h : k ≠ j) (r : Reason) : NoNews j s (s.request k r) :=
  ((NoNews.of_xc (t := s.setBorrow k { s.borrow k with state := .requested r, timer := 2, upgrade := false }) rfl).trans
    (noNews_queueUrgent (m := .borrow k r _) h)).trans (noNews_dropReturn _)

theorem noNews_freeRecord (h : s.inReach j = false) (k : Nat) : NoNews j s (s.freeRecord k) := by
  unfold State.freeRecord
  split
  · dsimp only
    split
    · next hreach =>
      have hk : k ≠ j := fun hkj => by
        subst hkj
        exact Bool.noConfusion (h.symm.trans hreach)
      exact (NoNews.of_xc (t := s.setBorrow k (s.borrow k).ended) rfl).trans (noNews_queueNormal (m := .ret k) hk)
    · exact .of_xc rfl
  · exact .refl j s

theorem noNews_settlePaths (h : s.inReach j = false) : NoNews j s s.settlePaths := by
  have hfree : NoNews j s (s.each s.peers State.freeRecord) ∧ s.SameGround (s.each s.peers State.freeRecord) :=
    foldl_induct (f := State.freeRecord) (P := fun z => NoNews j s z ∧ s.SameGround z) (fun z k hz =>
      ⟨hz.1.trans (noNews_freeRecord ((hz.2.inReach j).trans h) k), hz.2.trans (rerecorded_freeRecord z k).ground⟩) s.peers
      ⟨.refl j s, ⟨rfl, rfl, rfl, rfl⟩⟩
  have hclear := hfree.1.trans (.of_xc (xc_abandonFault _))
  have hground := hfree.2.trans (rerecorded_abandonFault _).ground
  unfold State.settlePaths
  generalize (s.each s.peers State.freeRecord).abandonFault = z at hclear hground ⊢
  by_cases hcall : z.callsFault
  · cases hcand : z.candidate .fault with
    | none => rwa [faultRequest_of_no_candidate hcand]
    | some k =>
      rw [faultRequest_of_calls hcall hcand]
      refine hclear.trans (noNews_request (fun hk => candidate_ne ((hground.inReach j).trans h) .fault ?_) .fault)
      rw [hcand, hk]
  · rwa [faultRequest_of_not_calls hcall]

theorem noNews_reportPaths (hj : j < destAll) (b : State) : NoNews j s (b.reportPaths s) := fun m hm => by
  rcases List.mem_append.1 hm with hm | hm
  · exact .inl (List.mem_append_left _ (urgent_reportPaths b s ▸ hm))
  · rcases mem_normal_reportPaths hm with rfl | hm
    · exact .inr (Nat.ne_of_gt hj)
    · exact .inl (List.mem_append_right _ hm)

/-! ## The end of every arrangement with a peer (R77) -/

theorem binding_endArrangements (s : State) (k : Nat) {i : Nat} (hi : i ∈ paths) : (s.endArrangements k).binding i =
    if (s.borrow k).state.isActive = true ∧ (s.binding i).toward = some k then s.replacement (some k) i else s.binding i := by
  have hset : ∀ z : State, ((z.setBorrow k (z.borrow k).ended).dropLend k).binding i = z.binding i := fun _ => rfl
  unfold State.endArrangements
  dsimp only
  rw [hset]
  split
  · next hactive =>
    rw [binding_replacePaths]
    exact if_congr (by simp [hi, hactive]) rfl rfl
  · next hactive => exact (if_neg fun h => hactive h.1).symm

theorem borrow_endArrangements (s : State) (k j : Nat) :
    (s.endArrangements k).borrow j = if j = k then (s.borrow k).ended else s.borrow j := by
  have hset : ∀ z : State, ((z.setBorrow k (z.borrow k).ended).dropLend k).borrow j = if j = k then (z.borrow k).ended else z.borrow j :=
    fun z => borrow_setBorrow z k j _
  unfold State.endArrangements
  dsimp only
  rw [hset]
  have hkeep : ∀ i, (if (s.borrow k).state.isActive then s.replacePaths (some k) (fun _ b => b.toward == some k) else s).borrow i =
      s.borrow i := fun i => by
    split
    · exact (rebound_replacePaths ..).borrow i
    · rfl
  rw [hkeep, hkeep]

theorem lend_endArrangements (s : State) (k j : Nat) : (s.endArrangements k).lend j = if j = k then none else s.lend j := by
  have hset : ∀ z : State, ((z.setBorrow k (z.borrow k).ended).dropLend k).lend j = if j = k then none else z.lend j :=
    fun z => lend_dropLend z k j
  unfold State.endArrangements
  dsimp only
  rw [hset]
  split
  · rfl
  · split
    · exact (rebound_replacePaths ..).lend j
    · rfl

theorem ground_endArrangements (s : State) (k : Nat) : s.SameGround (s.endArrangements k) ∧ (s.endArrangements k).xc = s.xc := by
  unfold State.endArrangements
  dsimp only
  split
  · have hre := rebound_replacePaths s (some k) (fun _ b => b.toward == some k)
    refine ⟨hre.ground.trans ⟨rfl, rfl, rfl, rfl⟩, ?_⟩
    change (s.replacePaths _ _).xc = _
    rw [hre]
  · exact ⟨⟨rfl, rfl, rfl, rfl⟩, rfl⟩

/-- A path is re-placed toward the peer of an ACTIVE record only. -/
theorem active_of_replacement {e : Option Nat} {i : Nat} (h : (s.replacement e i).toward = some j) : (s.borrow j).state.isActive = true := by
  cases hhome : s.live (s.homePort i) with
  | true => rw [replacement_of_home _ hhome] at h; exact nomatch h
  | false =>
    cases hother : s.live (otherUplink (s.homePort i)) with
    | true => rw [replacement_of_other _ hhome hother] at h; exact nomatch h
    | false =>
      rcases replacement_of_dead e hhome hother with ⟨f, hf, hr⟩ | ⟨-, hr⟩
      · rw [hr] at h
        cases (show some f = some j from h)
        rw [(faultTarget_spec hf).2.1]
        rfl
      · rw [hr] at h; exact nomatch h

/-- What settling leaves of the record of a peer out of reach. -/
theorem borrow_settlePaths_of_outOfReach (hj : j ∈ s.peers) (h : s.inReach j = false) : s.settlePaths.borrow j = s.cleared j := by
  have hground := ((rerecorded_freeRecords s s.peers).trans (rerecorded_abandonFault _)).ground
  unfold State.settlePaths
  rcases borrow_faultRequest (s.each s.peers State.freeRecord).abandonFault j with hb | ⟨-, hcand, -⟩
  · rw [hb, borrow_cleared s hj]
  · exact absurd hcand (candidate_ne ((hground.inReach j).trans h) .fault)

/-- No arrangement with peer j is left. -/
def Ended (j : Nat) (s : State) : Prop := (s.borrow j).state = .none ∧ s.lend j = none

/-- A path bound toward peer j stands on an ACTIVE record. -/
def Backed (j : Nat) (s : State) : Prop := (s.borrow j).state.isActive = true ∨ s.hasPathToward j = false

theorem Backed.endArrangements (hback : Backed j s) : Backed j (s.endArrangements k) := by
  by_cases hjk : j = k
  · subst hjk
    refine .inr (Bool.eq_false_iff.2 fun hpath => ?_)
    obtain ⟨i, hi, htoward⟩ := hasPathToward_iff.1 hpath
    rw [binding_endArrangements s j hi] at htoward
    split at htoward
    · exact replacement_toward j htoward
    · next hnot =>
      rcases hback with hactive | hnone
      · exact hnot ⟨hactive, htoward⟩
      · exact Bool.noConfusion (hnone.symm.trans (hasPathToward_iff.2 ⟨i, hi, htoward⟩))
  · have hborrow : (s.endArrangements k).borrow j = s.borrow j := (borrow_endArrangements ..).trans (if_neg hjk)
    unfold Backed
    rw [hborrow]
    by_cases hactive : (s.borrow j).state.isActive = true
    · exact .inl hactive
    · have hnone := hback.resolve_left hactive
      refine .inr (Bool.eq_false_iff.2 fun hpath => ?_)
      obtain ⟨i, hi, htoward⟩ := hasPathToward_iff.1 hpath
      rw [binding_endArrangements s k hi] at htoward
      split at htoward
      · exact hactive (active_of_replacement htoward)
      · exact Bool.noConfusion (hnone.symm.trans (hasPathToward_iff.2 ⟨i, hi, htoward⟩))

section lost

variable (hj : j ∈ s.peers) (h : s.inReach j = false)
include hj h

theorem borrow_pathsPeerLost (k : Nat) : (s.pathsPeerLost k).borrow j = (s.endArrangements k).cleared j := by
  have hground := (ground_endArrangements s k).1
  refine (borrow_reportPaths ..).trans (borrow_settlePaths_of_outOfReach ?_ ((hground.inReach j).trans h))
  rwa [hground.peers]

theorem Ended.pathsPeerLost (hend : j = k ∨ Ended j s) : Ended j (s.pathsPeerLost k) := by
  have hborrow : ((s.endArrangements k).borrow j).state = .none := by
    rw [borrow_endArrangements]
    split
    · rfl
    · next hne => exact (hend.resolve_left hne).1
  refine ⟨?_, ?_⟩
  · rw [borrow_pathsPeerLost hj h]
    have hsettled : (s.endArrangements k).cleared j = _ :=
      BorrowRecord.settled_none hborrow (s.endArrangements k).hasUnbound ((s.endArrangements k).hasPathToward j)
    rw [hsettled]
    exact hborrow
  · refine ((lend_reportPaths ..).trans ((rerecorded_settlePaths _).lend j)).trans ((lend_endArrangements ..).trans ?_)
    split
    · rfl
    · next hne => exact (hend.resolve_left hne).2

theorem Backed.pathsPeerLost (hback : Backed j s) : Backed j (s.pathsPeerLost k) := by
  have hpath : (s.pathsPeerLost k).hasPathToward j = (s.endArrangements k).hasPathToward j :=
    hasPathToward_congr (fun i _ => binding_settled s _ i) j
  unfold Backed
  rw [borrow_pathsPeerLost hj h, hpath]
  rcases Backed.endArrangements (k := k) hback with hactive | hnone
  · have hsettled : (s.endArrangements k).cleared j = _ :=
      BorrowRecord.settled_active hactive (s.endArrangements k).hasUnbound ((s.endArrangements k).hasPathToward j)
    rw [hsettled]
    cases hto : (s.endArrangements k).hasPathToward j with
    | true => exact .inl hactive
    | false => exact .inr rfl
  · exact .inr hnone

omit hj in
theorem NoNews.pathsPeerLost (hdest : j < destAll) (k : Nat) : NoNews j s (s.pathsPeerLost k) :=
  ((NoNews.of_xc (ground_endArrangements s k).2).trans
    (noNews_settlePaths (((ground_endArrangements s k).1.inReach j).trans h))).trans (noNews_reportPaths hdest s)

end lost

/-! ## The peers that a tick finds STALE (R121, R123) -/

theorem ground_pathsPeerLost (s : State) (k : Nat) : s.SameGround (s.pathsPeerLost k) := ⟨by simp, by simp, by simp, by simp⟩

/-- The reports of several lost peers, taken in turn, seen by one peer out of reach. -/
theorem pathsPeersLost_reads {ks : List Nat} (hj : j ∈ s.peers) (h : s.inReach j = false) (hdest : j < destAll) :
    (j ∈ ks ∨ Ended j s → Ended j (s.each ks State.pathsPeerLost)) ∧ (Backed j s → Backed j (s.each ks State.pathsPeerLost)) ∧
      NoNews j s (s.each ks State.pathsPeerLost) := by
  induction ks generalizing s with
  | nil => exact ⟨fun hend => hend.resolve_left (List.not_mem_nil), id, .refl j s⟩
  | cons k ks ih =>
    have hground := ground_pathsPeerLost s k
    obtain ⟨hended, hbacked, hnews⟩ := ih (s := s.pathsPeerLost k) (by rwa [hground.peers]) ((hground.inReach j).trans h)
    refine ⟨fun hend => hended ?_, fun hback => hbacked (Backed.pathsPeerLost hj h hback),
      (NoNews.pathsPeerLost h hdest k).trans hnews⟩
    rcases hend with hmem | hend
    · exact (List.mem_cons.1 hmem).elim (fun hjk => .inr (Ended.pathsPeerLost hj h (.inl hjk))) .inl
    · exact .inr (Ended.pathsPeerLost hj h (.inr hend))

end State

theorem PeerRecord.goesStale_iff {r : PeerRecord} : r.goesStale = true ↔ r.state = .live ∧ 2 ≤ r.missed := by
  simp [PeerRecord.goesStale]

/-- Settles O39: a STALE peer is out of reach before the first report is taken. -/
theorem peerStaleEnds : Obligations.PeerStaleEnds := by
  unfold Obligations.PeerStaleEnds
  refine ⟨fun s k howed hk hlive hmissed => ?_, fun s k hnot => ?_⟩
  · have hrun : exec (.reportTick .peerView) s = .next (s.reported .peerView).peerReportTick.takeFrame := State.exec_reportTick howed
    refine ⟨(s.reported .peerView).peerReportTick, ?_, hrun, State.eq_iff.2 (by simp [State.reported]), fun j hj hjlive hjmissed => ?_⟩
    · refine (State.tickIf_true ?_).trans hrun
      simp [hk, PeerRecord.goesStale, hlive, hmissed]
    · have hstale : j ∈ s.peers.filter fun k => (s.peer k).goesStale :=
        List.mem_filter.2 ⟨hj, PeerRecord.goesStale_iff.2 ⟨hjlive, hjmissed⟩⟩
      have hrecord : (s.peer j).reportTick = { s.peer j with state := .stale, missed := 3 } :=
        (PeerRecord.reportTick_of_live hjlive).trans (if_pos hjmissed)
      have hpeer : (s.reported .peerView).peerReportTick.peer j = { s.peer j with state := .stale, missed := 3 } := by
        rw [State.peer_peerReportTick]
        exact (if_pos hj).trans (hrecord)
      obtain ⟨z, hz⟩ : ∃ z, z = (s.reported .peerView).mapPeers s.peers PeerRecord.reportTick := ⟨_, rfl⟩
      have htick : (s.reported .peerView).peerReportTick = z.each (s.peers.filter fun k => (s.peer k).goesStale) State.pathsPeerLost := by
        rw [hz]; rfl
      have hpu : z.pu = s.pu ∧ z.xc = s.xc ∧ z.il = s.il := by rw [hz]; simp [State.reported]
      have hpeers : z.peers = s.peers := by unfold State.peers; rw [hpu.2.2]
      have hlost : z.inReach j = false := by
        have hzpeer : z.peer j = (s.peer j).reportTick := by
          rw [hz, State.peer_mapPeers _ (State.nodup_peers s), if_pos hj]
          rfl
        unfold State.inReach State.peerLive
        rw [hzpeer, hrecord]
        rfl
      obtain ⟨hended, hbacked, hnews⟩ := State.pathsPeersLost_reads (ks := s.peers.filter fun k => (s.peer k).goesStale)
        (hpeers.symm ▸ hj) hlost (show j < destAll by
          have := State.mem_stations hj
          simp only [stations, List.mem_cons, List.not_mem_nil, or_false] at this
          unfold destAll
          omega)
      obtain ⟨hnone, hlend⟩ := hended (.inl hstale)
      rw [← htick] at hnone hlend hbacked hnews
      refine ⟨hpeer, hnone, hlend, fun hactive i hi htoward => ?_, fun m hm => ?_⟩
      · have hback := hbacked (.inl (by rw [State.borrow_congr (s := s) (congrArg PathUnit.borrows hpu.1)]; exact hactive))
        rcases hback with h | h
        · simp [hnone, BorrowState.isActive] at h
        · exact Bool.noConfusion (h.symm.trans (State.hasPathToward_iff.2 ⟨i, hi, htoward⟩))
      · refine (hnews m hm).imp_left fun hmem => ?_
        unfold State.waiting at hmem
        rwa [hpu.2.1] at hmem
  · refine State.tickIf_false (Bool.and_eq_false_iff.2 ?_)
    rcases hnot with h | h | h
    · exact .inl (by simpa using h)
    · exact .inr (by simp [PeerRecord.goesStale, h])
    · exact .inr (by simp [PeerRecord.goesStale, Nat.not_le.2 h])

end Sys2Proof.Machine
end

section
/-! The destination set (R31 to R34): its rows, and that every destination set is sound. -/

namespace Sys2Proof.Machine

open Sys2Proof.Config

theorem otherUplink_eq (p : Nat) : otherUplink p = if p = 16 then 17 else 16 := rfl

theorem pathOf_mem (n : Nat) (src dst : Addr) : pathOf n src dst ∈ paths :=
  List.mem_range.2 (Nat.mod_lt (flowHash n src dst) (by decide))

namespace State

variable {s : State} {n p : Nat}

/-! ## Rows -/

/-- A filter on liveness, copy by copy. -/
theorem localFlood_eq (s : State) (n : Nat) (arrival : Option Nat) : s.localFlood n arrival =
    (accessPorts.filter fun q => s.serves q n && arrival != some q).flatMap fun q => if s.live q then [plain q] else [] := by
  unfold State.localFlood
  generalize accessPorts = qs
  induction qs with
  | nil => rfl
  | cons q qs ih =>
    simp only [List.filter_cons]
    cases s.serves q n <;> cases hlive : s.live q <;> cases arrival != some q <;> simp [ih, hlive]

theorem unicast_eq (s : State) (q : Nat) : s.unicast q = if s.live q then [plain q] else [] := rfl

theorem spineCopy_of_none {i : Nat} {sel flooded : Bool} (h : s.spinePort i sel flooded = none) : s.spineCopy i sel flooded = [] := by
  unfold State.spineCopy
  rw [h]

theorem spineCopy_of_some {i : Nat} {sel flooded : Bool} {d : Dest} (h : s.spinePort i sel flooded = some d) :
    s.spineCopy i sel flooded = if s.live d.port then [d] else [] := by
  unfold State.spineCopy
  rw [h]

section spinePort

variable {i k : Nat} {sel flooded : Bool}

theorem spinePort_of_unbound (h : s.binding i = .unbound) : s.spinePort i sel flooded = none := by
  unfold State.spinePort
  rw [h]

theorem spinePort_of_home (h : s.binding i = .home) : s.spinePort i sel flooded = some (plain (s.homePort i)) := by
  unfold State.spinePort
  rw [h]

theorem spinePort_of_replaceUplink (h : s.binding i = .replaceUplink) :
    s.spinePort i sel flooded = some (plain (otherUplink (s.homePort i))) := by
  unfold State.spinePort
  rw [h]

theorem spinePort_of_replacePeer (h : s.binding i = .replacePeer k) : s.spinePort i sel flooded =
    if flooded && s.crossLive k then none else some (borrowedTo (s.crossPort k)) := by
  unfold State.spinePort
  rw [h]

theorem spinePort_of_split (h : s.binding i = .split k) : s.spinePort i sel flooded =
    if sel && !(flooded && s.crossLive k) then some (borrowedTo (s.crossPort k)) else some (plain (s.homePort i)) := by
  unfold State.spinePort
  rw [h]

end spinePort

/-! ## Sound sets -/

/-- At most one copy per port, every copy on a live port, no copy with both marks. -/
def SoundDests (s : State) (ds : List Dest) : Prop :=
  (ds.map Dest.port).Nodup ∧ ∀ d ∈ ds, d.port < 21 ∧ s.live d.port = true ∧ ¬(d.borrowed = true ∧ d.flood = true)

theorem soundDests_nil (s : State) : s.SoundDests [] := ⟨List.nodup_nil, nofun⟩

theorem soundDests_single {d : Dest} (hport : d.port < 21) (hmarks : ¬(d.borrowed = true ∧ d.flood = true)) :
    s.SoundDests (if s.live d.port then [d] else []) := by
  split
  · next hlive =>
    refine ⟨List.nodup_singleton _, fun e he => ?_⟩
    rw [List.mem_singleton.1 he]
    exact ⟨hport, hlive, hmarks⟩
  · exact soundDests_nil s

theorem port_of_mem_single {q : Nat} {c : Prop} [Decidable c] (d : Dest) (hd : d ∈ (if c then [plain q] else [])) : d.port = q := by
  split at hd
  · rw [List.mem_singleton.1 hd]; rfl
  · exact nomatch hd

theorem SoundDests.append {ds es : List Dest} (hd : s.SoundDests ds) (he : s.SoundDests es)
    (hne : ∀ d ∈ ds, ∀ e ∈ es, d.port ≠ e.port) : s.SoundDests (ds ++ es) := by
  refine ⟨?_, fun d hmem => (List.mem_append.1 hmem).elim (hd.2 d) (he.2 d)⟩
  rw [List.map_append]
  refine List.nodup_append.2 ⟨hd.1, he.1, fun x hx y hy => ?_⟩
  obtain ⟨d, hd', rfl⟩ := List.mem_map.1 hx
  obtain ⟨e, he', rfl⟩ := List.mem_map.1 hy
  exact hne d hd' e he'

theorem mem_localFlood {arrival : Option Nat} {d : Dest} : d ∈ s.localFlood n arrival ↔
    ∃ q < 16, s.serves q n = true ∧ s.live q = true ∧ arrival ≠ some q ∧ d = plain q := by
  unfold State.localFlood
  rw [List.mem_map]
  refine exists_congr fun q => ?_
  simp only [List.mem_filter, accessPorts, List.mem_range, Bool.and_eq_true, bne_iff_ne, ne_eq, eq_comm (a := plain q)]
  tauto

theorem mem_crossFlood {d : Dest} : d ∈ s.crossFlood ↔
    ∃ q ∈ crossPorts, s.live q = true ∧ d = { port := q, borrowed := false, flood := true } := by
  unfold State.crossFlood
  rw [List.mem_map]
  refine exists_congr fun q => ?_
  rw [List.mem_filter, and_assoc, eq_comm (a := d)]

theorem mem_crossPorts {q : Nat} : q ∈ crossPorts ↔ 18 ≤ q ∧ q < 21 := by
  simp only [crossPorts, List.mem_cons, List.not_mem_nil, or_false]
  omega

theorem soundDests_localFlood (s : State) (n : Nat) (arrival : Option Nat) : s.SoundDests (s.localFlood n arrival) := by
  refine ⟨?_, fun d hd => ?_⟩
  · unfold State.localFlood
    rw [List.map_map]
    exact (List.map_id _).symm ▸ nodup_accessPorts.filter _
  · obtain ⟨q, hq, -, hlive, -, rfl⟩ := mem_localFlood.1 hd
    exact ⟨Nat.lt_trans hq (by decide), hlive, by simp [plain]⟩

theorem soundDests_crossFlood (s : State) : s.SoundDests s.crossFlood := by
  refine ⟨?_, fun d hd => ?_⟩
  · unfold State.crossFlood
    rw [List.map_map]
    exact (List.map_id _).symm ▸ (by decide : crossPorts.Nodup).filter _
  · obtain ⟨q, hq, hlive, rfl⟩ := mem_crossFlood.1 hd
    exact ⟨(mem_crossPorts.1 hq).2, hlive, by simp⟩

theorem crossPort_lt (hst : s.il.station ≤ 3) {k : Nat} (hk : k ∈ s.peers) : s.crossPort k < 21 := by
  obtain ⟨hmem, hne⟩ := List.mem_filter.1 hk
  simp only [stations, List.mem_cons, List.not_mem_nil, or_false] at hmem
  have hne : k ≠ s.il.station := of_decide_eq_true hne
  unfold State.crossPort
  omega

/-- Every copy of the set goes to an uplink. -/
def UplinksOnly (ds : List Dest) : Prop := ∀ d ∈ ds, d.port = u0 ∨ d.port = u1

section grounded

variable (h : s.PathsSound)
include h

theorem homePort_of_sound (i : Nat) : s.homePort i = u0 ∨ s.homePort i = u1 := homePort_cases h.2.2.1 i

theorem otherUplink_of_sound (i : Nat) : otherUplink (s.homePort i) = u0 ∨ otherUplink (s.homePort i) = u1 := by
  rcases homePort_of_sound h i with hi | hi <;> rw [hi]
  · exact .inr rfl
  · exact .inl rfl

omit h in
theorem uplink_lt {q : Nat} (hq : q = u0 ∨ q = u1) : q < 21 := by rcases hq with rfl | rfl <;> decide

/-- A spine copy on a path is for an uplink, or borrowed and for the cross port of a peer; a flooded one that keeps clear of a live
cross port. -/
theorem spinePort_cases {i : Nat} (hi : i ∈ paths) (sel flooded : Bool) : s.spinePort i sel flooded = none ∨
    (∃ q, (q = u0 ∨ q = u1) ∧ s.spinePort i sel flooded = some (plain q)) ∨
    ∃ k ∈ s.peers, s.spinePort i sel flooded = some (borrowedTo (s.crossPort k)) ∧ (flooded && s.crossLive k) = false := by
  have hok := (pathsSound_iff.1 h).2.2.2.1.1.2 i hi
  have hhome := homePort_of_sound h i
  cases hb : s.binding i with
  | unbound => exact .inl (spinePort_of_unbound hb)
  | home => exact .inr (.inl ⟨_, hhome, spinePort_of_home hb⟩)
  | replaceUplink => exact .inr (.inl ⟨_, otherUplink_of_sound h i, spinePort_of_replaceUplink hb⟩)
  | replacePeer k =>
    rw [hb] at hok
    rw [spinePort_of_replacePeer hb]
    split
    · exact .inl rfl
    · next hshared => exact .inr (.inr ⟨k, hok.1, rfl, Bool.eq_false_iff.2 hshared⟩)
  | split k =>
    rw [hb] at hok
    rw [spinePort_of_split hb]
    split
    · next hsplit => exact .inr (.inr ⟨k, hok.1, rfl, (Bool.not_eq_true' _).mp (Bool.and_eq_true_iff.1 hsplit).2⟩)
    · exact .inr (.inl ⟨_, hhome, rfl⟩)

theorem soundDests_spineCopy {i : Nat} (hi : i ∈ paths) (sel flooded : Bool) : s.SoundDests (s.spineCopy i sel flooded) ∧
    (∀ d ∈ s.spineCopy i sel flooded, 16 ≤ d.port) ∧ (flooded = true → UplinksOnly (s.spineCopy i sel flooded)) := by
  rcases spinePort_cases h hi sel flooded with hp | ⟨q, hq, hp⟩ | ⟨k, hk, hp, hshared⟩
  · rw [spineCopy_of_none hp]
    exact ⟨soundDests_nil s, nofun, fun _ => nofun⟩
  · rw [spineCopy_of_some hp]
    have honly : UplinksOnly (if s.live (plain q).port then [plain q] else []) := fun d hd => by
      split at hd
      · rw [List.mem_singleton.1 hd]; exact hq
      · exact nomatch hd
    exact ⟨soundDests_single (uplink_lt hq) (by simp [plain]), fun d hd => by rcases honly d hd with h | h <;> rw [h] <;> decide,
      fun _ => honly⟩
  · rw [spineCopy_of_some hp]
    refine ⟨soundDests_single (crossPort_lt h.1 hk) (by simp [borrowedTo]), fun d hd => ?_, fun hflooded d hd => ?_⟩
    · split at hd
      · rw [List.mem_singleton.1 hd]
        exact Nat.le_trans (by decide) (le_crossPort s k)
      · exact nomatch hd
    · rw [hflooded, Bool.true_and] at hshared
      rw [if_neg (show ¬s.live (borrowedTo (s.crossPort k)).port = true from Bool.eq_false_iff.1 hshared)] at hd
      exact nomatch hd

omit h in
/-- A local flood, a flooded spine copy and the flood copies keep clear of each other. -/
theorem soundDests_flood {ds : List Dest} (arrival : Option Nat) (hds : s.SoundDests ds) (honly : UplinksOnly ds) :
    s.SoundDests (s.localFlood n arrival ++ ds ++ s.crossFlood) := by
  have hlocal : ∀ d ∈ s.localFlood n arrival, d.port < 16 := fun d hd => by
    obtain ⟨q, hq, -, -, -, rfl⟩ := mem_localFlood.1 hd
    exact hq
  have hcross : ∀ d ∈ s.crossFlood, 18 ≤ d.port := fun d hd => by
    obtain ⟨q, hq, -, rfl⟩ := mem_crossFlood.1 hd
    exact (mem_crossPorts.1 hq).1
  have hspine : ∀ d ∈ ds, 16 ≤ d.port ∧ d.port < 18 := fun d hd => by
    rcases honly d hd with h | h <;> rw [h] <;> decide
  refine SoundDests.append (SoundDests.append (soundDests_localFlood s n arrival) hds fun d hd e he => ?_) (soundDests_crossFlood s)
    fun d hd e he => ?_
  · have := hlocal d hd
    have := (hspine e he).1
    omega
  · have := hcross e he
    rcases List.mem_append.1 hd with hd | hd
    · have := hlocal d hd
      omega
    · have := (hspine d hd).2
      omega

theorem lentUplink_reads (i : Nat) : s.SoundDests (s.lentUplink i) ∧ UplinksOnly (s.lentUplink i) := by
  unfold State.lentUplink
  split
  · next hlive =>
    have hone := soundDests_single (s := s) (d := plain (s.homePort i)) (uplink_lt (homePort_of_sound h i)) (by simp [plain])
    rw [if_pos (show s.live (plain (s.homePort i)).port = true from hlive)] at hone
    exact ⟨hone, fun d hd => by rw [List.mem_singleton.1 hd]; exact homePort_of_sound h i⟩
  · split
    · next hlive =>
      have hone := soundDests_single (s := s) (d := plain (otherUplink (s.homePort i))) (uplink_lt (otherUplink_of_sound h i)) (by simp [plain])
      rw [if_pos (show s.live (plain (otherUplink (s.homePort i))).port = true from hlive)] at hone
      exact ⟨hone, fun d hd => by rw [List.mem_singleton.1 hd]; exact otherUplink_of_sound h i⟩
    · exact ⟨soundDests_nil s, nofun⟩

end grounded

end State

/-- Settles O20: the rows by the definition of each set; the soundness by the kinds of port that each part of a set can name. -/
theorem destinationsSound : Obligations.DestinationsSound := by
  unfold Obligations.DestinationsSound
  refine ⟨?_, ?_⟩
  · intro s p n src dst only crossOf home other shares spine servers peers
    have hservers : ∀ arrival, s.localFlood n arrival = servers arrival := fun arrival => State.localFlood_eq s n arrival
    have hspine : ∀ flooded, s.spineCopy (pathOf n src dst) (splitSelector n src dst) flooded = spine flooded := fun flooded => by
      simp only [spine]
      cases hb : s.binding (pathOf n src dst) with
      | unbound => exact State.spineCopy_of_none (State.spinePort_of_unbound hb)
      | home => exact State.spineCopy_of_some (State.spinePort_of_home hb)
      | replaceUplink => exact State.spineCopy_of_some (State.spinePort_of_replaceUplink hb)
      | replacePeer k =>
        have hport := State.spinePort_of_replacePeer hb (sel := splitSelector n src dst) (flooded := flooded)
        change _ = if (flooded && s.crossLive k) = true then _ else _
        split at hport
        · next hshared => rw [if_pos hshared]; exact State.spineCopy_of_none hport
        · next hshared => rw [if_neg hshared]; exact State.spineCopy_of_some hport
      | split k =>
        have hport := State.spinePort_of_split hb (sel := splitSelector n src dst) (flooded := flooded)
        change _ = if (splitSelector n src dst && !(flooded && s.crossLive k)) = true then _ else _
        split at hport
        · next hsplit => rw [if_pos hsplit]; exact State.spineCopy_of_some hport
        · next hsplit => rw [if_neg hsplit]; exact State.spineCopy_of_some hport
    refine ⟨fun q => ⟨rfl, rfl, rfl, ?_⟩, fun k => ⟨rfl, hservers none, ?_⟩, fun l hl => ?_, fun l => ⟨hservers none, ?_⟩⟩
    · unfold verdictOf State.accessDests State.unicast
      by_cases hq : q = p
      · simp [hq]
      · cases hlive : s.live q <;> simp [hq, hlive]
    · unfold State.accessDests
      dsimp only
      rw [hspine]
      have hcross : s.crossLive k = s.live (crossOf k) := rfl
      rw [hcross]
      split
      · next hlive => exact (if_pos hlive).symm
      · rfl
    · have hflood : s.localFlood n (some p) ++ s.spineCopy (pathOf n src dst) (splitSelector n src dst) true ++ s.crossFlood =
          servers (some p) ++ spine true ++ peers := by rw [hservers, hspine]; rfl
      have hnone : s.localFlood n none ++ s.crossFlood = servers none ++ peers := by rw [hservers]; rfl
      simp only [List.mem_cons, List.not_mem_nil, or_false] at hl
      rcases hl with rfl | rfl <;> exact ⟨hflood, hnone, hservers none⟩
    · change s.lentUplink (pathOf n src dst) = _
      unfold State.lentUplink
      split
      · next hlive => exact (if_pos hlive).symm
      · rfl
  · intro s p n src dst l borrowed flood h hlocal hpeer sound flooded
    have hunicast : ∀ q, l = .localAt q → s.SoundDests (s.unicast q) ∧ ∀ d ∈ s.unicast q, d.port = q := fun q hq =>
      ⟨State.soundDests_single (d := plain q) (Nat.lt_trans (hlocal q hq) (by decide)) (by simp [plain]), State.port_of_mem_single⟩
    have hcross : ∀ k, l = .announcedAt k → s.SoundDests (if s.crossLive k then [plain (s.crossPort k)] else []) ∧
        ∀ d ∈ (if s.crossLive k then [plain (s.crossPort k)] else []), d.port = s.crossPort k := fun k hk =>
      ⟨State.soundDests_single (d := plain (s.crossPort k)) (State.crossPort_lt h.1 (hpeer k hk)) (by simp [plain]),
        State.port_of_mem_single⟩
    have hspine := State.soundDests_spineCopy h (pathOf_mem n src dst) (splitSelector n src dst)
    have hflooded : ∀ arrival ds, flooded (s.localFlood n arrival ++ ds ++ s.crossFlood) arrival := fun arrival ds _ =>
      ⟨fun q hq hlive hserves harr => List.mem_append_left _ (List.mem_append_left _ (State.mem_localFlood.2 ⟨q, hq, hserves, hlive, harr, rfl⟩)),
        fun q hq hlive => List.mem_append_right _ (State.mem_crossFlood.2 ⟨q, hq, hlive, rfl⟩)⟩
    refine ⟨fun hp => ?_, ?_, ?_⟩
    · have hflood := State.soundDests_flood (n := n) (some p) (hspine true).1 ((hspine true).2.2 rfl)
      have haway : ∀ d ∈ s.localFlood n (some p) ++ s.spineCopy (pathOf n src dst) (splitSelector n src dst) true ++ s.crossFlood,
          d.port ≠ p := fun d hd => by
        rcases List.mem_append.1 hd with hd | hd
        · rcases List.mem_append.1 hd with hd | hd
          · obtain ⟨q, -, -, -, harr, rfl⟩ := State.mem_localFlood.1 hd
            exact fun hqp => harr (congrArg some hqp.symm)
          · have := (hspine true).2.1 d hd
            omega
        · obtain ⟨q, hq, -, rfl⟩ := State.mem_crossFlood.1 hd
          have := (State.mem_crossPorts.1 hq).1
          exact fun hqp => by change q = p at hqp; omega
      cases l with
      | localAt q =>
        refine ⟨?_, ?_, nofun⟩
        · change s.SoundDests (if q = p then [] else s.unicast q)
          split
          · exact State.soundDests_nil s
          · exact (hunicast q rfl).1
        · intro d hd
          change d ∈ (if q = p then [] else s.unicast q) at hd
          split at hd
          · exact nomatch hd
          · next hne => rwa [(hunicast q rfl).2 d hd]
      | announcedAt k =>
        have hdests : s.accessDests p n src dst (.announcedAt k) =
            if s.crossLive k then [plain (s.crossPort k)] else s.spineCopy (pathOf n src dst) (splitSelector n src dst) false := rfl
        obtain ⟨hsound, hport⟩ := hcross k rfl
        rw [hdests]
        cases hlive : s.crossLive k with
        | true =>
          rw [hlive] at hsound hport
          refine ⟨hsound, fun d hd => ?_, nofun⟩
          have := hport d hd
          have := State.le_crossPort s k
          omega
        | false =>
          refine ⟨(hspine false).1, fun d hd => ?_, nofun⟩
          have := (hspine false).2.1 d hd
          omega
      | miss => exact ⟨hflood, haway, hflooded _ _⟩
      | group => exact ⟨hflood, haway, hflooded _ _⟩
    · have hnil : ∀ xs : List Dest, s.localFlood n none ++ [] ++ xs = s.localFlood n none ++ xs := fun xs => by rw [List.append_nil]
      have hflood := State.soundDests_flood (n := n) none (State.soundDests_nil s) nofun
      have haway : ∀ d ∈ s.localFlood n none ++ s.crossFlood, d.port ≠ u0 ∧ d.port ≠ u1 := fun d hd => by
        rcases List.mem_append.1 hd with hd | hd
        · obtain ⟨q, hq, -, -, -, rfl⟩ := State.mem_localFlood.1 hd
          exact ⟨fun h => by change q = 16 at h; omega, fun h => by change q = 17 at h; omega⟩
        · obtain ⟨q, hq, -, rfl⟩ := State.mem_crossFlood.1 hd
          have := (State.mem_crossPorts.1 hq).1
          exact ⟨fun h => by change q = 16 at h; omega, fun h => by change q = 17 at h; omega⟩
      have hreach := hflooded none []
      rw [hnil] at hflood hreach
      cases l with
      | localAt q =>
        refine ⟨(hunicast q rfl).1, fun d hd => ?_, nofun⟩
        have hq := hlocal q rfl
        rw [(hunicast q rfl).2 d hd]
        exact ⟨fun h => by change q = 16 at h; omega, fun h => by change q = 17 at h; omega⟩
      | announcedAt k =>
        refine ⟨(hcross k rfl).1, fun d hd => ?_, nofun⟩
        have := State.le_crossPort s k
        rw [(hcross k rfl).2 d hd]
        exact ⟨fun h => by change s.crossPort k = 16 at h; omega, fun h => by change s.crossPort k = 17 at h; omega⟩
      | miss => exact ⟨hflood, haway, hreach⟩
      | group => exact ⟨hflood, haway, hreach⟩
    · have hlent := State.lentUplink_reads h (pathOf n src dst)
      have hlow : ∀ d ∈ s.localFlood n none, d.port < 18 := fun d hd => by
        obtain ⟨q, hq, -, -, -, rfl⟩ := State.mem_localFlood.1 hd
        exact Nat.lt_trans hq (by decide)
      have hfloods : s.SoundDests (s.localFlood n none) ∧ ∀ d ∈ s.localFlood n none, d.port < 18 := ⟨State.soundDests_localFlood .., hlow⟩
      unfold State.crossDests
      split
      · exact ⟨hlent.1, fun d hd => by rcases hlent.2 d hd with hq | hq <;> rw [hq] <;> decide⟩
      · split
        · exact hfloods
        · cases l with
          | localAt q =>
            refine ⟨(hunicast q rfl).1, fun d hd => ?_⟩
            rw [(hunicast q rfl).2 d hd]
            exact Nat.lt_trans (hlocal q rfl) (by decide)
          | announcedAt k => exact hfloods
          | miss => exact hfloods
          | group => exact hfloods

end Sys2Proof.Machine
end

section
/-! The Relief Controller's evaluation of a change event (R87 to R94): stages, lend offer, tenants and port holds. -/

namespace Sys2Proof.Machine

open Sys2Proof.Config

namespace State

variable {s z : State} {p q : Nat}

/-! ## Selections and hold requests at one port -/

/-- A selection touches its own port only. -/
theorem tx_select_ne (s : State) (h : q ≠ p) : (s.select p).tx q = s.tx q := by
  have hset : ∀ (z : State) x, (z.setTx p x).tx q = z.tx q := fun z x => (tx_setTx ..).trans (if_neg h)
  unfold State.select
  dsimp only
  repeat' split
  all_goals first
    | rfl
    | exact hset _ _

theorem tx_holdRequest_ne (s : State) (time : Nat) (h : q ≠ p) : (s.holdRequest p time).tx q = s.tx q := by
  unfold State.holdRequest
  split
  · exact (tx_select_ne _ h).trans ((tx_setTx ..).trans (if_neg h))
  · rfl

/-- A hold request to a live port has its frame pending or in flight. -/
theorem asked_holdRequest (hlive : s.live p = true) (time : Nat) :
    ((s.holdRequest p time).tx p).pendingHold = some time ∨ ((s.holdRequest p time).tx p).state = .sending (.hold time) := by
  have hpending : ((s.setTx p { s.tx p with pendingHold := some time }).tx p) = { s.tx p with pendingHold := some time } :=
    (tx_setTx ..).trans (if_pos rfl)
  have hselect : ∀ {z : State}, z.live p = true → (z.tx p).pendingHold = some time →
      ((z.select p).tx p).pendingHold = some time ∨ ((z.select p).tx p).state = .sending (.hold time) := fun {z} hl hn => by
    have hfree : (z.tx p).state = .idle ∨ (z.tx p).state = .held →
        ((z.select p).tx p).state = .sending (.hold time) := fun hf => by
      rw [select_of_pending hl hf hn, tx_setTx, if_pos rfl]
    cases hstate : (z.tx p).state with
    | idle => exact .inr (hfree (.inl hstate))
    | held => exact .inr (hfree (.inr hstate))
    | sending f => rw [select_of_sending hstate]; exact .inl hn
  unfold State.holdRequest
  rw [if_pos hlive]
  exact hselect hlive (by rw [hpending])

/-! ## The comparison of port holds (R93) -/

/-- Is a live access port p to be held (R92)? -/
def wanted (s : State) (p : Nat) : Bool := s.rc.held.any fun n => s.serves p n

theorem compareHold_of_dead (h : s.live p = false) : s.compareHold p = s := by
  unfold State.compareHold State.toBeHeld
  simp [h]

theorem compareHold_of_agreed (h : s.wanted p = (s.hold p).holding) : s.compareHold p = s := by
  unfold State.compareHold State.toBeHeld
  change s.rc.held.any _ = _ at h
  simp only [h]
  cases (s.hold p).holding <;> simp

section compares

variable (hlive : s.live p = true)
include hlive

theorem compareHold_of_wanted (h : s.wanted p = true) (hnot : (s.hold p).holding = false) : s.compareHold p =
    (s.setHold p { holding := true, renew := some s.renewTime, renewDue := false }).holdRequest p s.cfg.holdTime := by
  have hheld : s.toBeHeld p = true := Bool.and_eq_true_iff.2 ⟨hlive, h⟩
  unfold State.compareHold
  simp [hheld, hnot]

theorem compareHold_of_unwanted (h : s.wanted p = false) (hnot : (s.hold p).holding = true) : s.compareHold p =
    (s.setHold p PortHold.reset).holdRequest p 0 := by
  have hheld : s.toBeHeld p = false := Bool.and_eq_false_iff.2 (.inr h)
  unfold State.compareHold
  simp [hheld, hnot, hlive]

end compares

theorem hold_holdRequest (s : State) (time : Nat) (q : Nat) : (s.holdRequest p time).hold q = s.hold q := hold_congr (by simp) q

/-- A comparison touches its own port only. -/
theorem compareHold_ne (s : State) (h : q ≠ p) : (s.compareHold p).hold q = s.hold q ∧ (s.compareHold p).tx q = s.tx q := by
  have hrequest : ∀ x time, ((s.setHold p x).holdRequest p time).hold q = s.hold q ∧ ((s.setHold p x).holdRequest p time).tx q = s.tx q :=
    fun x time => ⟨(hold_holdRequest ..).trans ((hold_setHold ..).trans (if_neg h)), tx_holdRequest_ne _ time h⟩
  unfold State.compareHold
  dsimp only
  split
  · exact hrequest _ _
  · split
    · exact hrequest _ _
    · exact ⟨rfl, rfl⟩

/-- What a comparison reads at port p is as in s. -/
def SameHold (p : Nat) (s z : State) : Prop :=
  z.hold p = s.hold p ∧ z.tx p = s.tx p ∧ z.ls = s.ls ∧ z.rc.held = s.rc.held ∧ z.cfg = s.cfg

theorem compareHold_ground (s : State) (p : Nat) :
    (s.compareHold p).ls = s.ls ∧ (s.compareHold p).rc.held = s.rc.held ∧ (s.compareHold p).cfg = s.cfg := by
  refine ⟨by simp, ?_, by simp⟩
  have hrequest : ∀ x time, ((s.setHold p x).holdRequest p time).rc.held = s.rc.held := fun x time => by simp [State.setHold]
  unfold State.compareHold
  dsimp only
  split
  · exact hrequest _ _
  · split
    · exact hrequest _ _
    · rfl

theorem compareHolds_reads {ps : List Nat} (hps : ps.Nodup) (s : State) (p : Nat) :
    (p ∈ ps → ∃ z, SameHold p s z ∧ (s.each ps State.compareHold).hold p = (z.compareHold p).hold p ∧
      (s.each ps State.compareHold).tx p = (z.compareHold p).tx p) ∧
    (p ∉ ps → (s.each ps State.compareHold).hold p = s.hold p ∧ (s.each ps State.compareHold).tx p = s.tx p) := by
  induction ps generalizing s with
  | nil => exact ⟨fun h => absurd h List.not_mem_nil, fun _ => ⟨rfl, rfl⟩⟩
  | cons q qs ih =>
    obtain ⟨hq, hqs⟩ := List.nodup_cons.1 hps
    obtain ⟨hmem, hnot⟩ := ih hqs (s.compareHold q)
    refine ⟨fun hp => ?_, fun hp => ?_⟩
    · by_cases hpq : p = q
      · subst hpq
        exact ⟨s, ⟨rfl, rfl, rfl, rfl, rfl⟩, (hnot hq).1, (hnot hq).2⟩
      · obtain ⟨z, ⟨hhold, htx, hls, hheld, hcfg⟩, hz⟩ := hmem ((List.mem_cons.1 hp).resolve_left hpq)
        obtain ⟨hls', hheld', hcfg'⟩ := compareHold_ground s q
        obtain ⟨hhold', htx'⟩ := compareHold_ne s hpq
        exact ⟨z, ⟨hhold.trans hhold', htx.trans htx', hls.trans hls', hheld.trans hheld', hcfg.trans hcfg'⟩, hz⟩
    · have hpqs := List.not_mem_of_not_mem_cons hp
      obtain ⟨hhold', htx'⟩ := compareHold_ne s (List.ne_of_not_mem_cons hp)
      exact ⟨(hnot hpqs).1.trans hhold', (hnot hpqs).2.trans htx'⟩

/-- What a comparison makes of a live port (R93). -/
structure Compared (s : State) (p : Nat) (h : PortHold) (x : PortTx) : Prop where
  holding : h.holding = s.wanted p
  kept : s.wanted p = (s.hold p).holding → h = s.hold p ∧ x = s.tx p
  began : s.wanted p = true → (s.hold p).holding = false →
    (x.pendingHold = some s.cfg.holdTime ∨ x.state = .sending (.hold s.cfg.holdTime)) ∧ h.renew = some s.renewTime
  ended : s.wanted p = false → (s.hold p).holding = true →
    (x.pendingHold = some 0 ∨ x.state = .sending (.hold 0)) ∧ h.renew = none

theorem compared (hlive : s.live p = true) : s.Compared p ((s.compareHold p).hold p) ((s.compareHold p).tx p) := by
  have hask : ∀ x time, ((s.setHold p x).holdRequest p time).hold p = x ∧ ((((s.setHold p x).holdRequest p time).tx p).pendingHold =
      some time ∨ (((s.setHold p x).holdRequest p time).tx p).state = .sending (.hold time)) := fun x time =>
    ⟨(hold_holdRequest ..).trans ((hold_setHold ..).trans (if_pos rfl)), asked_holdRequest (s := s.setHold p x) hlive time⟩
  cases hw : s.wanted p <;> cases hh : (s.hold p).holding
  · rw [compareHold_of_agreed (hw.trans hh.symm)]
    exact ⟨hh.trans hw.symm, fun _ => ⟨rfl, rfl⟩, fun h => Bool.noConfusion (hw.symm.trans h), fun _ h => Bool.noConfusion (hh.symm.trans h)⟩
  · rw [compareHold_of_unwanted hlive hw hh]
    obtain ⟨hhold, hasked⟩ := hask PortHold.reset 0
    rw [hhold]
    exact ⟨hw.symm, fun h => Bool.noConfusion (hw.symm.trans (h.trans hh)), fun h => Bool.noConfusion (hw.symm.trans h),
      fun _ _ => ⟨hasked, rfl⟩⟩
  · rw [compareHold_of_wanted hlive hw hh]
    obtain ⟨hhold, hasked⟩ := hask { holding := true, renew := some s.renewTime, renewDue := false } s.cfg.holdTime
    rw [hhold]
    exact ⟨hw.symm, fun h => Bool.noConfusion (hw.symm.trans (h.trans hh)), fun _ _ => ⟨hasked, rfl⟩,
      fun h => Bool.noConfusion (hw.symm.trans h)⟩
  · rw [compareHold_of_agreed (hw.trans hh.symm)]
    exact ⟨hh.trans hw.symm, fun _ => ⟨rfl, rfl⟩, fun _ h => Bool.noConfusion (hh.symm.trans h), fun h => Bool.noConfusion (hw.symm.trans h)⟩

theorem SameHold.compared {h : PortHold} {x : PortTx} (hs : SameHold p s z) (hc : z.Compared p h x) : s.Compared p h x := by
  obtain ⟨hhold, htx, -, hheld, hcfg⟩ := hs
  have hwanted : z.wanted p = s.wanted p := by unfold State.wanted State.serves; rw [hheld, hcfg]
  have hrenew : z.renewTime = s.renewTime := by unfold State.renewTime; rw [hcfg]
  have hc' := hc
  obtain ⟨h1, h2, h3, h4⟩ := hc'
  rw [hwanted] at h1 h2 h3 h4
  rw [hhold] at h2 h3 h4
  rw [htx] at h2
  rw [hrenew, hcfg] at h3
  exact ⟨h1, h2, h3, h4⟩

/-- The comparison of every port hold, port by port. -/
theorem compareHolds_compared (s : State) (p : Nat) :
    (s.live p = false → s.compareHolds.hold p = s.hold p ∧ s.compareHolds.tx p = s.tx p) ∧
    (p ∈ accessPorts → s.live p = true → s.Compared p (s.compareHolds.hold p) (s.compareHolds.tx p)) := by
  obtain ⟨hmem, hnot⟩ := compareHolds_reads nodup_accessPorts s p
  refine ⟨fun hdead => ?_, fun hp hlive => ?_⟩
  · by_cases hp : p ∈ accessPorts
    · obtain ⟨z, hsame, hhold, htx⟩ := hmem hp
      rw [compareHold_of_dead ((live_congr hsame.2.2.1 p).trans hdead)] at hhold htx
      exact ⟨hhold.trans hsame.1, htx.trans hsame.2.1⟩
    · exact hnot hp
  · obtain ⟨z, hsame, hhold, htx⟩ := hmem hp
    have hcompared := hsame.compared (compared ((live_congr hsame.2.2.1 p).trans hlive))
    unfold State.compareHolds
    rwa [hhold, htx]

/-! ## The stages and the lend offer (R88, R89, R97) -/

theorem queueLevel_rc (s : State) : s.queueLevel.rc = s.rc := by simp

theorem rc_reofferLend (s : State) : s.reofferLend.rc = { s.rc with lendOffer := s.offerNow } := by
  unfold State.reofferLend
  split
  · next h => rw [h]
  · rw [queueLevel_rc]

/-- The stages after an evaluation. -/
def nextStages (s : State) : List Bool := evalStages s.rc.measure s.cfg.hysteresis s.cfg.marks s.rc.stages

/-- The station with its stages evaluated, before a change of level is told. -/
def staged (s : State) : State := { s with rc := { s.rc with stages := s.nextStages, level := levelOf s.nextStages } }

theorem evaluateStages_of_same (h : levelOf s.nextStages = s.rc.level) : s.evaluateStages = s.staged := if_pos h

theorem evaluateStages_of_new (h : levelOf s.nextStages ≠ s.rc.level) : s.evaluateStages = s.staged.queueLevel.reofferLend := if_neg h

/-- What an evaluation of the stages leaves, by whether the level changes. -/
theorem evaluateStages_reads (s : State) :
    s.evaluateStages.rc = { s.staged.rc with lendOffer := s.evaluateStages.rc.lendOffer } ∧
    s.evaluateStages.rc.lendOffer = (if levelOf s.nextStages = s.rc.level then s.rc.lendOffer
      else decide (levelOf s.nextStages < s.cfg.lendLimit) && (s.live 16 || s.live 17) && (s.lender .fault).isNone) ∧
    (levelOf s.nextStages ≠ s.rc.level → s.il.state = .configured → .level ∈ s.evaluateStages.xc.normal) ∧
    (levelOf s.nextStages = s.rc.level → s.evaluateStages.xc = s.xc) := by
  by_cases h : levelOf s.nextStages = s.rc.level
  · rw [evaluateStages_of_same h, if_pos h]
    exact ⟨rfl, rfl, fun hne => absurd h hne, fun _ => rfl⟩
  · have hrc := rc_reofferLend s.staged.queueLevel
    rw [queueLevel_rc] at hrc
    have hoffer : s.staged.queueLevel.offerNow =
        (decide (levelOf s.nextStages < s.cfg.lendLimit) && (s.live 16 || s.live 17) && (s.lender .fault).isNone) := by
      have hlender : s.staged.queueLevel.lender .fault = s.lender .fault :=
        lender_congr (by unfold State.peers; simp [State.staged]) (fun k _ => by rw [borrow_congr (s := s)]; simp [State.staged]) _
      have hlive : ∀ p, s.staged.queueLevel.live p = s.live p := fun p => live_congr (by simp [State.staged]) p
      unfold State.offerNow State.anyUplink State.faultBorrow
      rw [queueLevel_rc, hlender, hlive, hlive]
      cases s.lender .fault <;> simp [State.staged, u0, u1]
    rw [evaluateStages_of_new h, if_neg h, hrc]
    refine ⟨rfl, hoffer, fun _ hconf => ?_, fun hsame => absurd hsame h⟩
    exact (waits_reofferLend (level_waits_queueLevel (s := s.staged) hconf)).1

/-! ## The tenants (R91, R93) -/

theorem rc_compareHold (s : State) (p : Nat) : (s.compareHold p).rc = { s.rc with ports := (s.compareHold p).rc.ports } := by
  have hrequest : ∀ x time, ((s.setHold p x).holdRequest p time).rc =
      { s.rc with ports := ((s.setHold p x).holdRequest p time).rc.ports } := fun x time => by simp [State.setHold]
  unfold State.compareHold
  dsimp only
  split
  · exact hrequest _ _
  · split
    · exact hrequest _ _
    · rfl

theorem rc_compareHolds (s : State) : s.compareHolds.rc = { s.rc with ports := s.compareHolds.rc.ports } := by
  unfold State.compareHolds
  generalize accessPorts = ps
  exact foldl_induct (f := State.compareHold) (P := fun z => z.rc = { s.rc with ports := z.rc.ports })
    (fun z p hz => by rw [rc_compareHold z p, hz]) ps rfl

/-- The tenants that are HELD after an evaluation. -/
def heldNext (s : State) : List Nat := tenants.filter s.heldAfter

theorem evaluateTenants_eq (s : State) : s.evaluateTenants =
    if s.heldNext = s.rc.held then { s with rc := { s.rc with held := s.heldNext } }
    else { s with rc := { s.rc with held := s.heldNext } }.compareHolds := by
  unfold State.evaluateTenants State.heldNext
  rfl

theorem evaluateTenants_of_same (h : s.heldNext = s.rc.held) : s.evaluateTenants = s := by
  rw [evaluateTenants_eq, if_pos h, h]

theorem evaluateTenants_of_new (h : s.heldNext ≠ s.rc.held) :
    s.evaluateTenants = { s with rc := { s.rc with held := s.heldNext } }.compareHolds := by
  rw [evaluateTenants_eq, if_neg h]

/-- What an evaluation of the tenants leaves: the holds follow only a change of a tenant's state (R93). -/
theorem evaluateTenants_reads (s : State) :
    s.evaluateTenants.rc = { s.rc with held := s.heldNext, ports := s.evaluateTenants.rc.ports } ∧
    (s.heldNext = s.rc.held → ∀ p, s.evaluateTenants.hold p = s.hold p ∧ s.evaluateTenants.tx p = s.tx p) ∧
    (s.heldNext ≠ s.rc.held → ∀ p ∈ accessPorts, s.live p = true → State.Compared { s with rc := { s.rc with held := s.heldNext } } p
      (s.evaluateTenants.hold p) (s.evaluateTenants.tx p)) ∧
    ∀ p, s.live p = false → s.evaluateTenants.hold p = s.hold p ∧ s.evaluateTenants.tx p = s.tx p := by
  by_cases h : s.heldNext = s.rc.held
  · rw [evaluateTenants_of_same h, h]
    exact ⟨rfl, fun _ _ => ⟨rfl, rfl⟩, fun hne => absurd rfl hne, fun _ _ => ⟨rfl, rfl⟩⟩
  · rw [evaluateTenants_of_new h]
    have hcompare := fun p => compareHolds_compared { s with rc := { s.rc with held := s.heldNext } } p
    exact ⟨rc_compareHolds _, fun hsame => absurd hsame h, fun _ p hp hlive => (hcompare p).2 hp hlive, fun p hdead => (hcompare p).1 hdead⟩

/-! ## One change event (R87) -/

/-- The values of a change event stored, and its measure evaluated. -/
def measured (s : State) (c : Change) : State :=
  if c.measure.isSome then { s with rc := s.rc.store c }.evaluateStages else { s with rc := s.rc.store c }

theorem takeChange_eq (s : State) (c : Change) : s.takeChange c =
    if c.buffer.isSome || c.tenant.isSome then (s.measured c).evaluateTenants else s.measured c := rfl

/-- The stages after a change event is stored. -/
def stagesAfter (s : State) (c : Change) : List Bool :=
  if c.measure = none then s.rc.stages else evalStages (c.measure.getD s.rc.measure) s.cfg.hysteresis s.cfg.marks s.rc.stages

theorem measured_reads (s : State) (c : Change) :
    (s.measured c).rc = { s.rc.store c with
      stages := s.stagesAfter c
      level := if c.measure = none then s.rc.level else levelOf (s.stagesAfter c)
      lendOffer := (s.measured c).rc.lendOffer } ∧
    (s.measured c).rc.lendOffer = (if (s.measured c).rc.level = s.rc.level then s.rc.lendOffer
      else decide ((s.measured c).rc.level < s.cfg.lendLimit) && (s.live 16 || s.live 17) && (s.lender .fault).isNone) ∧
    ((s.measured c).rc.level ≠ s.rc.level → s.il.state = .configured → .level ∈ (s.measured c).xc.normal) ∧
    ((s.measured c).rc.level = s.rc.level → (s.measured c).xc = s.xc) := by
  unfold State.measured State.stagesAfter
  cases hc : c.measure with
  | none => exact ⟨rfl, (if_pos rfl).symm, fun hne => absurd rfl hne, fun _ => rfl⟩
  | some m =>
    have hstages : State.nextStages { s with rc := s.rc.store c } = evalStages m s.cfg.hysteresis s.cfg.marks s.rc.stages := by
      simp [State.nextStages, ReliefController.store, hc]
    obtain ⟨hrc, hoffer, hlevel, hxc⟩ := evaluateStages_reads { s with rc := s.rc.store c }
    have hnew : (State.evaluateStages { s with rc := s.rc.store c }).rc.level = levelOf (evalStages m s.cfg.hysteresis s.cfg.marks s.rc.stages) := by
      rw [hrc, ← hstages]; rfl
    rw [hstages] at hoffer hlevel hxc
    simp only [Option.isSome_some, if_true, reduceCtorEq, if_false, Option.getD_some, hnew]
    refine ⟨?_, hoffer, hlevel, hxc⟩
    rw [hrc, ← hstages]
    rfl

theorem measured_frame (s : State) (c : Change) : s.measured c = { s with rc := (s.measured c).rc, xc := (s.measured c).xc } := by
  unfold State.measured
  split
  · exact State.eq_iff.2 (by simp)
  · rfl

/-- The tenants evaluated, where an in-use is among the values carried (R91). -/
def related (z : State) (c : Change) : State := if c.buffer.isSome || c.tenant.isSome then z.evaluateTenants else z

theorem related_frame (z : State) (c : Change) : z.related c = { z with rc := (z.related c).rc, es := (z.related c).es } := by
  unfold State.related
  split
  · exact State.eq_iff.2 (by simp)
  · rfl

/-- What the evaluation of the tenants leaves, whether or not it is made. -/
theorem related_reads (z : State) (c : Change) :
    (z.related c).rc = { z.rc with held := (z.related c).rc.held, ports := (z.related c).rc.ports } ∧
    (c.buffer = none → c.tenant = none → (z.related c).rc.held = z.rc.held) ∧
    (c.buffer ≠ none ∨ c.tenant ≠ none → (z.related c).rc.held = z.heldNext) ∧
    ((z.related c).rc.held = z.rc.held → ∀ p, (z.related c).hold p = z.hold p ∧ (z.related c).tx p = z.tx p) ∧
    ((z.related c).rc.held ≠ z.rc.held → ∀ p ∈ accessPorts, z.live p = true →
      State.Compared { z with rc := { z.rc with held := (z.related c).rc.held } } p ((z.related c).hold p) ((z.related c).tx p)) ∧
    ∀ p, z.live p = false → (z.related c).hold p = z.hold p ∧ (z.related c).tx p = z.tx p := by
  have hcarried : (c.buffer.isSome || c.tenant.isSome) = true ↔ c.buffer ≠ none ∨ c.tenant ≠ none := by
    rw [Bool.or_eq_true, Option.isSome_iff_ne_none, Option.isSome_iff_ne_none]
  unfold State.related
  split
  · next h =>
    obtain ⟨hrc, hsame, hnew, hdead⟩ := evaluateTenants_reads z
    have hheld : z.evaluateTenants.rc.held = z.heldNext := by rw [hrc]
    rw [hheld]
    exact ⟨hrc, fun hb ht => absurd (hcarried.1 h) (by simp [hb, ht]), fun _ => rfl, hsame, hnew, hdead⟩
  · next h =>
    exact ⟨rfl, fun _ _ => rfl, fun hsome => absurd (hcarried.2 hsome) h, fun _ _ => ⟨rfl, rfl⟩, fun hne => absurd rfl hne,
      fun _ _ => ⟨rfl, rfl⟩⟩

/-- The tenants that are HELD afterwards, by whether they are HELD before (R91). -/
theorem mem_heldNext {n : Nat} (hn : n ∈ tenants) : n ∈ s.heldNext ↔
    if n ∈ s.rc.held then ¬(s.rc.bufferInUse < s.cfg.releaseMark ∨ Tab.read 0 s.rc.tenantInUse n ≤ (s.tenant n).share)
    else s.cfg.holdMark ≤ s.rc.bufferInUse ∧ (s.tenant n).share < Tab.read 0 s.rc.tenantInUse n := by
  unfold State.heldNext
  rw [List.mem_filter]
  unfold State.heldAfter
  simp only [hn, true_and, List.contains_iff_mem]
  split <;> simp

theorem nextChange_of_waiting {c : Change} {rest : List Change} (h : s.bm.changes = c :: rest) :
    s.nextChange = State.takeChange { s with bm := { s.bm with changes := rest } } c := by
  unfold State.nextChange
  split
  · next hw => cases h.symm.trans hw; rfl
  · next hnone => exact nomatch h.symm.trans hnone

theorem renewTick_of_last (hdue : (s.hold p).renewDue = true) (hlast : (s.hold p).renew = some 1) (hholding : (s.hold p).holding = true) :
    s.renewTick p = s.renewHold p := by
  unfold State.renewTick
  rw [if_pos hdue]
  split
  · next n hn =>
    cases hlast.symm.trans hn
    exact if_pos ⟨Nat.le_refl 1, hholding⟩
  · next hnone => exact nomatch hlast.symm.trans hnone

theorem renewTime_eq (s : State) : s.renewTime = max 1 (s.cfg.holdTime / 2) := by
  unfold State.renewTime
  split <;> omega

end State

theorem ReliefController.read_store (r : ReliefController) (c : Change) (n : Nat) : Tab.read 0 (r.store c).tenantInUse n =
    match c.tenant with
    | some (x, u) => if n = x then u else Tab.read 0 r.tenantInUse n
    | none => Tab.read 0 r.tenantInUse n := by
  unfold ReliefController.store
  cases c.tenant with
  | none => rfl
  | some x => exact Tab.read_write _ _ _ _ _

/-- Settles O32: the values stored, the stages by their evaluation, the tenants and the holds port by port. -/
theorem changeEventEvaluates : Obligations.ChangeEventEvaluates := by
  unfold Obligations.ChangeEventEvaluates
  refine ⟨fun s c rest hwaits => ?_, fun s p hdue hlast hholding => ?_⟩
  · intro measure buffer stages
    obtain ⟨z, hz⟩ : ∃ z, z = State.measured { s with bm := { s.bm with changes := rest } } c := ⟨_, rfl⟩
    obtain ⟨hrc, hoffer, hlevel, hxc⟩ := State.measured_reads { s with bm := { s.bm with changes := rest } } c
    have hframe := State.measured_frame { s with bm := { s.bm with changes := rest } } c
    rw [← hz] at hrc hoffer hlevel hxc hframe
    have hrun : exec .changeEvent s = .next (z.related c).takeFrame := by
      have hnext : s.nextChange = z.related c := by
        rw [State.nextChange_of_waiting hwaits, State.takeChange_eq, ← hz]
        rfl
      rw [← hnext]
      rfl
    obtain ⟨htrc, hkeep, hheld, hsame, hnew, hdead⟩ := State.related_reads z c
    have htframe := State.related_frame z c
    generalize z.related c = t at hrun htrc hkeep hheld hsame hnew hdead htframe
    have hcfg : z.cfg = s.cfg := by rw [hframe]
    have hlive : ∀ p, z.live p = s.live p := State.live_congr (by rw [hframe])
    have hzheld : z.rc.held = s.rc.held := by rw [hrc]; rfl
    have hhold : ∀ p, z.hold p = s.hold p := fun p => by unfold State.hold; rw [hrc]; rfl
    have htx : ∀ p, z.tx p = s.tx p := State.tx_congr (by rw [hframe])
    have htlevel : t.rc.level = z.rc.level := by rw [htrc]
    have htxc : t.xc = z.xc := by rw [htframe]
    refine ⟨t, hrun, ?_, ?_, ?_, ?_, fun n => ?_, ?_, ?_, ?_, ?_, fun hb ht => (hkeep hb ht).trans hzheld, fun hcarried n hn => ?_, ?_, ?_, ?_⟩
    · rw [htframe, hframe]
    · rw [htrc, hrc]; rfl
    · rw [htrc, hrc]; rfl
    · rw [htrc, hrc]; rfl
    · rw [htrc, hrc]
      exact ReliefController.read_store ..
    · rw [htlevel, hrc]; rfl
    · rw [htrc]
      exact hoffer
    · rw [htlevel, htxc]; exact hlevel
    · rw [htlevel, htxc]; exact hxc
    · have hused : t.rc.tenantInUse = z.rc.tenantInUse := by rw [htrc]
      have hbuffer : z.rc.bufferInUse = buffer := by rw [hrc]; rfl
      have htenant : z.tenant n = s.tenant n := by unfold State.tenant; rw [hcfg]
      rw [hheld hcarried, State.mem_heldNext hn, hzheld, hbuffer, htenant, hused, hcfg]
    · rw [hzheld] at hsame
      exact fun heq p => ⟨((hsame heq p).1).trans (hhold p), ((hsame heq p).2).trans (htx p)⟩
    · rw [hzheld] at hnew
      intro hne p hp hplive
      obtain ⟨hholding, hkept, hbegan, hended⟩ := hnew hne p hp ((hlive p).trans hplive)
      have hwanted : State.wanted { z with rc := { z.rc with held := t.rc.held } } p = t.rc.held.any fun n => s.serves p n := by
        unfold State.wanted State.serves
        rw [hcfg]
      have hrenew : State.renewTime { z with rc := { z.rc with held := t.rc.held } } = s.renewTime := by
        unfold State.renewTime
        rw [hcfg]
      have hhold' : State.hold { z with rc := { z.rc with held := t.rc.held } } p = s.hold p := hhold p
      have htx' : State.tx { z with rc := { z.rc with held := t.rc.held } } p = s.tx p := htx p
      rw [hwanted] at hholding hkept hbegan hended
      rw [hhold'] at hkept hbegan hended
      rw [htx'] at hkept
      rw [hrenew] at hbegan
      dsimp only at hbegan
      rw [hcfg] at hbegan
      exact ⟨hholding, hkept, hbegan, hended⟩
    · intro p _ hpdead
      obtain ⟨h1, h2⟩ := hdead p ((hlive p).trans hpdead)
      exact ⟨h1.trans (hhold p), h2.trans (htx p)⟩
  · have hrun : exec (.renewTimerExpiry p) s = .next (s.renewTick p) := rfl
    rw [hrun, State.renewTick_of_last hdue hlast hholding, State.renewHold, State.renewTime_eq]

end Sys2Proof.Machine
end

section
/-! An admitted arrival (R12, R13, R36): what the Buffer Manager takes, where each copy stands, and what a copy for a port that is not
live gives back. -/

namespace Sys2Proof.Machine

open Sys2Proof.Config

/-! ## Copies given back by the Buffer Manager -/

namespace BufferManager

variable {b : BufferManager} {d : Desc} {f : StoredFrame} {i : Nat}

theorem afterRelease_flushed (f : StoredFrame) : f.afterRelease .flushed = { f with outstanding := f.outstanding - 1 } := by
  simp [StoredFrame.afterRelease]

/-- From b to c copies of frame i, which has f, are released FLUSHED and others are left: xs are the copies, more the change events. -/
structure GivesBack (b c : BufferManager) (i : Nat) (f : StoredFrame) (xs : List Desc) : Prop where
  free : c.freeCells = b.freeCells ∧ c.inUse = b.inUse ∧ c.freeDescriptors = b.freeDescriptors + xs.length
  reports : c.losses = b.losses ∧ c.usageReports = b.usageReports ∧ c.refusals = b.refusals
  queues : ∀ q, Tab.read 0 c.queueCells q =
    if q ∈ xs.map (fun d => queueKey d.port d.cls) then Tab.read 0 b.queueCells q - f.cells else Tab.read 0 b.queueCells q
  frames : ∀ j, Tab.find? c.frames j = if j = i then some { f with outstanding := f.outstanding - xs.length } else Tab.find? b.frames j
  changes : ∃ more, c.changes = b.changes ++ more ∧ (xs = [] → more = [])

theorem givesBack_one (hf : Tab.find? b.frames d.frame = some f) (hmore : 1 < f.outstanding) :
    b.GivesBack (b.release d .flushed) d.frame f [d] := by
  rw [release_of_more hf hmore]
  dsimp only
  rw [sendChange_eq, afterRelease_flushed]
  refine ⟨⟨rfl, rfl, rfl⟩, ⟨rfl, rfl, rfl⟩, fun q => ?_, fun j => Tab.find?_put _ _ _ _, _, rfl, nofun⟩
  refine (Tab.read_lower _ _ _ _).trans (if_congr ?_ rfl rfl)
  simp

theorem givesBack_all (hf : Tab.find? b.frames i = some f) {xs : List Desc} (hxs : ∀ d ∈ xs, d.frame = i) (hlt : xs.length < f.outstanding)
    (hkeys : (xs.map fun d => queueKey d.port d.cls).Nodup) : b.GivesBack (b.releaseAll (State.flushed xs)) i f xs := by
  induction xs generalizing b f with
  | nil =>
    refine ⟨⟨rfl, rfl, rfl⟩, ⟨rfl, rfl, rfl⟩, fun q => rfl, fun j => ?_, [], (List.append_nil _).symm, fun _ => rfl⟩
    split
    · next hj => rw [hj]; exact hf
    · rfl
  | cons d xs ih =>
    rw [List.length_cons] at hlt
    obtain ⟨hkey, hkeys⟩ := List.nodup_cons.1 hkeys
    have hd := hxs d List.mem_cons_self
    subst hd
    have hone := givesBack_one hf (by omega)
    have hnext : Tab.find? (b.release d .flushed).frames d.frame = some { f with outstanding := f.outstanding - 1 } :=
      (hone.frames _).trans (if_pos rfl)
    have hrest := ih hnext (fun e he => hxs e (List.mem_cons_of_mem _ he)) (by dsimp only; omega) hkeys
    obtain ⟨hfree, huse, hdesc⟩ := hrest.free
    obtain ⟨hloss, husage, hrefuse⟩ := hrest.reports
    refine ⟨⟨hfree.trans hone.free.1, huse.trans hone.free.2.1, ?_⟩,
      ⟨hloss.trans hone.reports.1, husage.trans hone.reports.2.1, hrefuse.trans hone.reports.2.2⟩, fun q => ?_, fun j => ?_, ?_⟩
    · refine hdesc.trans ?_
      rw [hone.free.2.2]
      simp only [List.length_cons, List.length_nil]
      omega
    · refine (hrest.queues q).trans ?_
      rw [hone.queues q]
      by_cases hq : q = queueKey d.port d.cls
      · subst hq
        simp [hkey]
      · simp [hq]
    · refine (hrest.frames j).trans ?_
      rw [hone.frames j]
      split
      · rw [List.length_cons]
        simp only [Nat.sub_sub, Nat.add_comm 1]
      · next hj => rfl
    · obtain ⟨more, hmore, -⟩ := hrest.changes
      obtain ⟨first, hfirst, -⟩ := hone.changes
      exact ⟨first ++ more, by rw [← List.append_assoc, ← hfirst]; exact hmore, nofun⟩

end BufferManager

/-! ## What an admitted frame takes -/

/-- Adding up, over a list without repetition, a number that stands at one place. -/
theorem sum_map_indicator {l : List Nat} (hl : l.Nodup) (k n : Nat) :
    (l.map fun q => if k = q then n else 0).sum = if k ∈ l then n else 0 := by
  induction l with
  | nil => rfl
  | cons x l ih =>
    obtain ⟨hx, hl⟩ := List.nodup_cons.1 hl
    rw [List.map_cons, List.sum_cons, ih hl]
    by_cases hk : k = x
    · subst hk; simp [hx]
    · simp [hk]

/-- The queue cells that the copies of an arrival add to a queue. -/
def cellsAdded (a : Arrival) (ds : List Dest) (q : Nat) : Nat :=
  ((ds.filter fun d => queueKey d.port a.cls == q).map fun _ => a.cells).sum

theorem uplinkKey_iff {p c : Nat} (hc : c ≤ 3) : queueKey p c ∈ List.range' 64 8 ↔ p = 16 ∨ p = 17 := by
  rw [List.mem_range'_1]
  unfold queueKey
  omega

/-- The copies of an arrival add its cells to the uplink measure once for each copy that is for an uplink (R17). -/
theorem sum_cellsAdded {a : Arrival} (ha : a.cls ≤ 3) (ds : List Dest) :
    ((List.range' 64 8).map (cellsAdded a ds)).sum = a.cells * (ds.filter fun d => d.port == 16 || d.port == 17).length := by
  induction ds with
  | nil => rfl
  | cons d ds ih =>
    have hsplit : ∀ q, cellsAdded a (d :: ds) q = (if queueKey d.port a.cls = q then a.cells else 0) + cellsAdded a ds q := fun q => by
      by_cases hq : queueKey d.port a.cls = q <;> simp [cellsAdded, hq]
    rw [funext hsplit, List.sum_map_add, ih, sum_map_indicator List.nodup_range', if_congr (uplinkKey_iff ha) rfl rfl, List.filter_cons]
    by_cases hd : d.port = 16 ∨ d.port = 17
    · rw [if_pos hd, if_pos (by simpa using hd), List.length_cons, Nat.mul_add, Nat.mul_one, Nat.add_comm]
    · rw [if_neg hd, if_neg (by simpa using hd), Nat.zero_add]

/-- Copies to different ports add the arrival's cells to the queue of each, and nothing to any other. -/
theorem cellsAdded_eq {a : Arrival} {ds : List Dest} (hports : (ds.map fun d => queueKey d.port a.cls).Nodup) (q : Nat) :
    cellsAdded a ds q = if ∃ d ∈ ds, queueKey d.port a.cls = q then a.cells else 0 := by
  induction ds with
  | nil => simp [cellsAdded]
  | cons d ds ih =>
    obtain ⟨hd, hports⟩ := List.nodup_cons.1 hports
    have hrest := ih hports
    by_cases hq : queueKey d.port a.cls = q
    · subst hq
      rw [if_neg (by simpa using hd)] at hrest
      rw [if_pos ⟨d, List.mem_cons_self, rfl⟩]
      simpa [cellsAdded] using hrest
    · simpa [cellsAdded, hq] using hrest

theorem cellsAdded_append (a : Arrival) (ds es : List Dest) (q : Nat) :
    cellsAdded a (ds ++ es) q = cellsAdded a ds q + cellsAdded a es q := by
  simp [cellsAdded, List.filter_append, Nat.add_mul]

/-- The cells added are those of the copies of either kind. -/
theorem cellsAdded_filter (a : Arrival) (p : Dest → Bool) (ds : List Dest) (q : Nat) :
    cellsAdded a ds q = cellsAdded a (ds.filter p) q + cellsAdded a (ds.filter fun d => !p d) q := by
  induction ds with
  | nil => rfl
  | cons d ds ih =>
    have hcons : ∀ es, cellsAdded a (d :: es) q = (if queueKey d.port a.cls = q then a.cells else 0) + cellsAdded a es q := fun es => by
      by_cases hq : queueKey d.port a.cls = q <;> simp [cellsAdded, hq]
    cases hp : p d <;> simp only [List.filter_cons, hp, hcons, ih, Bool.not_false, Bool.not_true, if_true, if_false, reduceCtorEq] <;> omega

/-- The change event of an admission (R17): the new measure, where a copy is for an uplink, and the new in-use values. -/
def BufferManager.admission (b : BufferManager) (a : Arrival) (ds : List Dest) : Change :=
  { measure := if ∃ d ∈ ds, d.port = 16 ∨ d.port = 17 then
      some (b.measure + a.cells * (ds.filter fun d => d.port == 16 || d.port == 17).length) else none
    buffer := some (bufferCells - (b.freeCells - a.cells))
    tenant := some (a.tenant, Tab.read 0 b.inUse a.tenant + a.cells) }

/-- The stored-frame record of an arrival as it is admitted, with n copies outstanding (R13). -/
def Arrival.stored (a : Arrival) (metered : Bool) (n : Nat) : StoredFrame :=
  { tenant := a.tenant, length := a.length, cells := a.cells, cls := a.cls, outstanding := n
    metered := metered, transmitted := false, body := a.body }

namespace BufferManager

variable {b : BufferManager} {a : Arrival} {ds : List Dest} {w : Decision}

/-- Is a frame metered at its admission (R13)? -/
def meters (w : Decision) : Bool := w == .committed || w == .excess

/-- From b to c an arrival is admitted, and its copies are still to be placed (R13, R17). -/
structure Admits (b c : BufferManager) (a : Arrival) (ds : List Dest) (w : Decision) : Prop where
  free : c.freeCells = b.freeCells - a.cells ∧ c.freeDescriptors = b.freeDescriptors - ds.length
  use : ∀ n, Tab.read 0 c.inUse n = Tab.read 0 b.inUse n + if n = a.tenant then a.cells else 0
  queues : ∀ q, Tab.read 0 c.queueCells q = Tab.read 0 b.queueCells q + cellsAdded a ds q
  frames : ∀ i, Tab.find? c.frames i = if i = b.nextFrame then some (a.stored (meters w) ds.length) else Tab.find? b.frames i
  reports : c.refusals = b.refusals ∧ c.losses = b.losses ∧
    c.usageReports = b.usageReports ++ if meters w then [{ tenant := a.tenant, length := a.length, excess := w == .excess }] else []
  changes : c.changes = b.changes ++ [b.admission a ds]

theorem admits_admitFrame (ha : a.cls ≤ 3) : b.Admits (b.admitFrame a ds w) a ds w := by
  have huplink : (ds.any fun d => isUplinkQueue (queueKey d.port a.cls)) = true ↔ ∃ d ∈ ds, d.port = 16 ∨ d.port = 17 := by
    rw [List.any_eq_true]
    refine exists_congr fun d => and_congr_right fun _ => isUplinkQueue_iff.trans ?_
    rw [← uplinkKey_iff ha, List.mem_range'_1]
  have hread : ∀ q, Tab.read 0 (ds.foldl (fun q (d : Dest) => Tab.write 0 q (queueKey d.port a.cls)
      (Tab.read 0 q (queueKey d.port a.cls) + a.cells)) b.queueCells) q = Tab.read 0 b.queueCells q + cellsAdded a ds q :=
    Tab.read_raise (fun d : Dest => queueKey d.port a.cls) a.cells ds b.queueCells
  unfold BufferManager.admitFrame
  dsimp only
  rw [sendChange_eq]
  refine ⟨⟨rfl, rfl⟩, fun n => ?_, hread, fun i => Tab.find?_put _ _ _ _, ⟨rfl, rfl, ?_⟩, ?_⟩
  · refine (Tab.read_write ..).trans ?_
    split
    · next hn => rw [hn]
    · rfl
  · dsimp only
    unfold meters
    split
    · rfl
    · exact (List.append_nil _).symm
  · dsimp only
    rw [if_neg (by simp)]
    unfold BufferManager.measure BufferManager.admission
    dsimp only
    rw [if_congr huplink rfl rfl, funext hread, List.sum_map_add]
    unfold BufferManager.bufferInUse
    rw [Tab.read_write, if_pos rfl, show queueKey u0 0 = 64 from rfl, sum_cellsAdded ha]
    rfl

/-- From b to c an arrival is admitted and placed: lives are the copies that find their port live. -/
structure Admitted (b c : BufferManager) (a : Arrival) (ds lives : List Dest) (w : Decision) : Prop where
  free : c.freeCells = if lives = [] then b.freeCells else b.freeCells - a.cells
  descriptors : c.freeDescriptors = b.freeDescriptors - lives.length
  use : ∀ n, Tab.read 0 c.inUse n = Tab.read 0 b.inUse n + if n = a.tenant ∧ lives ≠ [] then a.cells else 0
  queues : ∀ q, Tab.read 0 c.queueCells q =
    Tab.read 0 b.queueCells q + if ∃ d ∈ lives, queueKey d.port a.cls = q then a.cells else 0
  frame : Tab.find? c.frames b.nextFrame = if lives = [] then none else some (a.stored (meters w) lives.length)
  frames : ∀ i, i ≠ b.nextFrame → Tab.find? c.frames i = Tab.find? b.frames i
  reports : c.refusals = b.refusals ∧
    c.usageReports = b.usageReports ++ if meters w then [{ tenant := a.tenant, length := a.length, excess := w == .excess }] else []
  losses : c.losses = b.losses ++ if meters w = true ∧ lives = [] then [{ tenant := a.tenant, length := a.length }] else []
  changes : ∃ more, c.changes = b.changes ++ b.admission a ds :: more ∧ (lives = ds → more = []) ∧
    (lives = [] → ∃ l, more.getLast? = some l ∧ l.buffer = some (bufferCells - b.freeCells) ∧
      l.tenant = some (a.tenant, Tab.read 0 b.inUse a.tenant))

theorem keys_descOf (ds : List Dest) (i c : Nat) :
    (ds.map (descOf i c)).map (fun d => queueKey d.port d.cls) = ds.map fun d => queueKey d.port c := by
  rw [List.map_map]; rfl

/-- Some copy finds its port live, so the frame is kept. -/
theorem Admits.placed_kept {c : BufferManager} (h : b.Admits c a ds w) (hports : (ds.map fun d => queueKey d.port a.cls).Nodup)
    (hdesc : ds.length ≤ b.freeDescriptors) {p : Dest → Bool} (hlives : ds.filter p ≠ []) :
    b.Admitted (c.releaseAll (State.flushed ((ds.filter fun d => !p d).map (descOf b.nextFrame a.cls)))) a ds (ds.filter p) w := by
  obtain ⟨⟨hfree, hfreeDesc⟩, huse, hqueues, hframes, ⟨hrefuse, hloss, husage⟩, hchanges⟩ := h
  have hlen : (ds.filter p).length + (ds.filter fun d => !p d).length = ds.length :=
    (List.length_eq_length_filter_add p).symm
  have hpos : 0 < (ds.filter p).length := List.length_pos_iff.2 hlives
  have hshort : (ds.filter fun d => !p d).length < (a.stored (meters w) ds.length).outstanding := by
    change _ < ds.length
    omega
  have hdead : ((ds.filter fun d => !p d).map fun d => queueKey d.port a.cls).Nodup := hports.sublist (List.filter_sublist.map _)
  have hback := givesBack_all (b := c) (i := b.nextFrame) ((hframes _).trans (if_pos rfl))
    (xs := (ds.filter fun d => !p d).map (descOf b.nextFrame a.cls))
    (fun d hd => by obtain ⟨e, -, rfl⟩ := List.mem_map.1 hd; rfl)
    (by rw [List.length_map]; exact hshort) (by rw [keys_descOf]; exact hdead)
  obtain ⟨⟨hfree', huse', hdesc'⟩, ⟨hloss', husage', hrefuse'⟩, hqueues', hframes', more, hmore, hnone⟩ := hback
  rw [List.length_map] at hdesc' hframes'
  refine ⟨?_, by omega, fun n => ?_, fun q => ?_, ?_, fun i hi => ?_, ⟨hrefuse'.trans hrefuse, husage'.trans husage⟩, ?_, more, ?_,
    fun hall => hnone ?_, fun hempty => absurd hempty hlives⟩
  · rw [if_neg hlives, hfree', hfree]
  · rw [huse', huse n, if_congr (and_iff_left hlives) rfl rfl]
  · rw [hqueues' q, hqueues q, keys_descOf, cellsAdded_filter a p, cellsAdded_eq hdead, cellsAdded_eq (hports.sublist (List.filter_sublist.map _))]
    simp only [List.mem_map]
    split
    · rw [← Nat.add_assoc]
      exact Nat.add_sub_cancel ..
    · rfl
  · rw [if_neg hlives, hframes', if_pos rfl]
    congr 1
    unfold Arrival.stored
    congr 1
    exact Nat.sub_eq_of_eq_add hlen.symm
  · rw [hframes', if_neg hi, hframes, if_neg hi]
  · rw [if_neg fun hand => hlives hand.2, List.append_nil]
    exact hloss'.trans hloss
  · rw [hmore, hchanges, List.append_assoc]; rfl
  · rw [hall] at hlen
    rw [List.length_eq_zero_iff.1 (Nat.add_eq_left.1 hlen), List.map_nil]

/-- From b to c the last copy d of a frame, which has f, is released FLUSHED. -/
structure Frees (b c : BufferManager) (d : Desc) (f : StoredFrame) : Prop where
  free : c.freeCells = b.freeCells + f.cells ∧ c.freeDescriptors = b.freeDescriptors + 1
  use : ∀ n, Tab.read 0 c.inUse n = if n = f.tenant then Tab.read 0 b.inUse f.tenant - f.cells else Tab.read 0 b.inUse n
  queues : ∀ q, Tab.read 0 c.queueCells q =
    if q = queueKey d.port d.cls then Tab.read 0 b.queueCells q - f.cells else Tab.read 0 b.queueCells q
  frames : ∀ i, Tab.find? c.frames i = if i = d.frame then none else Tab.find? b.frames i
  reports : c.usageReports = b.usageReports ∧ c.refusals = b.refusals ∧
    c.losses = b.losses ++ if f.metered && !f.transmitted then [lossOf f] else []
  changes : ∃ m, c.changes = b.changes ++ [m] ∧ m.buffer = some (bufferCells - (b.freeCells + f.cells)) ∧
    m.tenant = some (f.tenant, Tab.read 0 b.inUse f.tenant - f.cells)

theorem frees_of_last {d : Desc} {f : StoredFrame} (hf : Tab.find? b.frames d.frame = some f) (hlast : f.outstanding ≤ 1) :
    b.Frees (b.release d .flushed) d f := by
  obtain ⟨hloss, hframes⟩ := frames_release_of_last hf hlast (o := .flushed) nofun
  have hreports := release_reports b d .flushed
  have hevent : (b.release d .flushed).changes = b.changes ++ [((b.giveBack (queueKey d.port d.cls) f.cells).freeFrame d.frame
      (f.afterRelease .flushed)).released (queueKey d.port d.cls) true f.tenant] := by
    rw [release_of_last hf hlast]
    dsimp only
    rw [sendChange_eq, if_neg (released_ne _ (.inr rfl) _)]
    rfl
  have hcells : (b.release d .flushed).freeCells = b.freeCells + f.cells ∧
      (b.release d .flushed).freeDescriptors = b.freeDescriptors + 1 ∧
      (b.release d .flushed).inUse = Tab.write 0 b.inUse f.tenant (Tab.read 0 b.inUse f.tenant - f.cells) ∧
      (b.release d .flushed).queueCells =
        Tab.write 0 b.queueCells (queueKey d.port d.cls) (Tab.read 0 b.queueCells (queueKey d.port d.cls) - f.cells) := by
    rw [release_of_last hf hlast]
    dsimp only
    rw [sendChange_eq]
    exact ⟨rfl, rfl, rfl, rfl⟩
  obtain ⟨hfree, hdesc, huse, hqueues⟩ := hcells
  refine ⟨⟨hfree, hdesc⟩, fun n => by rw [huse, Tab.read_write], fun q => by rw [hqueues, Tab.read_lower], hframes,
    ⟨hreports.1, hreports.2, hloss⟩, _, hevent, rfl, (rfl : _ = some _).trans (congrArg (fun n => some (f.tenant, n)) ?_)⟩
  exact (Tab.read_write ..).trans (if_pos rfl)

/-- No copy finds its port live, so the frame is deleted with the release of the last. -/
theorem Admits.placed_lost {c : BufferManager} (h : b.Admits c a ds w) (hports : (ds.map fun d => queueKey d.port a.cls).Nodup)
    (hsome : ds ≠ []) (hdesc : ds.length ≤ b.freeDescriptors) (hcells : a.cells ≤ b.freeCells) :
    b.Admitted (c.releaseAll (State.flushed (ds.map (descOf b.nextFrame a.cls)))) a ds [] w := by
  obtain ⟨⟨hfree, hfreeDesc⟩, huse, hqueues, hframes, ⟨hrefuse, hloss, husage⟩, hchanges⟩ := h
  obtain ⟨init, e, rfl⟩ : ∃ init e, ds = init ++ [e] := ⟨_, _, (List.dropLast_append_getLast hsome).symm⟩
  have hlen : (init ++ [e]).length = init.length + 1 := List.length_append
  have hinit : (init.map fun d => queueKey d.port a.cls).Nodup := hports.sublist ((List.sublist_append_left ..).map _)
  have hback := givesBack_all (b := c) (i := b.nextFrame) ((hframes _).trans (if_pos rfl)) (xs := init.map (descOf b.nextFrame a.cls))
    (fun d hd => by obtain ⟨x, -, rfl⟩ := List.mem_map.1 hd; rfl)
    (by rw [List.length_map]; exact Nat.lt_of_lt_of_eq (Nat.lt_succ_self _) hlen.symm) (by rw [keys_descOf]; exact hinit)
  obtain ⟨⟨hfree', huse', hdesc'⟩, ⟨hloss', husage', hrefuse'⟩, hqueues', hframes', more, hmore, -⟩ := hback
  rw [List.length_map] at hdesc' hframes'
  have hone : Tab.find? (c.releaseAll (State.flushed (init.map (descOf b.nextFrame a.cls)))).frames (descOf b.nextFrame a.cls e).frame =
      some (a.stored (meters w) 1) := by
    refine (hframes' _).trans ((if_pos rfl).trans (congrArg some ?_))
    unfold Arrival.stored
    congr 1
    exact Nat.sub_eq_of_eq_add (hlen.trans (Nat.add_comm ..))
  have hall : c.releaseAll (State.flushed ((init ++ [e]).map (descOf b.nextFrame a.cls))) =
      (c.releaseAll (State.flushed (init.map (descOf b.nextFrame a.cls)))).release (descOf b.nextFrame a.cls e) .flushed := by
    rw [List.map_append, State.flushed_append]
    exact List.foldl_append
  rw [hall]
  have hfrees := frees_of_last hone (Nat.le_refl 1)
  generalize c.releaseAll (State.flushed (init.map (descOf b.nextFrame a.cls))) = z at *
  obtain ⟨⟨zfree, zdesc⟩, zuse, zqueues, zframes, ⟨zusage, zrefuse, zloss⟩, m, zchanges, zbuffer, ztenant⟩ := hfrees
  have hread : Tab.read 0 z.inUse a.tenant - a.cells = Tab.read 0 b.inUse a.tenant := by
    rw [huse', huse, if_pos rfl]; exact Nat.add_sub_cancel ..
  have hcame : z.freeCells + a.cells = b.freeCells := by rw [hfree', hfree]; exact Nat.sub_add_cancel hcells
  refine ⟨?_, ?_, fun n => ?_, fun q => ?_, ?_, fun i hi => ?_, ⟨zrefuse.trans (hrefuse'.trans hrefuse), zusage.trans (husage'.trans husage)⟩,
    ?_, more ++ [m], ?_, fun h => absurd h.symm hsome, fun _ => ⟨m, List.getLast?_concat, ?_, ?_⟩⟩
  · exact zfree.trans (hcame.trans (if_pos rfl).symm)
  · rw [List.length_nil]; omega
  · rw [if_neg fun h => h.2 rfl, Nat.add_zero, zuse]
    split
    · next hn => rw [hn]; exact hread
    · next hn => rw [huse', huse]; exact congrArg (Tab.read 0 b.inUse n + ·) (if_neg hn)
  · have hadd : cellsAdded a (init ++ [e]) q = (if q ∈ init.map fun d => queueKey d.port a.cls then a.cells else 0) +
        if q = queueKey e.port a.cls then a.cells else 0 := by
      have hone : cellsAdded a [e] q = if q = queueKey e.port a.cls then a.cells else 0 := by
        by_cases hq : queueKey e.port a.cls = q
        · simp [cellsAdded, hq]
        · simp [cellsAdded, hq, Ne.symm hq]
      rw [cellsAdded_append, hone, cellsAdded_eq hinit]
      simp only [List.mem_map]
    rw [if_neg fun ⟨_, h, _⟩ => (nomatch h), zqueues, hqueues', hqueues, keys_descOf, hadd]
    change (if q = queueKey e.port a.cls then _ - a.cells else _) = _
    rw [show (a.stored (meters w) (init ++ [e]).length).cells = a.cells from rfl]
    split <;> split <;> omega
  · exact (zframes _).trans (if_pos rfl)
  · exact (zframes i).trans ((if_neg hi).trans ((hframes' i).trans ((if_neg hi).trans ((hframes i).trans (if_neg hi)))))
  · rw [zloss, hloss', hloss]
    congr 1
    cases meters w <;> rfl
  · rw [zchanges, hmore, hchanges, List.append_assoc, List.append_assoc]
    rfl
  · rw [zbuffer, ← hcame]; rfl
  · rw [ztenant, ← hread]; rfl

end BufferManager

/-! ## Where the copies stand -/

namespace State

variable {s : State} {d : Desc} {p q : Nat}

theorem queue_select_ne (s : State) (h : q ≠ p) {c : Nat} (hc : c ≤ 3) : (s.select p).queue (queueKey q c) = s.queue (queueKey q c) := by
  have hset : ∀ (z : State) x, (z.setTx p x).queue (queueKey q c) = z.queue (queueKey q c) := fun _ _ => rfl
  unfold State.select
  dsimp only
  repeat' split
  all_goals first
    | rfl
    | exact hset _ _
    | skip
  next htop =>
    obtain ⟨e, he, rfl, -⟩ := exists_class_of_topCopy htop
    exact (hset _ _).trans ((queue_setQueue ..).trans (if_neg fun hk => h ((queueKey_inj hc he).1 hk).1))

/-- A queued copy stays queued at a selection, or is the one taken. -/
theorem mem_queue_select {c : Nat} (hc : c ≤ 3) (hd : d ∈ s.queue (queueKey p c)) :
    d ∈ (s.select p).queue (queueKey p c) ∨ ((s.select p).tx p).state = .sending (.copy d) := by
  unfold State.select
  dsimp only
  repeat' split
  all_goals first
    | exact .inl hd
    | skip
  · next htop =>
    obtain ⟨e, he, rfl, hqueue⟩ := exists_class_of_topCopy htop
    by_cases hce : c = e
    · rw [hce, hqueue] at hd
      rcases List.mem_cons.1 hd with rfl | hd
      · exact .inr (by rw [tx_setTx, if_pos rfl])
      · exact .inl (by rw [queue_setTx, queue_setQueue, if_pos (by rw [hce])]; exact hd)
    · refine .inl ?_
      rw [queue_setTx, queue_setQueue, if_neg fun hk => hce ((queueKey_inj hc he).1 hk).2]
      exact hd

/-- The port's transmitter and class queues are in t as in s. -/
def SameAt (s t : State) (q : Nat) : Prop := t.tx q = s.tx q ∧ ∀ c < 4, t.queue (queueKey q c) = s.queue (queueKey q c)

theorem SameAt.trans {t u : State} (h : s.SameAt t q) (h' : t.SameAt u q) : s.SameAt u q :=
  ⟨h'.1.trans h.1, fun c hc => (h'.2 c hc).trans (h.2 c hc)⟩

theorem sameAt_of_es {t : State} (h : t.es = s.es) (q : Nat) : s.SameAt t q :=
  ⟨tx_congr h q, fun c _ => by unfold State.queue; rw [h]⟩

theorem placeCopy_ls (s : State) (d : Desc) : (s.placeCopy d).ls = s.ls := by simp

theorem sameAt_placeCopy (hd : d.cls ≤ 3) (hq : s.live d.port = true → d.port ≠ q) : s.SameAt (s.placeCopy d) q := by
  unfold State.placeCopy
  split
  · next hlive =>
    have hne : q ≠ d.port := fun h => hq hlive h.symm
    refine ⟨(tx_select_ne _ hne).trans rfl, fun c hc => (queue_select_ne _ hne (by omega)).trans ?_⟩
    rw [queue_setQueue, if_neg fun hk => hne ((queueKey_inj (by omega) hd).1 hk).1]
  · exact sameAt_of_es rfl q

theorem sameAt_placeCopies {ds : List Desc} (hds : ∀ d ∈ ds, d.cls ≤ 3) (hq : ∀ d ∈ ds, s.live d.port = true → d.port ≠ q) :
    s.SameAt (ds.foldl State.placeCopy s) q := by
  induction ds generalizing s with
  | nil => exact sameAt_of_es rfl q
  | cons d ds ih =>
    refine (sameAt_placeCopy (hds d List.mem_cons_self) (hq d List.mem_cons_self)).trans (ih (fun e he => hds e (List.mem_cons_of_mem _ he))
      fun e he hlive => hq e (List.mem_cons_of_mem _ he) ?_)
    rwa [live_congr (placeCopy_ls s d)] at hlive

/-- A copy is in t at the tail of its queue or in flight; behind a frame in flight in s it is at the tail (R36, R38). -/
def Placed (s t : State) (d : Desc) : Prop :=
  (d ∈ t.queue (queueKey d.port d.cls) ∨ (t.tx d.port).state = .sending (.copy d)) ∧
  ((∃ f, (s.tx d.port).state = .sending f) →
    t.tx d.port = s.tx d.port ∧ t.queue (queueKey d.port d.cls) = s.queue (queueKey d.port d.cls) ++ [d])

theorem placed_placeCopy (hlive : s.live d.port = true) (hd : d.cls ≤ 3) : s.Placed (s.placeCopy d) d := by
  have hqueue : (s.setQueue (queueKey d.port d.cls) (s.queue (queueKey d.port d.cls) ++ [d])).queue (queueKey d.port d.cls) =
      s.queue (queueKey d.port d.cls) ++ [d] := (queue_setQueue ..).trans (if_pos rfl)
  unfold State.placeCopy
  rw [if_pos hlive]
  refine ⟨mem_queue_select hd (hqueue.symm ▸ List.mem_append_right _ List.mem_cons_self), fun ⟨f, hf⟩ => ?_⟩
  rw [select_of_sending (z := s.setQueue _ _) (f := f) hf]
  exact ⟨rfl, hqueue⟩

theorem Placed.of_sameAt {t z u : State} (h : t.Placed z d) (hd : d.cls ≤ 3) (hbefore : s.SameAt t d.port) (hafter : z.SameAt u d.port) :
    s.Placed u d := by
  have hc : d.cls < 4 := by omega
  unfold Placed at *
  rw [hafter.1, hafter.2 _ hc, ← hbefore.1, ← hbefore.2 _ hc]
  exact h

/-- Of copies to different ports, each whose port is live is placed there. -/
theorem placed_placeCopies {ds : List Desc} (hds : ∀ d ∈ ds, d.cls ≤ 3) (hports : (ds.map Desc.port).Nodup) (hd : d ∈ ds)
    (hlive : s.live d.port = true) : s.Placed (ds.foldl State.placeCopy s) d := by
  induction ds generalizing s with
  | nil => exact nomatch hd
  | cons e ds ih =>
    obtain ⟨hne, hports⟩ := List.nodup_cons.1 hports
    have hds' := fun x hx => hds x (List.mem_cons_of_mem _ hx)
    have hother : ∀ x ∈ ds, x.port ≠ e.port := fun x hx h => hne (h ▸ List.mem_map_of_mem hx)
    rcases List.mem_cons.1 hd with rfl | hd
    · exact (placed_placeCopy hlive (hds d List.mem_cons_self)).of_sameAt (hds d List.mem_cons_self) (sameAt_of_es rfl _)
        (sameAt_placeCopies hds' fun x hx _ => hother x hx)
    · exact (ih hds' hports hd (by rwa [live_congr (placeCopy_ls s e)])).of_sameAt (hds' d hd)
        (sameAt_placeCopy (hds e List.mem_cons_self) fun _ h => hother d hd h.symm) (sameAt_of_es rfl _)

/-- The copies that do not find their port live are released FLUSHED, and that is all the Buffer Manager sees. -/
theorem bm_placeCopies (s : State) (ds : List Desc) :
    (ds.foldl State.placeCopy s).bm = s.bm.releaseAll (flushed (ds.filter fun d => !s.live d.port)) := by
  induction ds generalizing s with
  | nil => rfl
  | cons d ds ih =>
    have hsame : ∀ e : Desc, (s.placeCopy d).live e.port = s.live e.port := fun e => live_congr (placeCopy_ls s d) _
    rw [List.foldl_cons, ih, List.filter_cons]
    simp only [hsame]
    unfold State.placeCopy
    cases hlive : s.live d.port
    · rfl
    · exact congrArg (fun b : BufferManager => b.releaseAll _) (by simp)

end State

namespace State

variable {s : State} {a : Arrival} {ds : List Dest}

theorem placeCopies_eq (s : State) (ds : List Desc) :
    ds.foldl State.placeCopy s = { s with bm := (ds.foldl State.placeCopy s).bm, es := (ds.foldl State.placeCopy s).es } :=
  State.eq_iff.2 (by simp)

theorem admitArrival_of_admitted (h : s.admitDecision a (s.withinLimits a) ≠ .refused) : s.admitArrival a =
    ((s.withinLimits a).map (descOf s.bm.nextFrame a.cls)).foldl State.placeCopy
      { s with bm := s.bm.admitFrame a (s.withinLimits a) (s.admitDecision a (s.withinLimits a)) } := by
  unfold State.admitArrival
  dsimp only
  split
  · next hw => exact absurd hw h
  · rfl

/-- An arrival that is admitted is metered unless it is of a cross port, as excess when it is beyond its committed share (R12, R13). -/
theorem meters_admitDecision (h : s.admitDecision a ds ≠ .refused) :
    BufferManager.meters (s.admitDecision a ds) = decide (a.kind ≠ .cross) ∧ (a.kind ≠ .cross →
      (s.admitDecision a ds == .excess) = decide ¬s.inUse a.tenant + a.cells ≤ (s.tenant a.tenant).share) := by
  unfold State.admitDecision at *
  split
  · next hshort => exact absurd (if_pos hshort) h
  · split
    · next hcross => exact ⟨by simp [hcross, BufferManager.meters], fun hk => absurd hcross hk⟩
    · next hcross =>
      split
      · next hshare => simp [BufferManager.meters, hcross, hshare]
      · next hshare =>
        split
        · simp [BufferManager.meters, hcross, hshare]
        · next hexcess => simp_all

end State

/-- Settles O22: the Buffer Manager takes what the frame needs, each copy is placed by itself, and the copies that find their port
not live give back what they took. -/
theorem admissionAccounts : Obligations.AdmissionAccounts := by
  unfold Obligations.AdmissionAccounts
  intro s p a rest harr ds lives committed metered kept uplinkCells hsome hdesc hcells hallow hcls hports
  have hw : s.admitDecision a ds ≠ .refused := fun h => by
    rcases State.admitDecision_refused_iff.1 h with h | h | h | ⟨hkind, hshare, h⟩
    · exact hsome h
    · omega
    · omega
    · rcases hallow with hcross | hcommitted | hexcess
      · exact hkind hcross
      · exact Nat.not_le.2 hshare hcommitted
      · omega
  obtain ⟨hmetered, hexcess⟩ := State.meters_admitDecision hw
  have hkeys : (ds.map fun d => queueKey d.port a.cls).Nodup := by
    have := hports.map (f := fun p => queueKey p a.cls) fun x y hxy => ((queueKey_inj hcls hcls).1 hxy).1
    rwa [List.map_map] at this
  generalize hwd : s.admitDecision a ds = w at *
  have hadmits := BufferManager.admits_admitFrame (b := s.bm) (a := a) (ds := ds) (w := w) hcls
  obtain ⟨z, hz⟩ : ∃ z : State, z = { s with iu := { s.iu with arrivals := rest }, bm := s.bm.admitFrame a ds w } := ⟨_, rfl⟩
  have hrun : exec (.admission p) s = .next ((ds.map (descOf s.bm.nextFrame a.cls)).foldl State.placeCopy z) := by
    refine congrArg Host.Outcome.next ((State.admitFrom_of_waiting harr).trans ?_)
    rw [hz, ← hwd]
    exact State.admitArrival_of_admitted (s := { s with iu := { s.iu with arrivals := rest } }) (by rw [← hwd] at hw; exact hw)
  have hlive : ∀ q, z.live q = s.live q := fun q => State.live_congr (by rw [hz]) q
  have hbm : z.bm = s.bm.admitFrame a ds w := by rw [hz]
  have hes : z.es = s.es := by rw [hz]
  have hplaced : s.bm.Admitted ((ds.map (descOf s.bm.nextFrame a.cls)).foldl State.placeCopy z).bm a ds lives w := by
    rw [State.bm_placeCopies, List.filter_map, hbm]
    simp only [hlive]
    by_cases hnone : lives = []
    · rw [hnone, List.filter_eq_self.2 fun d hd => by simpa [descOf] using List.filter_eq_nil_iff.1 hnone d hd]
      exact hadmits.placed_lost hkeys hsome hdesc hcells
    · exact hadmits.placed_kept hkeys hdesc hnone
  have hcopies : ∀ x ∈ ds.map (descOf s.bm.nextFrame a.cls), x.cls ≤ 3 := fun x hx => by
    obtain ⟨d, -, rfl⟩ := List.mem_map.1 hx; exact hcls
  have hcopyPorts : ((ds.map (descOf s.bm.nextFrame a.cls)).map Desc.port).Nodup := by rw [List.map_map]; exact hports
  obtain ⟨hfree, hdescs, huse, hqueues, hframe, hframes, ⟨hrefuse, husage⟩, hloss, more, hmore, hall, hlast⟩ := hplaced
  have hframeEq := State.placeCopies_eq z (ds.map (descOf s.bm.nextFrame a.cls))
  have hsame := fun q => State.sameAt_placeCopies (s := z) (q := q) hcopies
  have hput := fun d => State.placed_placeCopies (s := z) (d := d) hcopies hcopyPorts
  generalize (ds.map (descOf s.bm.nextFrame a.cls)).foldl State.placeCopy z = t at *
  refine ⟨t, hrun, ?_, hfree, hdescs, huse, hqueues, ?_, hframes, ?_, hrefuse, ?_, ⟨more, ?_, hall, hlast⟩, fun d hd => ?_, fun q hq => ?_⟩
  · rw [hframeEq, hz]
  · rw [hframe, hmetered]
    rfl
  · rw [husage, hmetered]
    by_cases hk : a.kind = .cross
    · rw [if_neg (by simpa using hk), if_neg (fun h => h hk)]
    · rw [if_pos (by simpa using hk), if_pos hk, hexcess hk]
  · rw [hloss, hmetered, if_congr (and_congr_left' (decide_eq_true_iff)) rfl rfl]
  · exact hmore
  · obtain ⟨hmem, hd⟩ := List.mem_filter.1 hd
    exact (hput (descOf s.bm.nextFrame a.cls d) (List.mem_map_of_mem hmem) ((hlive _).trans hd)).of_sameAt hcls
      (State.sameAt_of_es hes _) (State.sameAt_of_es rfl _)
  · refine (State.sameAt_of_es hes q).trans (hsame q fun x hx hxlive => ?_)
    obtain ⟨d, hd, rfl⟩ := List.mem_map.1 hx
    exact hq d (List.mem_filter.2 ⟨hd, (hlive _).symm.trans hxlive⟩)

end Sys2Proof.Machine
end

section
/-! The end of a window (R50 to R54) and the entry of a port to UP (R53, R60). -/

namespace Sys2Proof.Machine

open Sys2Proof.Config

namespace State

variable {s t z : State} {p : Nat} {l : PortLink}

/-! ## The judgement of a window -/

theorem takeWindowEnd_of_owed (h : s.ls.windowOwed.contains p = true) : s.takeWindowEnd p =
    ({ s with ls := { s.ls with windowOwed := s.ls.windowOwed.filter (fun q => q ≠ p) } }).judgeWindow p := if_pos h

theorem takeWindowEnd_of_due (h : s.ls.windowOwed = []) (hdue : 0 < s.ls.windowDue) : s.takeWindowEnd p =
    ({ s with ls := { s.ls with windowDue := s.ls.windowDue - 1, windowOwed := allPorts.filter (fun q => q ≠ p) } }).judgeWindow p := by
  unfold State.takeWindowEnd
  rw [if_neg (by simp [h]), if_pos ⟨h, hdue⟩]

theorem takeWindowEnd_of_not_owed (hp : p ∉ s.ls.windowOwed) (h : s.ls.windowOwed ≠ [] ∨ s.ls.windowDue = 0) : s.takeWindowEnd p = s := by
  unfold State.takeWindowEnd
  rw [if_neg (by simpa using hp), if_neg (by rintro ⟨hnone, hdue⟩; rcases h with h | h; exact h hnone; omega)]

theorem judged_of_down (h : (z.link p).state = .down) (bad : Bool) : z.judged p bad =
    if (z.link p).signal && !bad then (z.setLink p { z.link p with state := .qualifying, good := 0, stages := 0 }).uplinkChanged p
    else z := by
  unfold State.judged; dsimp only; rw [h]

theorem judged_of_qualifying_bad (h : (z.link p).state = .qualifying) :
    z.judged p true = z.setLink p { z.link p with good := 0, stages := 0 } := by
  unfold State.judged; dsimp only; rw [h]; rfl

theorem judged_of_qualifying_good (h : (z.link p).state = .qualifying) : z.judged p false =
    if z.requiredStage p ≤ (z.link p).countGood.stages then (z.setLink p (z.link p).countGood).enterUp p
    else z.setLink p (z.link p).countGood := by
  unfold State.judged; dsimp only; rw [h]; rfl

theorem judged_of_up (h : (z.link p).state = .up) (bad : Bool) : z.judged p bad =
    if bad then (z.setLink p { z.link p with state := .suspect }).uplinkChanged p else z := by
  unfold State.judged; dsimp only; rw [h]

theorem judged_of_suspect (h : (z.link p).state = .suspect) (bad : Bool) : z.judged p bad =
    if bad then z.linkFault p else (z.setLink p { z.link p with state := .up }).uplinkChanged p := by
  unfold State.judged; dsimp only; rw [h]

theorem judged_of_heldDown (h : (z.link p).state = .heldDown) (bad : Bool) : z.judged p bad = z := by
  unfold State.judged; dsimp only; rw [h]

/-- What a judged window leaves when no fault and no entry to UP comes of it: the port's link is l, and it no longer owes the window. -/
structure Judged (s : State) (p : Nat) (l : PortLink) (t : State) : Prop where
  only : t = { s with ls := t.ls, xc := t.xc }
  link : t.link p = l
  links : ∀ q, q ≠ p → t.link q = s.link q
  owed : t.ls.windowOwed = s.ls.windowOwed.filter (fun q => q ≠ p)

theorem Judged.setLink (h : s.Judged p l z) (m : PortLink) : s.Judged p m (z.setLink p m) := by
  refine ⟨?_, (link_setLink ..).trans (if_pos rfl), fun q hq => ((link_setLink ..).trans (if_neg hq)).trans (h.links q hq), h.owed⟩
  have honly := h.only
  unfold State.setLink
  rw [honly]

theorem queueLevel_only (z : State) : z.queueLevel = { z with xc := z.queueLevel.xc } := by
  unfold State.queueLevel
  split <;> rfl

theorem Judged.uplinkChanged (h : s.Judged p l z) (q : Nat) : s.Judged p l (z.uplinkChanged q) := by
  unfold State.uplinkChanged
  split
  · have hls : z.queueLevel.ls = z.ls := by simp
    refine ⟨?_, (link_congr hls p).trans h.link, fun q hq => (link_congr hls q).trans (h.links q hq), (congrArg _ hls).trans h.owed⟩
    have honly := h.only
    rw [queueLevel_only, honly]
  · exact h

/-- The state with the window of port p taken and the next one begun, before the judgement moves its link (R50). -/
def windowTaken (s : State) (p : Nat) : State :=
  ({ s with ls := { s.ls with windowOwed := s.ls.windowOwed.filter (fun q => q ≠ p) } }).setLink p (s.link p).nextWindow

theorem judged_windowTaken (s : State) (p : Nat) : s.Judged p (s.link p).nextWindow (s.windowTaken p) :=
  ⟨rfl, (link_setLink ..).trans (if_pos rfl), fun _ hq => (link_setLink ..).trans (if_neg hq), rfl⟩

theorem takeWindowEnd_judged (h : s.ls.windowOwed.contains p = true) :
    s.takeWindowEnd p = (s.windowTaken p).judged p ((s.link p).windowBad s.cfg.errorLimit) := takeWindowEnd_of_owed h

theorem windowBad_iff {l : PortLink} {n : Nat} : l.windowBad n = true ↔ l.lossMark = true ∨ n ≤ l.errors := by
  simp [PortLink.windowBad]

theorem windowBad_eq_false_iff {l : PortLink} {n : Nat} : l.windowBad n = false ↔ ¬(l.lossMark = true ∨ n ≤ l.errors) := by
  rw [← windowBad_iff, Bool.not_eq_true]

theorem countGood_eq {l : PortLink} (h : l.good < 256) :
    l.countGood = { l with good := l.good + 1, stages := max l.stages (stagesReached (l.good + 1)) } := by
  unfold PortLink.countGood
  rw [if_neg (by omega)]

end State

/-- Every judgement but a fault and an entry to UP (R50 to R52, R54). -/
theorem window_judged (s : State) (p : Fin 21) (hp : s.ls.windowOwed.contains p.val = true) :
    let l := s.link p
    let bad := l.lossMark = true ∨ s.cfg.errorLimit ≤ l.errors
    let l0 := { l with lossMark := false, errors := 0 }
    let goes := fun l1 : PortLink => ∃ t : State, exec (.windowEnd p) s = .next t.takeFrame ∧
      t = { s with ls := t.ls, xc := t.xc } ∧ t.link p = l1 ∧ (∀ q, q ≠ p.val → t.link q = s.link q) ∧
      t.ls.windowOwed = s.ls.windowOwed.filter (fun q => q ≠ p.val)
    (l.state = .down → l.signal = true → ¬bad → goes { l0 with state := .qualifying, good := 0, stages := 0 }) ∧
    (l.state = .down → l.signal = false ∨ bad → goes l0) ∧
    (l.state = .qualifying → bad → goes { l0 with good := 0, stages := 0 }) ∧
    (l.state = .qualifying → ¬bad → l.good < 256 → max l.stages (stagesReached (l.good + 1)) < s.requiredStage p →
      goes { l0 with good := l.good + 1, stages := max l.stages (stagesReached (l.good + 1)) }) ∧
    (l.state = .up → bad → goes { l0 with state := .suspect }) ∧
    (l.state = .up → ¬bad → goes l0) ∧
    (l.state = .suspect → ¬bad → goes { l0 with state := .up }) ∧
    (l.state = .heldDown → goes l0) := by
  intro l bad l0 goes
  have hrun : exec (.windowEnd p) s = .next ((s.windowTaken p).judged p (l.windowBad s.cfg.errorLimit)).takeFrame :=
    congrArg (fun z : State => Host.Outcome.next z.takeFrame) (State.takeWindowEnd_judged hp)
  have htaken := State.judged_windowTaken s p
  generalize hz : s.windowTaken p = z at hrun htaken
  have hlink : z.link p = l0 := htaken.link
  have hgoes : ∀ {l1 b}, l.windowBad s.cfg.errorLimit = b → s.Judged p l1 (z.judged p b) → goes l1 := fun hb h =>
    ⟨_, hb ▸ hrun, h.only, h.link, h.links, h.owed⟩
  have hbad : bad → l.windowBad s.cfg.errorLimit = true := State.windowBad_iff.2
  have hgood : ¬bad → l.windowBad s.cfg.errorLimit = false := State.windowBad_eq_false_iff.2
  have hstate : (z.link p).state = l.state := by rw [hlink]
  refine ⟨fun hs hsig hb => ?_, fun hs hb => ?_, fun hs hb => ?_, fun hs hb hlt hstage => ?_, fun hs hb => ?_, fun hs hb => ?_,
    fun hs hb => ?_, fun hs => ?_⟩ <;> rw [hs] at hstate
  · refine hgoes (hgood hb) ?_
    rw [State.judged_of_down hstate, if_pos (by rw [hlink]; simpa using hsig), hlink]
    exact (htaken.setLink _).uplinkChanged _
  · refine hgoes rfl ?_
    have hnot : ((z.link p).signal && !l.windowBad s.cfg.errorLimit) ≠ true := by
      rcases hb with hsig | hb
      · rw [hlink]; simp [l0, hsig]
      · simp [hbad hb]
    rw [State.judged_of_down hstate, if_neg hnot]
    exact htaken
  · refine hgoes (hbad hb) ?_
    rw [State.judged_of_qualifying_bad hstate, hlink]
    exact htaken.setLink _
  · refine hgoes (hgood hb) ?_
    have hcount : (z.link p).countGood = { l0 with good := l.good + 1, stages := max l.stages (stagesReached (l.good + 1)) } := by
      rw [hlink]; exact State.countGood_eq hlt
    have hreq : z.requiredStage p = s.requiredStage p := by rw [← hz]; rfl
    rw [State.judged_of_qualifying_good hstate, hcount, hreq, if_neg (Nat.not_le.2 hstage)]
    exact htaken.setLink _
  · refine hgoes (hbad hb) ?_
    rw [State.judged_of_up hstate, if_pos rfl, hlink]
    exact (htaken.setLink _).uplinkChanged _
  · refine hgoes (hgood hb) ?_
    rw [State.judged_of_up hstate, if_neg nofun]
    exact htaken
  · refine hgoes (hgood hb) ?_
    rw [State.judged_of_suspect hstate, if_neg nofun, hlink]
    exact (htaken.setLink _).uplinkChanged _
  · refine hgoes rfl ?_
    rw [State.judged_of_heldDown hstate]
    exact htaken

/-- When a port takes a window end up, and when it finds none (R50). -/
theorem window_taken_up (s : State) (p : Fin 21) :
    (s.ls.windowOwed = [] → 0 < s.ls.windowDue → exec (.windowEnd p) s = exec (.windowEnd p) { s with
      ls := { s.ls with windowDue := s.ls.windowDue - 1, windowOwed := List.range 21 } }) ∧
    (s.ls.windowOwed = [] → s.ls.windowDue = 0 → exec (.windowEnd p) s = .next s.takeFrame) ∧
    (s.ls.windowOwed ≠ [] → p.val ∉ s.ls.windowOwed → exec (.windowEnd p) s = .next s.takeFrame) := by
  have hexec : ∀ {z y : State}, z.takeWindowEnd p = y → exec (.windowEnd p) z = .next y.takeFrame := fun h =>
    congrArg (fun z : State => Host.Outcome.next z.takeFrame) h
  refine ⟨fun h hdue => ?_, fun h hdue => hexec (State.takeWindowEnd_of_not_owed (by simp [h]) (.inr hdue)),
    fun h hp => hexec (State.takeWindowEnd_of_not_owed hp (.inl h))⟩
  refine (hexec (State.takeWindowEnd_of_due h hdue)).trans (hexec ?_).symm
  exact State.takeWindowEnd_of_owed (List.contains_iff_mem.2 (State.port_mem p))

/-! ## Entry to UP -/

namespace State

variable {s y w t : State} {p : Nat}

theorem upReports_of_access (h : portKind p = .access) : s.upReports p = (s.select p).compareHolds := by
  unfold State.upReports; rw [h]

theorem upReports_of_uplink (h : portKind p = .uplink) :
    s.upReports p = (((s.select p).pathsUplinkUp p).reofferLend).queueLevel := by
  unfold State.upReports; rw [h]

theorem upReports_of_cross (h : portKind p = .cross) : s.upReports p = (s.select p).pathsCrossUp := by
  unfold State.upReports; rw [h]

theorem select_only (s : State) (p : Nat) : s.select p = { s with es := (s.select p).es } := State.eq_iff.2 (by simp)

/-- The state as port p has entered UP and no block has taken the report yet. -/
structure Entered (s : State) (p : Nat) (m : PortLink) (y : State) : Prop where
  only : y = { s with ls := y.ls, es := y.es }
  link : y.link p = m
  links : ∀ q, q ≠ p → y.link q = s.link q
  up : m.state = .up

theorem Entered.live (h : s.Entered p m y) : y.live p = true := by
  unfold State.live
  rw [h.link, h.up]
  rfl

theorem Entered.live_ne (h : s.Entered p m y) {q : Nat} (hq : q ≠ p) : y.live q = s.live q := by
  unfold State.live
  rw [h.links q hq]

theorem Entered.live_of_live (h : s.Entered p m y) {q : Nat} (hq : s.live q = true) : y.live q = true := by
  by_cases hp : q = p
  · rw [hp]; exact h.live
  · rw [h.live_ne hp]; exact hq

theorem Entered.pu (h : s.Entered p m y) : y.pu = s.pu := by rw [h.only]

theorem Entered.rc (h : s.Entered p m y) : y.rc = s.rc := by rw [h.only]

theorem Entered.cfg (h : s.Entered p m y) : y.cfg = s.cfg := by rw [h.only]

theorem Entered.il (h : s.Entered p m y) : y.il = s.il := by rw [h.only]

theorem Entered.select (h : s.Entered p m y) (q : Nat) : s.Entered p m (y.select q) := by
  have hls : (y.select q).ls = y.ls := by simp
  refine ⟨?_, (link_congr hls p).trans h.link, fun r hr => (link_congr hls r).trans (h.links r hr), h.up⟩
  have honly := h.only
  rw [select_only, honly]

theorem portKind_access_iff {p : Nat} : portKind p = .access ↔ p < 16 := by
  unfold portKind
  split
  · next h => exact iff_of_true rfl h
  · next h => exact iff_of_false (by split <;> nofun) h

/-- An access port that enters UP is compared with the tenants that are HELD, and the Path Unit sees nothing (R93). -/
theorem Entered.access (h : s.Entered p m y) (hkind : portKind p = .access) :
    (y.upReports p).pu = s.pu ∧ (y.upReports p).xc = s.xc ∧ ((y.upReports p).hold p).holding = s.rc.held.any fun n => s.serves p n := by
  have hsel := h.select p
  have hp : p ∈ accessPorts := List.mem_range.2 (portKind_access_iff.1 hkind)
  rw [upReports_of_access hkind]
  refine ⟨by simp [h.pu], ?_, ((compareHolds_compared (y.select p) p).2 hp hsel.live).holding.trans ?_⟩
  · rw [h.only]; simp
  · unfold State.wanted State.serves
    rw [hsel.only]

/-! ## The report of an uplink -/

/-- The end of an uplink's report (R67, R68, R97): b is the state before the paths moved, z the one after. -/
def told (b z : State) : State := ((b.reportPaths z.settlePaths).reofferLend).queueLevel

variable {b z : State} {k : Nat}

theorem told_pu (b z : State) : (told b z).pu = z.settlePaths.pu := by simp [told]

theorem told_ground (b z : State) : z.SameGround (told b z) := ⟨by simp [told], by simp [told], by simp [told], by simp [told]⟩

theorem told_only (b z : State) : told b z = { z with rc := (told b z).rc, pu := (told b z).pu, xc := (told b z).xc } :=
  State.eq_iff.2 (by simp [told])

theorem borrow_told (b z : State) (k : Nat) : (told b z).borrow k = z.settlePaths.borrow k := borrow_congr (by rw [told_pu]) k

theorem binding_told (b z : State) (i : Nat) : (told b z).binding i = z.binding i :=
  (binding_congr (by rw [told_pu]) i).trans ((rerecorded_settlePaths z).binding i)

theorem lend_told (b z : State) (k : Nat) : (told b z).lend k = z.lend k :=
  (lend_congr (by rw [told_pu]) k).trans ((rerecorded_settlePaths z).lend k)

theorem solePath_told (b z : State) : (told b z).pu.solePath = z.pu.solePath := by
  rw [told_pu, rerecorded_settlePaths z]

theorem hasUnbound_told (b z : State) : (told b z).hasUnbound = z.hasUnbound := hasUnbound_congr fun i _ => binding_told b z i

theorem hasPathToward_told (b z : State) (k : Nat) : (told b z).hasPathToward k = z.hasPathToward k :=
  hasPathToward_congr (fun i _ => binding_told b z i) k

theorem lender_told (b z : State) (r : Reason) : (told b z).lender r = z.settlePaths.lender r :=
  lender_congr (by unfold State.peers; simp [told]) (fun k _ => by rw [borrow_told]) r

theorem level_reportPaths (b z : State) : (b.reportPaths z).rc.level = z.rc.level := by
  unfold State.reportPaths
  dsimp only
  split <;> split
  · rfl
  · rw [queueLevel_rc]
  · rw [rc_reofferLend]
  · rw [rc_reofferLend, queueLevel_rc]

theorem lendOffer_told (b z : State) : (told b z).rc.lendOffer =
    (decide (z.rc.level < z.cfg.lendLimit) && z.anyUplink && ((told b z).lender .fault).isNone) := by
  have hrc : (told b z).rc.lendOffer = (b.reportPaths z.settlePaths).offerNow := by
    unfold told
    rw [queueLevel_rc, rc_reofferLend]
  have hlevel : (b.reportPaths z.settlePaths).rc.level = z.rc.level := by
    have hsettle : z.settlePaths.rc = z.rc := by rw [rerecorded_settlePaths z]
    rw [level_reportPaths, hsettle]
  rw [hrc]
  unfold State.offerNow State.faultBorrow
  have hground : z.SameGround (b.reportPaths z.settlePaths) := ⟨by simp, by simp, by simp, by simp⟩
  have hlender : (b.reportPaths z.settlePaths).lender .fault = (told b z).lender .fault :=
    lender_congr (by unfold State.peers; simp [told]) (fun k _ => by rw [borrow_told, borrow_reportPaths]) _
  rw [hlevel, ← Option.not_isSome, hground.2.1, hground.anyUplink, hlender]

theorem level_told (h : z.il.state = .configured) (b : State) : .level ∈ (told b z).xc.normal :=
  (level_waits_queueLevel (by simp [h])).1

theorem waits_told {m : Msg} (h : Waits m z.settlePaths) (b : State) : m ∈ (told b z).xc.normal :=
  (waits_queueLevel (waits_reofferLend (waits_reportPaths b h))).1

theorem urgent_told (b z : State) : (told b z).xc.urgent = z.settlePaths.xc.urgent := by
  unfold told
  rw [urgent_queueLevel, urgent_reofferLend, urgent_reportPaths]

/-- The paths as they stand once uplink p has entered UP (R68). -/
def risen (w : State) (p : Nat) : State := w.setSole.rebind paths (w.uplinkUpBinding p)

theorem binding_risen (w : State) (p : Nat) {i : Nat} (hi : i ∈ paths) : (w.risen p).binding i = w.uplinkUpBinding p i :=
  (binding_rebind ..).trans (if_pos hi)

theorem rebound_risen (w : State) (p : Nat) : w.setSole.Rebound (w.risen p) := rebound_rebind ..

theorem anyUplink_of_live (hkind : portKind p = .uplink) (hlive : s.live p = true) : s.anyUplink = true := by
  unfold State.anyUplink
  rcases portKind_cases p with ⟨h, -⟩ | ⟨-, hp⟩ | ⟨h, -⟩
  · exact nomatch hkind.symm.trans h
  · obtain rfl | rfl : p = 16 ∨ p = 17 := by omega
    · rw [show s.live u0 = true from hlive, Bool.true_or]
    · rw [show s.live u1 = true from hlive, Bool.or_true]
  · exact nomatch hkind.symm.trans h

theorem Entered.crossLive (h : s.Entered p m y) {k : Nat} (hk : s.crossLive k = true) : y.crossLive k = true := by
  have hil : y.il = s.il := by rw [h.only]
  unfold State.crossLive State.crossPort at *
  rw [hil]
  exact h.live_of_live hk

/-- What the Path Unit, the Relief Controller and the line do with an uplink that has entered UP (R68, R69, R97). -/
theorem Entered.uplink (h : s.Entered p m y) (hkind : portKind p = .uplink) :
    (y.upReports p).pu.solePath = false ∧
    (∀ i ∈ paths, (y.upReports p).binding i = match s.binding i with
      | .unbound => if s.homePort i = p then .home else if s.live (s.homePort i) then .unbound else .replaceUplink
      | .replacePeer k => if s.homePort i = p ∨ s.live (s.homePort i) = true then .replacePeer k else .replaceUplink
      | .home => .home
      | .replaceUplink => .replaceUplink
      | .split k => .split k) ∧
    (∀ k ∈ s.peers, (s.borrow k).state.isActive = true → (y.upReports p).hasUnbound = false → (y.upReports p).hasPathToward k = false →
      ((y.upReports p).borrow k).state = .none ∧
        (s.peerLive k = true → s.crossLive k = true → .ret k ∈ (y.upReports p).xc.normal)) ∧
    (y.upReports p).rc.lendOffer = (decide (s.rc.level < s.cfg.lendLimit) && ((y.upReports p).lender .fault).isNone) ∧
    (s.il.state = .configured → .level ∈ (y.upReports p).xc.normal) := by
  have hsel := h.select p
  have htold : y.upReports p = told (y.select p) ((y.select p).risen p) := upReports_of_uplink hkind
  rw [htold]
  generalize y.select p = w at hsel ⊢
  have hup : w.anyUplink = true := anyUplink_of_live hkind hsel.live
  have hpeers : (w.risen p).peers = s.peers := by rw [(rebound_risen w p).ground.peers]; unfold State.peers; rw [hsel.only]; rfl
  refine ⟨?_, fun i hi => ?_, fun k hk hactive hbound hpath => ?_, ?_, fun hconf => level_told (z := w.risen p) ?_ _⟩
  · rw [solePath_told, rebound_risen w p]
    exact congrArg (!·) hup
  · have hbinding : w.binding i = s.binding i := binding_congr (congrArg PathUnit.bindings hsel.pu) i
    have hhome : w.homePort i = s.homePort i := by unfold State.homePort; rw [hsel.only]
    rw [binding_told, binding_risen w p hi]
    unfold State.uplinkUpBinding
    rw [hbinding, hhome]
    cases s.binding i with
    | unbound => exact ite_congr rfl (fun _ => rfl) fun hne => by rw [hsel.live_ne hne]
    | replacePeer k =>
      dsimp only
      by_cases hp : s.homePort i = p
      · rw [if_pos hp, if_pos (.inl hp)]
      · rw [if_neg hp, hsel.live_ne hp, if_congr (or_iff_right hp) rfl rfl]
    | home => rfl
    | replaceUplink => rfl
    | split k => rfl
  · rw [hasUnbound_told] at hbound
    rw [hasPathToward_told] at hpath
    have hborrow : (w.risen p).borrow k = s.borrow k := by
      rw [(rebound_risen w p).borrow]
      exact borrow_congr (congrArg PathUnit.borrows hsel.pu) k
    have hmem : k ∈ (w.risen p).peers := hpeers ▸ hk
    rw [← hborrow] at hactive
    refine ⟨?_, fun hlive hcross => waits_told (ret_waits_of_freed hmem hbound hactive hpath ?_ ?_) _⟩
    · rw [borrow_told, borrow_settlePaths_of_bound _ hmem hbound]
      have hfreed : ((w.risen p).borrow k).freed ((w.risen p).hasPathToward k) = ((w.risen p).borrow k).ended := by
        rw [BorrowRecord.freed, if_pos (by simp [hactive, hpath])]
      rw [hfreed, BorrowRecord.abandoned_of_ne (by simp [BorrowRecord.ended])]
      rfl
    · rw [← hlive]
      refine ((rebound_risen w p).ground.peerLive k).trans ?_
      exact peerLive_congr (by rw [State.setSole, hsel.only]) k
    · exact ((rebound_risen w p).ground.crossLive k).trans (hsel.crossLive hcross)
  · have hrc : (w.risen p).rc = s.rc := by rw [rebound_risen w p]; exact hsel.rc
    have hcfg : (w.risen p).cfg = s.cfg := (rebound_risen w p).ground.2.1.trans hsel.cfg
    have hany : (w.risen p).anyUplink = true := ((rebound_risen w p).ground.anyUplink).trans hup
    rw [lendOffer_told, hrc, hcfg, hany, Bool.and_true]
  · exact (congrArg ImageLoader.state ((rebound_risen w p).ground.1.trans hsel.il)).trans hconf

/-! ## The fault request -/

/-- The candidate of a fault request is read off the peers, the exclusions and the live ports (R71). -/
theorem candidate_fault_of_live (hil : t.il = s.il) (hpv : t.pv = s.pv) (hborrow : ∀ k ∈ s.peers, (t.borrow k).exclusion = (s.borrow k).exclusion)
    (hlive : ∀ q, t.live q = s.live q) : t.candidate .fault = s.candidate .fault := by
  have hpeer : ∀ k, t.peer k = s.peer k := fun k => by unfold State.peer; rw [hpv]
  have hpeers : t.peers = s.peers := by unfold State.peers; rw [hil]
  have heligible : ∀ k ∈ s.peers, t.eligible k = s.eligible k := fun k hk => by
    unfold State.eligible
    rw [peerLive_congr hpv, crossLive_of_live hil (hlive _), hborrow k hk, hpeer]
  have hbetter : ∀ a b, betterLender t a b = betterLender s a b := fun a b => by
    unfold betterLender
    rw [hpeer, hpeer]
  unfold State.candidate
  dsimp only
  rw [hpeers, List.filter_congr heligible]
  simp only [hbetter]

theorem borrow_urgent_request (s : State) (k : Nat) (r : Reason) : .borrow k r s.pu.solePath ∈ (s.request k r).xc.urgent :=
  mem_placeMsg_self ..

/-- A cross port that enters UP calls for the fault request, and for nothing else (R72). -/
theorem Entered.cross (h : s.Entered p m y) (hkind : portKind p = .cross) :
    (∀ i, (y.upReports p).binding i = s.binding i) ∧ (∀ k, (y.upReports p).lend k = s.lend k) ∧
    (s.hasUnbound = false ∨ s.lender .fault ≠ none ∨ (s.setLink p m).candidate .fault = none → (y.upReports p).pu = s.pu) ∧
    (∀ k, s.hasUnbound = true → s.lender .fault = none → (s.setLink p m).candidate .fault = some k →
      (y.upReports p).borrow k = { s.borrow k with state := .requested .fault, timer := 2, upgrade := false } ∧
      .borrow k .fault s.pu.solePath ∈ (y.upReports p).xc.urgent) := by
  have hsel := h.select p
  rw [upReports_of_cross hkind]
  generalize y.select p = w at hsel ⊢
  have hpu : (w.pathsCrossUp).pu = w.faultRequest.pu := by simp [State.pathsCrossUp]
  have hbinding : ∀ i, w.binding i = s.binding i := binding_congr (congrArg PathUnit.bindings hsel.pu)
  have hborrow : ∀ k, w.borrow k = s.borrow k := borrow_congr (congrArg PathUnit.borrows hsel.pu)
  have hlend : ∀ k, w.lend k = s.lend k := lend_congr (congrArg PathUnit.lends hsel.pu)
  have hunbound : w.hasUnbound = s.hasUnbound := hasUnbound_congr fun i _ => hbinding i
  have hlender : w.lender .fault = s.lender .fault :=
    lender_congr (by unfold State.peers; rw [hsel.il]) (fun k _ => by rw [hborrow]) _
  have hcand : w.candidate .fault = (s.setLink p m).candidate .fault := by
    refine candidate_fault_of_live (s := s.setLink p m) hsel.il (by rw [hsel.only]; rfl) (fun k _ => by rw [hborrow]; rfl) fun q => ?_
    rw [live_setLink]
    split
    · next hq => rw [hq]; unfold State.live; rw [hsel.link]
    · next hq => exact hsel.live_ne hq
  refine ⟨fun i => ?_, fun k => ?_, fun hno => ?_, fun k hun hlen hk => ?_⟩
  · exact (binding_reportPaths ..).trans (((rerecorded_faultRequest w).binding i).trans (hbinding i))
  · exact (lend_reportPaths ..).trans (((rerecorded_faultRequest w).lend k).trans (hlend k))
  · have hsame : w.faultRequest = w := by
      rcases hno with hb | hl | hc
      · exact faultRequest_of_bound (hunbound.trans hb)
      · exact faultRequest_of_not_calls fun hcall => hl (hlender ▸ hcall.2)
      · exact faultRequest_of_no_candidate (hcand.trans hc)
    rw [hpu, hsame]
    exact hsel.pu
  · have hreq : w.faultRequest = w.request k .fault := faultRequest_of_calls ⟨hunbound.trans hun, hlender.trans hlen⟩ (hcand.trans hk)
    refine ⟨?_, ?_⟩
    · refine (borrow_reportPaths ..).trans ?_
      rw [hreq, borrow_request, if_pos rfl, hborrow]
      rfl
    · unfold State.pathsCrossUp
      rw [urgent_reportPaths, hreq, ← hsel.pu]
      exact borrow_urgent_request w k .fault

theorem upReports_only (y : State) (p : Nat) : y.upReports p =
    { y with es := (y.upReports p).es, rc := (y.upReports p).rc, pu := (y.upReports p).pu, xc := (y.upReports p).xc } := by
  rcases portKind_cases p with ⟨hk, -⟩ | ⟨hk, -⟩ | ⟨hk, -⟩
  · rw [upReports_of_access hk]; exact State.eq_iff.2 (by simp)
  · rw [upReports_of_uplink hk]; exact State.eq_iff.2 (by simp)
  · rw [upReports_of_cross hk]; exact State.eq_iff.2 (by simp)

end State

/-- The link of a QUALIFYING port whose good window reaches the required stage (R52, R53). -/
def PortLink.risen (l : PortLink) : PortLink :=
  { l with state := .up, errors := 0, good := l.good + 1, stages := max l.stages (stagesReached (l.good + 1)) }

theorem State.takeWindowEnd_of_risen {s : State} {p : Nat} (hp : s.ls.windowOwed.contains p = true)
    (hstate : (s.link p).state = .qualifying) (hloss : (s.link p).lossMark = false) (herrors : (s.link p).errors < s.cfg.errorLimit)
    (hgood : (s.link p).good < 256)
    (hstage : s.requiredStage p ≤ max (s.link p).stages (stagesReached ((s.link p).good + 1))) :
    ∃ y, s.Entered p (s.link p).risen y ∧ s.takeWindowEnd p = y.upReports p := by
  have htaken := State.judged_windowTaken s p
  have hbad : (s.link p).windowBad s.cfg.errorLimit = false :=
    State.windowBad_eq_false_iff.2 (by rintro (h | h); exact Bool.noConfusion (hloss.symm.trans h); omega)
  have hrun := State.takeWindowEnd_judged hp
  have hreq : (s.windowTaken p).requiredStage p = s.requiredStage p := rfl
  have honly : s.windowTaken p = { s with ls := (s.windowTaken p).ls } := rfl
  generalize s.windowTaken p = z at *
  have hcount : (z.link p).countGood = { (s.link p).nextWindow with
      good := (s.link p).good + 1, stages := max (s.link p).stages (stagesReached ((s.link p).good + 1)) } := by
    rw [htaken.link]; exact State.countGood_eq hgood
  rw [hbad, State.judged_of_qualifying_good (by rw [htaken.link]; exact hstate), hreq, hcount, if_pos hstage] at hrun
  refine ⟨_, ⟨?_, ?_, fun q hq => ?_, rfl⟩, hrun⟩
  · rw [honly]; rfl
  · rw [State.link_setLink, if_pos rfl, State.link_setLink, if_pos rfl]
    unfold PortLink.risen PortLink.nextWindow
    rw [hloss]
  · rw [State.link_setLink, if_neg hq, State.link_setLink, if_neg hq]
    exact htaken.links q hq

/-- Settles O13: the judgement case by case, and an entry to UP by the kind of the port. -/
theorem windowEndJudges : Obligations.WindowEndJudges := by
  unfold Obligations.WindowEndJudges
  refine ⟨window_judged, window_taken_up, fun s p hp hstate hloss herrors hgood hstage => ?_⟩
  obtain ⟨y, hy, hrun⟩ := State.takeWindowEnd_of_risen hp hstate hloss herrors hgood hstage
  have hls : (y.upReports p).ls = y.ls := by rw [State.upReports_only]
  have hlink : (y.upReports p).link p = (s.link p).risen := (State.link_congr hls p).trans hy.link
  refine ⟨y.upReports p, congrArg (fun z : State => Host.Outcome.next z.takeFrame) hrun, (State.live_congr hls p).trans hy.live, ?_, hlink,
    fun q hq => (State.link_congr hls q).trans (hy.links q hq), hy.access, hy.uplink, fun hkind => ?_⟩
  · have honly := hy.only
    rw [State.upReports_only, honly]
  · rw [hlink]
    exact hy.cross hkind

end Sys2Proof.Machine
end

section
/-! A fault (R56, R59): the port, its copies and its frames. -/

namespace Sys2Proof.Machine

open Sys2Proof.Config

namespace State

variable {s y : State} {p : Nat}

/-- The state with the link of port p failed, its reception cut and its copies gone, before the other blocks take the report (R56, R46, R1). -/
def failed (y : State) (p : Nat) : State := ((y.setLink p ((y.link p).faulted y.cfg.flapLimit)).cutReception p).linkLoss p

theorem linkFault_failed (y : State) (p : Nat) : y.linkFault p = (y.failed p).faultReports p := rfl

theorem failed_ls (y : State) (p : Nat) : (y.failed p).ls = (y.setLink p ((y.link p).faulted y.cfg.flapLimit)).ls := by
  simp [State.failed, State.cutReception]

theorem live_failed (y : State) (p q : Nat) : (y.failed p).live q = if q = p then false else y.live q := by
  rw [live_congr (failed_ls y p), live_setLink]
  unfold PortLink.faulted
  dsimp only
  split
  · split <;> rfl
  · rfl

theorem failed_only (y : State) (p : Nat) : y.failed p =
    { y with ls := (y.failed p).ls, iu := (y.failed p).iu, bm := (y.failed p).bm, es := (y.failed p).es } :=
  State.eq_iff.2 (by simp [State.failed, State.cutReception])

theorem intake_failed (y : State) (p : Nat) :
    (y.failed p).intake p = { y.intake p with reception := (y.intake p).reception.faulted } := by
  have hiu : (y.failed p).iu = ((y.setLink p ((y.link p).faulted y.cfg.flapLimit)).cutReception p).iu := by simp [State.failed]
  unfold State.intake
  rw [hiu]
  exact (intake_setIntake ..).trans (if_pos rfl)

theorem Reception.faulted_eq (r : Reception) : r.faulted = if r = .taken then .cut else r := by cases r <;> rfl

theorem quietAt_failed (y : State) (p : Nat) : (y.failed p).QuietAt p := quietAt_linkLoss ..

theorem releases_eq (s : State) (ds : List Desc) (o : ReleaseOutcome) :
    ds.foldl (fun z d => z.release d o) s = { s with bm := s.bm.releaseAll (ds.map fun d => (d, o)) } := by
  induction ds generalizing s with
  | nil => rfl
  | cons d ds ih => exact ih (s.release d o)

/-- Every copy queued or in flight on the failed port leaves without having been sent (R46, R15, R16). -/
theorem discards_failed (y : State) (p : Nat) : y.bm.Discards (y.failed p).bm
    (BufferManager.copiesOf ((y.tx p).inFlight ++ (List.range 4).flatMap fun n => y.queue (queueKey p n))) := by
  obtain ⟨z, hz⟩ : ∃ z : State, z = (y.setLink p ((y.link p).faulted y.cfg.flapLimit)).cutReception p := ⟨_, rfl⟩
  have hes : z.es = y.es := by rw [hz]; rfl
  have hbm : z.bm = y.bm := by rw [hz]; rfl
  have hfailed : y.failed p = z.linkLoss p := by rw [hz]; rfl
  have htx : z.tx p = y.tx p := tx_congr hes p
  have hqueue : ∀ q, y.queue q = z.queue q := fun q => by unfold State.queue; rw [hes]
  have hloss : (z.linkLoss p).bm = y.bm.releaseAll ((y.tx p).inFlight.map (fun d => (d, .truncated)) ++ flushed (z.portCopies p)) := by
    rw [linkLoss_eq, releases_eq, bm_flushQueues, BufferManager.releaseAll_append, ← htx, ← hbm]
    rfl
  rw [hfailed, hloss]
  refine BufferManager.Discards.perm (BufferManager.discards_releaseAll _ fun x hx => ?_) (?_ : List.Perm _ _)
  · rcases List.mem_append.1 hx with hx | hx <;> obtain ⟨d, -, rfl⟩ := List.mem_map.1 hx <;> exact nofun
  · rw [List.map_append, flushed, List.map_map, List.map_map]
    refine (List.Perm.of_eq (List.map_id _)).append ((List.Perm.of_eq (List.map_id _)).trans ?_)
    simp only [hqueue]
    exact perm_portCopies z p

/-! ## The commands that bring a fault -/

/-- The state of s as its port p, UP or SUSPECT, is about to fail. -/
structure Failing (s : State) (p : Nat) (y : State) : Prop where
  only : y = { s with ls := y.ls }
  flaps : (y.link p).flaps = (s.link p).flaps
  live : s.live p = true
  links : ∀ q, q ≠ p → y.link q = s.link q

theorem signalGone_of_live (hconf : s.il.state = .configured) (h : (s.link p).state = .up ∨ (s.link p).state = .suspect) :
    s.signalGone p = (s.setLink p { s.link p with signal := false, lossMark := true }).linkFault p := by
  unfold State.signalGone
  rw [if_pos (configured_iff.2 hconf)]
  dsimp only
  rcases h with h | h <;> rw [h]

theorem exists_failing {s : State} {p : Fin 21} {c : Instr}
    (h : (c = .signalLost p ∧ s.il.state = .configured ∧ ((s.link p).state = .up ∨ (s.link p).state = .suspect)) ∨
      (c = .windowEnd p ∧ s.ls.windowOwed.contains p.val = true ∧ (s.link p).state = .suspect ∧
        ((s.link p).lossMark = true ∨ s.cfg.errorLimit ≤ (s.link p).errors))) :
    ∃ y, s.Failing p y ∧ exec c s = .next (y.linkFault p).takeFrame := by
  rcases h with ⟨rfl, hconf, hstate⟩ | ⟨rfl, howed, hstate, hbad⟩
  · refine ⟨_, ⟨rfl, ?_, ?_, fun q hq => (link_setLink ..).trans (if_neg hq)⟩,
      congrArg (fun z : State => Host.Outcome.next z.takeFrame) (signalGone_of_live hconf hstate)⟩
    · rw [link_setLink, if_pos rfl]
    · rcases hstate with h | h <;> exact live_of_state h
  · have htaken := judged_windowTaken s p
    have hfault : (s.windowTaken p).judged p true = (s.windowTaken p).linkFault p :=
      judged_of_suspect (by rw [htaken.link]; exact hstate) true
    refine ⟨s.windowTaken p, ⟨rfl, by rw [htaken.link]; rfl, live_of_state hstate, htaken.links⟩, ?_⟩
    refine congrArg (fun z : State => Host.Outcome.next z.takeFrame) ((takeWindowEnd_judged howed).trans ?_)
    rw [windowBad_iff.2 hbad, hfault]

/-! ## The failed port -/

theorem Failing.cfg (h : s.Failing p y) : y.cfg = s.cfg := by rw [h.only]

theorem Failing.link_failed (h : s.Failing p y) : ((y.linkFault p).link p).flaps = (s.link p).flaps + 1 ∧
    ((y.linkFault p).link p).latch = true ∧ ((y.linkFault p).link p).good = 0 ∧ ((y.linkFault p).link p).stages = 0 ∧
    ((y.linkFault p).link p).state = (if s.cfg.flapLimit ≤ (s.link p).flaps + 1 then .heldDown else .down) ∧
    (∀ q, q ≠ p → (y.linkFault p).link q = s.link q) := by
  have hlink := (linkAt_linkFault y p).1
  have hp := (hlink p).trans (if_pos rfl)
  refine ⟨?_, ?_, ?_, ?_, ?_, fun q hq => ((hlink q).trans (if_neg hq)).trans (h.links q hq)⟩ <;> rw [hp]
  · exact congrArg (· + 1) h.flaps
  · rfl
  · rfl
  · rfl
  · unfold PortLink.faulted
    rw [h.flaps, h.cfg]

theorem quiet_linkFault (y : State) (p : Nat) : (y.linkFault p).tx p = PortTx.reset ∧ ∀ n < 4, (y.linkFault p).queue (queueKey p n) = [] := by
  have hquiet : (y.linkFault p).QuietAt p :=
    (spares_faultReports (y.failed p) p).2 p ((live_failed ..).trans (if_pos rfl)) (quietAt_failed y p)
  exact ⟨hquiet.1, fun n hn => hquiet.2 n (by simp only [List.mem_cons, List.not_mem_nil, or_false]; omega)⟩

theorem Failing.intake (h : s.Failing p y) : (y.linkFault p).intake p = { s.intake p with
    reception := if (s.intake p).reception = .taken then .cut else (s.intake p).reception } := by
  have hsame : y.intake p = s.intake p := by rw [h.only]; rfl
  have hiu : (y.linkFault p).intake p = (y.failed p).intake p := by
    unfold State.intake; rw [linkFault_failed]; simp
  rw [hiu, intake_failed, hsame, Reception.faulted_eq]

theorem Failing.discards (h : s.Failing p y) : s.bm.Discards (y.linkFault p).bm
    (BufferManager.copiesOf ((s.tx p).inFlight ++ (List.range 4).flatMap fun n => s.queue (queueKey p n))) := by
  have hbm : (y.linkFault p).bm = (y.failed p).bm := by rw [linkFault_failed]; simp
  have hy := discards_failed y p
  rw [hbm]
  rw [h.only] at hy ⊢
  exact hy

theorem faultReports_of_access (h : portKind p = .access) : s.faultReports p = { s with tab := s.tab.retirePort p }.holdFault p := by
  unfold State.faultReports; rw [h]

theorem faultReports_of_uplink (h : portKind p = .uplink) : s.faultReports p = ((s.pathsUplinkFault p).reofferLend).queueLevel := by
  unfold State.faultReports; rw [h]

theorem faultReports_of_cross (h : portKind p = .cross) : s.faultReports p = s.pathsPeerLost (s.peerOfPort p) := by
  unfold State.faultReports; rw [h]

/-- A failed access port: its addresses are RETIRED and its hold is as after reset (R24, R93, R95). -/
theorem Failing.access (h : s.Failing p y) (hp : p < 16) : (y.linkFault p).pu = s.pu ∧ (y.linkFault p).hold p = PortHold.reset ∧
    ∀ i, Tab.find? (y.linkFault p).tab.ways i = (Tab.find? s.tab.ways i).map (fun e =>
      match e.place with
      | .atPort q _ _ => if q = p then { e with place := .retired .pending } else e
      | .atPeer _ => e
      | .retired _ => e) := by
  have htab : (y.failed p).tab = s.tab := by rw [failed_only, h.only]
  have hpu : (y.failed p).pu = s.pu := by rw [failed_only, h.only]
  have hlive : (y.failed p).live p = false := (live_failed ..).trans (if_pos rfl)
  rw [linkFault_failed, faultReports_of_access (portKind_access_iff.2 hp)]
  generalize y.failed p = w at *
  refine ⟨by simp [hpu], ?_, fun i => ?_⟩
  · unfold State.holdFault
    refine (compareHolds_compared (({ w with tab := w.tab.retirePort p } : State).setHold p PortHold.reset) p).1 hlive |>.1.trans ?_
    exact (hold_setHold ..).trans (if_pos rfl)
  · simp only [holdFault_frame]
    rw [htab]
    exact Tab.find?_mapValues _ _ i

end State

end Sys2Proof.Machine
end

section
/-! The paths of a failed uplink (R67, R83): where each goes, which borrow is upgraded, and what becomes of the lends. -/

namespace Sys2Proof.Machine

open Sys2Proof.Config

/-- A borrow record as its upgrade leaves it (R75). -/
def BorrowRecord.upgraded (b : BorrowRecord) : BorrowRecord := { b with state := .active .fault, upgrade := true, timer := 2 }

/-- Does a path that is re-placed go toward a peer with this record (R66)? -/
def BorrowRecord.targeted (b : BorrowRecord) : Bool := b.state == .active .fault && !b.upgrade

namespace State

variable {s t w z : State} {u i k : Nat}

theorem Rebound.solePath (h : s.Rebound t) : t.pu.solePath = s.pu.solePath := by rw [h]

theorem Rebound.xc (h : s.Rebound t) : t.xc = s.xc := by rw [h]

theorem Rebound.rc (h : s.Rebound t) : t.rc = s.rc := by rw [h]

theorem Rerecorded.solePath (h : s.Rerecorded t) : t.pu.solePath = s.pu.solePath := by rw [h]

theorem Rerecorded.rc (h : s.Rerecorded t) : t.rc = s.rc := by rw [h]

/-! ## Upgrades (R75) -/

theorem borrow_upgrade (s : State) (k j : Nat) : (s.upgrade k).borrow j = if j = k then (s.borrow k).upgraded else s.borrow j :=
  borrow_setBorrow ..

theorem rerecorded_upgrade (s : State) (k : Nat) : s.Rerecorded (s.upgrade k) := rfl

theorem borrow_upgrades (s : State) {ks : List Nat} (hks : ks.Nodup) (j : Nat) :
    (s.each ks State.upgrade).borrow j = if j ∈ ks then (s.borrow j).upgraded else s.borrow j := by
  induction ks generalizing s with
  | nil => rfl
  | cons k ks ih =>
    obtain ⟨hk, hks⟩ := List.nodup_cons.1 hks
    refine (ih (s.upgrade k) hks).trans ?_
    rw [borrow_upgrade]
    by_cases hjk : j = k
    · subst hjk; simp [hk]
    · simp [hjk]

theorem solePath_upgrade (s : State) (k : Nat) : (s.upgrade k).pu.solePath = s.pu.solePath := rfl

theorem urgent_upgrade {m : Msg} (h : m ∈ s.xc.urgent) (hkey : ∀ j sole, m.sameKey (.borrow j .fault sole) = true → m = .borrow j .fault s.pu.solePath)
    (j : Nat) : m ∈ (s.upgrade j).xc.urgent :=
  mem_placeMsg_of_mem h fun hm => hkey j _ hm

theorem urgent_upgrades {ks : List Nat} (hk : k ∈ ks ∨ .borrow k .fault s.pu.solePath ∈ s.xc.urgent) :
    .borrow k .fault s.pu.solePath ∈ (s.each ks State.upgrade).xc.urgent := by
  induction ks generalizing s with
  | nil => exact hk.resolve_left (List.not_mem_nil)
  | cons j ks ih =>
    refine ih (s := s.upgrade j) ?_
    by_cases hkj : k = j
    · subst hkj; exact .inr (mem_placeMsg_self ..)
    · refine hk.imp (fun h => (List.mem_cons.1 h).resolve_left hkj) fun h => urgent_upgrade h (fun i sole hm => ?_) j
      have hki : k = i := by simpa [Msg.sameKey, Msg.kind, Msg.dest] using hm
      rw [hki]; rfl

/-! ## The SPLIT paths of a failed uplink (R67) -/

/-- Where a SPLIT path of a failed uplink goes (R67). -/
def splitTo (s : State) (u : Nat) (b : Binding) : Binding :=
  if s.live (otherUplink u) then .replaceUplink
  else match s.faultTarget none with
    | some f => .replacePeer f
    | none => if s.hasFaultRecord then .unbound else b.onLender

/-- The peers whose relief borrow is upgraded as uplink u fails (R67). -/
def upgrades (s : State) (u : Nat) : List Nat :=
  if s.live (otherUplink u) = true ∨ (s.faultTarget none).isSome = true ∨ s.hasFaultRecord = true then []
  else s.peers.filter fun k => (s.splitPaths u).any fun i => s.binding i == .split k

theorem splitTo_of_live (h : s.live (otherUplink u) = true) (b : Binding) : s.splitTo u b = .replaceUplink := if_pos h

theorem splitTo_of_target {f : Nat} (h : s.live (otherUplink u) = false) (hf : s.faultTarget none = some f) (b : Binding) :
    s.splitTo u b = .replacePeer f := by
  unfold State.splitTo
  rw [if_neg (by simp [h]), hf]

theorem splitTo_of_no_target (h : s.live (otherUplink u) = false) (hf : s.faultTarget none = none) (b : Binding) :
    s.splitTo u b = if s.hasFaultRecord then .unbound else b.onLender := by
  unfold State.splitTo
  rw [if_neg (by simp [h]), hf]

theorem moveSplit_of_live (h : s.live (otherUplink u) = true) : s.moveSplit u = s.rebind (s.splitPaths u) fun _ => .replaceUplink := if_pos h

theorem moveSplit_of_target {f : Nat} (h : s.live (otherUplink u) = false) (hf : s.faultTarget none = some f) :
    s.moveSplit u = s.rebind (s.splitPaths u) fun _ => .replacePeer f := by
  unfold State.moveSplit
  dsimp only
  rw [if_neg (by simp [h]), hf]

theorem moveSplit_of_no_target (h : s.live (otherUplink u) = false) (hf : s.faultTarget none = none) : s.moveSplit u =
    if s.hasFaultRecord then s.rebind (s.splitPaths u) fun _ => .unbound
    else (s.rebind (s.splitPaths u) fun i => (s.binding i).onLender).each
      (s.peers.filter fun k => (s.splitPaths u).any fun i => s.binding i == .split k) State.upgrade := by
  unfold State.moveSplit
  dsimp only
  rw [if_neg (by simp [h]), hf]

theorem moveSplit_eq (s : State) (u : Nat) : s.moveSplit u =
    (s.rebind (s.splitPaths u) (fun i => s.splitTo u (s.binding i))).each (s.upgrades u) State.upgrade := by
  unfold State.upgrades
  cases h : s.live (otherUplink u) with
  | true => rw [moveSplit_of_live h, if_pos (.inl rfl), funext fun i => splitTo_of_live h (s.binding i)]; rfl
  | false =>
    cases hf : s.faultTarget none with
    | some f => rw [moveSplit_of_target h hf, if_pos (.inr (.inl rfl)), funext fun i => splitTo_of_target h hf (s.binding i)]; rfl
    | none =>
      rw [moveSplit_of_no_target h hf, funext fun i => splitTo_of_no_target h hf (s.binding i)]
      cases hr : s.hasFaultRecord with
      | true => rw [if_pos rfl, if_pos (.inr (.inr rfl))]; rfl
      | false => rw [if_neg nofun, if_neg (by simp)]; rfl

theorem nodup_upgrades (s : State) (u : Nat) : (s.upgrades u).Nodup := by
  unfold State.upgrades
  split
  · exact .nil
  · exact (nodup_peers s).filter _

theorem binding_moveSplit (s : State) (u i : Nat) :
    (s.moveSplit u).binding i = if i ∈ s.splitPaths u then s.splitTo u (s.binding i) else s.binding i := by
  rw [moveSplit_eq]
  exact ((rerecorded_each rerecorded_upgrade ..).binding i).trans (binding_rebind ..)

theorem borrow_moveSplit (s : State) (u j : Nat) :
    (s.moveSplit u).borrow j = if j ∈ s.upgrades u then (s.borrow j).upgraded else s.borrow j := by
  rw [moveSplit_eq, borrow_upgrades _ (nodup_upgrades s u)]
  have hsame := (rebound_rebind s (s.splitPaths u) (fun i => s.splitTo u (s.binding i))).borrow j
  rw [hsame]

theorem lend_moveSplit (s : State) (u j : Nat) : (s.moveSplit u).lend j = s.lend j := by
  rw [moveSplit_eq]
  exact ((rerecorded_each rerecorded_upgrade ..).lend j).trans ((rebound_rebind ..).lend j)

theorem urgent_moveSplit (h : k ∈ s.upgrades u) : .borrow k .fault s.pu.solePath ∈ (s.moveSplit u).xc.urgent := by
  rw [moveSplit_eq]
  rw [← (rebound_rebind s (s.splitPaths u) (fun i => s.splitTo u (s.binding i))).solePath]
  exact urgent_upgrades (.inl h)

theorem solePath_moveSplit (s : State) (u : Nat) : (s.moveSplit u).pu.solePath = s.pu.solePath := by
  rw [moveSplit_eq]
  exact (rerecorded_each rerecorded_upgrade ..).solePath.trans (rebound_rebind ..).solePath

theorem rc_moveSplit (s : State) (u : Nat) : (s.moveSplit u).rc = s.rc := by
  rw [moveSplit_eq]
  exact (rerecorded_each rerecorded_upgrade ..).rc.trans (rebound_rebind ..).rc

theorem ground_moveSplit (s : State) (u : Nat) : s.SameGround (s.moveSplit u) := ⟨by simp, by simp, by simp, by simp⟩

/-! ## The fault lender and the replacement of a path -/

theorem faultTarget_congr (hg : s.SameGround t) (h : ∀ k ∈ s.peers, (t.borrow k).targeted = (s.borrow k).targeted) (e : Option Nat) :
    t.faultTarget e = s.faultTarget e := by
  unfold State.faultTarget
  rw [hg.peers]
  exact List.find?_congr fun k hk => congrArg (· && e != some k) (h k hk)

theorem replacement_congr (hg : s.SameGround t) {e : Option Nat} (h : t.faultTarget e = s.faultTarget e) (i : Nat) :
    t.replacement e i = s.replacement e i := by
  unfold State.replacement
  rw [hg.homePort, hg.live, hg.live, h]

theorem faultTarget_none_iff : s.faultTarget none = none ↔ ∀ k ∈ s.peers, (s.borrow k).targeted = false := by
  unfold State.faultTarget
  rw [List.find?_eq_none]
  refine forall₂_congr fun k _ => ?_
  rw [Bool.not_eq_true]
  exact (Bool.and_true _).symm ▸ Iff.rfl

/-- An upgrade waits for its GRANT, so it makes no new target (R66, R75). -/
theorem faultTarget_moveSplit (s : State) (u : Nat) : (s.moveSplit u).faultTarget none = s.faultTarget none := by
  refine faultTarget_congr (ground_moveSplit s u) (fun k hk => ?_) none
  rw [borrow_moveSplit]
  split
  · next hup =>
    have hnone : s.faultTarget none = none := by
      unfold State.upgrades at hup
      split at hup
      · exact nomatch hup
      · next hno => simpa using fun h => hno (.inr (.inl h))
    rw [faultTarget_none_iff.1 hnone k hk]
    rfl
  · rfl

/-! ## The moves of a failed uplink -/

/-- The paths at home on the failed uplink, re-placed (R67, first row). -/
def rehomed (w : State) (u : Nat) : State := w.setSole.replacePaths none (fun i b => b == .home && w.homePort i == u)

/-- All the paths of the failed uplink moved (R67). -/
def replaced (w : State) (u : Nat) : State :=
  ((w.rehomed u).moveSplit u).replacePaths none (fun i b => b == .replaceUplink && otherUplink (w.homePort i) == u)

/-- The paths moved, and the lends ended with the last uplink (R67, R83). -/
def moved (w : State) (u : Nat) : State := if w.anyUplink then w.replaced u else (w.replaced u).emptyLends

theorem pathsUplinkFault_moved (w : State) (u : Nat) : w.pathsUplinkFault u = w.reportPaths (w.moved u).settlePaths := rfl

theorem rebound_rehomed (w : State) (u : Nat) : w.setSole.Rebound (w.rehomed u) := rebound_replacePaths ..

theorem ground_rehomed (w : State) (u : Nat) : w.SameGround (w.rehomed u) :=
  SameGround.trans (t := w.setSole) ⟨rfl, rfl, rfl, rfl⟩ (rebound_rehomed w u).ground

theorem borrow_rehomed (w : State) (u k : Nat) : (w.rehomed u).borrow k = w.borrow k := (rebound_rehomed w u).borrow k

theorem binding_rehomed (w : State) {u i : Nat} (hi : i ∈ paths) : (w.rehomed u).binding i =
    if w.binding i = .home ∧ w.homePort i = u then w.replacement none i else w.binding i := by
  refine (binding_replacePaths ..).trans ?_
  have hrep : w.setSole.replacement none i = w.replacement none i := replacement_congr ⟨rfl, rfl, rfl, rfl⟩ rfl i
  rw [hrep]
  exact if_congr (by simp [hi, State.setSole, State.binding]) rfl rfl

theorem faultTarget_rehomed (w : State) (u : Nat) : (w.rehomed u).faultTarget none = w.faultTarget none :=
  faultTarget_congr (ground_rehomed w u) (fun k _ => by rw [borrow_rehomed]) none

theorem splitTo_rehomed (w : State) (u : Nat) (b : Binding) : (w.rehomed u).splitTo u b = w.splitTo u b := by
  have hrecord : (w.rehomed u).hasFaultRecord = w.hasFaultRecord := by
    unfold State.hasFaultRecord State.faultBorrow
    rw [lender_congr (ground_rehomed w u).peers (fun k _ => by rw [borrow_rehomed])]
  unfold State.splitTo
  rw [(ground_rehomed w u).live, faultTarget_rehomed, hrecord]

theorem replacement_ne_split (w : State) (e : Option Nat) (i k : Nat) : w.replacement e i ≠ .split k := by
  unfold State.replacement
  split
  · nofun
  · split
    · nofun
    · split <;> nofun

theorem ground_replaced (w : State) (u : Nat) : w.SameGround (w.replaced u) :=
  ((ground_rehomed w u).trans (ground_moveSplit ..)).trans (rebound_replacePaths ..).ground

theorem otherUplink_ne {u : Nat} (hu : u = u0 ∨ u = u1) : otherUplink u ≠ u := by rcases hu with rfl | rfl <;> decide

/-- Where the failure of uplink u leaves each path (R67). -/
theorem binding_replaced (w : State) {u i : Nat} (hu : u = u0 ∨ u = u1) (hi : i ∈ paths) : (w.replaced u).binding i =
    match w.binding i with
    | .home => if w.homePort i = u then w.replacement none i else .home
    | .split k => if w.homePort i = u then w.splitTo u (.split k) else .split k
    | .replaceUplink => if otherUplink (w.homePort i) = u then w.replacement none i else .replaceUplink
    | .replacePeer k => .replacePeer k
    | .unbound => .unbound := by
  have hhome : (w.rehomed u).homePort i = w.homePort i := (ground_rehomed w u).homePort i
  have hrep : ((w.rehomed u).moveSplit u).replacement none i = w.replacement none i :=
    replacement_congr ((ground_rehomed w u).trans (ground_moveSplit ..)) ((faultTarget_moveSplit ..).trans (faultTarget_rehomed ..)) i
  have hlast : (w.replaced u).binding i = if ((w.rehomed u).moveSplit u).binding i = .replaceUplink ∧ otherUplink (w.homePort i) = u
      then w.replacement none i else ((w.rehomed u).moveSplit u).binding i := by
    refine (binding_replacePaths ..).trans ?_
    rw [hrep]
    exact if_congr (by simp [hi]) rfl rfl
  have hmem : i ∈ (w.rehomed u).splitPaths u ↔ w.homePort i = u ∧ ∃ k, (w.rehomed u).binding i = .split k := by
    rw [mem_splitPaths, hhome, and_iff_right hi]
  have hkept : (w.homePort i = u → ∀ k, (w.rehomed u).binding i ≠ .split k) →
      ((w.rehomed u).moveSplit u).binding i = (w.rehomed u).binding i := fun h =>
    (binding_moveSplit ..).trans (if_neg fun hin => (hmem.1 hin).2.elim (h (hmem.1 hin).1))
  have hfar : w.homePort i = u → otherUplink (w.homePort i) ≠ u := fun h => h.symm ▸ otherUplink_ne hu
  have hfirst := binding_rehomed w (u := u) hi
  rw [hlast]
  cases hb : w.binding i with
  | home =>
    rw [hb] at hfirst
    by_cases hiu : w.homePort i = u
    · rw [if_pos ⟨rfl, hiu⟩] at hfirst
      rw [hkept fun _ k => hfirst ▸ replacement_ne_split w none i k, hfirst, if_neg fun h => hfar hiu h.2]
      exact (if_pos hiu).symm
    · rw [if_neg fun h => hiu h.2] at hfirst
      rw [hkept fun h => absurd h hiu, hfirst, if_neg (fun h => nomatch h.1)]
      exact (if_neg hiu).symm
  | split k =>
    rw [if_neg (by rw [hb]; exact fun h => nomatch h.1), hb] at hfirst
    by_cases hiu : w.homePort i = u
    · have hto : ((w.rehomed u).moveSplit u).binding i = w.splitTo u (.split k) := by
        rw [binding_moveSplit, if_pos (hmem.2 ⟨hiu, k, hfirst⟩), hfirst, splitTo_rehomed]
      rw [hto, if_neg fun h => hfar hiu h.2]
      exact (if_pos hiu).symm
    · rw [hkept fun h => absurd h hiu, hfirst, if_neg (fun h => nomatch h.1)]
      exact (if_neg hiu).symm
  | replaceUplink =>
    rw [if_neg (by rw [hb]; exact fun h => nomatch h.1), hb] at hfirst
    rw [hkept fun _ k => by rw [hfirst]; nofun, hfirst]
    exact if_congr (and_iff_right rfl) rfl rfl
  | replacePeer k =>
    rw [if_neg (by rw [hb]; exact fun h => nomatch h.1), hb] at hfirst
    rw [hkept fun _ k => by rw [hfirst]; nofun, hfirst]
    exact if_neg fun h => nomatch h.1
  | unbound =>
    rw [if_neg (by rw [hb]; exact fun h => nomatch h.1), hb] at hfirst
    rw [hkept fun _ k => by rw [hfirst]; nofun, hfirst]
    exact if_neg fun h => nomatch h.1

/-! ## Which borrow is upgraded -/

/-- The borrow from peer k is upgraded as uplink u fails (R67): nothing else is left, and a path is SPLIT toward k. -/
def Upgraded (w : State) (u k : Nat) : Prop :=
  w.live (otherUplink u) = false ∧ w.faultTarget none = none ∧ w.lender .fault = none ∧ k ∈ w.peers ∧
    ∃ i ∈ paths, w.homePort i = u ∧ w.binding i = .split k

theorem split_rehomed (w : State) (hi : i ∈ paths) : (w.rehomed u).binding i = .split k ↔ w.binding i = .split k := by
  rw [binding_rehomed w hi]
  split
  · next h => exact iff_of_false (fun hr => replacement_ne_split _ _ _ _ hr) (by rw [h.1]; nofun)
  · exact Iff.rfl

theorem mem_upgrades_rehomed (w : State) (u k : Nat) : k ∈ (w.rehomed u).upgrades u ↔ w.Upgraded u k := by
  have hlender : (w.rehomed u).hasFaultRecord = (w.lender .fault).isSome := by
    unfold State.hasFaultRecord State.faultBorrow
    rw [lender_congr (ground_rehomed w u).peers (fun k _ => by rw [borrow_rehomed])]
  have hany : ((w.rehomed u).splitPaths u).any (fun i => (w.rehomed u).binding i == .split k) = true ↔
      ∃ i ∈ paths, w.homePort i = u ∧ w.binding i = .split k := by
    rw [List.any_eq_true]
    constructor
    · rintro ⟨i, hi, hb⟩
      obtain ⟨hpath, hhome, -⟩ := mem_splitPaths.1 hi
      exact ⟨i, hpath, (ground_rehomed w u).homePort i ▸ hhome, (split_rehomed w hpath).1 (by simpa using hb)⟩
    · rintro ⟨i, hi, hhome, hb⟩
      have hb' := (split_rehomed w (u := u) hi).2 hb
      exact ⟨i, mem_splitPaths.2 ⟨hi, ((ground_rehomed w u).homePort i).trans hhome, k, hb'⟩, by simp [hb']⟩
  unfold State.upgrades Upgraded
  rw [(ground_rehomed w u).live, faultTarget_rehomed, hlender, (ground_rehomed w u).peers]
  split
  · next h =>
    refine iff_of_false (List.not_mem_nil) ?_
    rintro ⟨hlive, htarget, hnone, -⟩
    rw [hlive, htarget, hnone] at h
    simp at h
  · next h =>
    obtain ⟨hlive, htarget, hnone⟩ : w.live (otherUplink u) = false ∧ w.faultTarget none = none ∧ w.lender .fault = none := by
      simpa only [not_or, Bool.not_eq_true, Option.isSome_eq_false_iff, Option.isNone_iff_eq_none] using h
    rw [List.mem_filter, hany]
    exact ⟨fun hk => ⟨hlive, htarget, hnone, hk⟩, fun hk => hk.2.2.2⟩

theorem borrow_replaced_of_upgraded (h : w.Upgraded u k) : (w.replaced u).borrow k = (w.borrow k).upgraded := by
  refine ((rebound_replacePaths ..).borrow k).trans ((borrow_moveSplit ..).trans ((if_pos ((mem_upgrades_rehomed ..).2 h)).trans ?_))
  rw [borrow_rehomed]

theorem borrow_replaced_of_not_upgraded (h : ¬w.Upgraded u k) : (w.replaced u).borrow k = w.borrow k := by
  refine ((rebound_replacePaths ..).borrow k).trans ((borrow_moveSplit ..).trans ((if_neg fun hk => h ((mem_upgrades_rehomed ..).1 hk)).trans ?_))
  rw [borrow_rehomed]

theorem lend_replaced (w : State) (u k : Nat) : (w.replaced u).lend k = w.lend k :=
  ((rebound_replacePaths ..).lend k).trans ((lend_moveSplit ..).trans ((rebound_rehomed w u).lend k))

theorem solePath_replaced (w : State) (u : Nat) : (w.replaced u).pu.solePath = !w.anyUplink :=
  (rebound_replacePaths ..).solePath.trans ((solePath_moveSplit ..).trans ((rebound_rehomed w u).solePath.trans rfl))

theorem rc_replaced (w : State) (u : Nat) : (w.replaced u).rc = w.rc :=
  (rebound_replacePaths ..).rc.trans ((rc_moveSplit ..).trans (rebound_rehomed w u).rc)

theorem urgent_replaced (h : w.Upgraded u k) : .borrow k .fault (!w.anyUplink) ∈ (w.replaced u).xc.urgent := by
  unfold State.replaced
  rw [(rebound_replacePaths ..).xc]
  have hsole : (w.rehomed u).pu.solePath = !w.anyUplink := (rebound_rehomed w u).solePath.trans rfl
  rw [← hsole]
  exact urgent_moveSplit ((mem_upgrades_rehomed ..).2 h)

/-! ## The lends of a station with no uplink left (R83) -/

theorem lend_emptyLend (s : State) (k j : Nat) : (s.emptyLend k).lend j = if j = k then none else s.lend j := lend_dropLend ..

/-- From s to t only lends end, and messages are queued. -/
def Emptied (s t : State) : Prop := t = { s with pu := { s.pu with lends := t.pu.lends }, xc := t.xc }

theorem emptied_emptyLends (s : State) : s.Emptied s.emptyLends :=
  foldl_induct (f := State.emptyLend) (P := fun z => s.Emptied z) (fun z k (hz : z = _) => by
    unfold Emptied
    rw [hz]
    rfl) _ rfl

theorem lend_emptyLends (s : State) (hk : k ∈ s.peers) : s.emptyLends.lend k = none := by
  have hall : ∀ (ks : List Nat) (z : State), (z.lend k = none ∨ k ∈ ks) → (z.each ks State.emptyLend).lend k = none := by
    intro ks
    induction ks with
    | nil => exact fun z h => h.resolve_right (List.not_mem_nil)
    | cons j ks ih =>
      refine fun z h => ih (z.emptyLend j) ?_
      rw [lend_emptyLend]
      by_cases hkj : k = j
      · exact .inl (if_pos hkj)
      · rw [if_neg hkj]; exact h.imp_right fun hmem => (List.mem_cons.1 hmem).resolve_left hkj
  refine hall _ s ?_
  cases hl : s.lend k with
  | none => exact .inl rfl
  | some l => exact .inr (List.mem_filter.2 ⟨hk, by simp [hl]⟩)

theorem urgent_emptyLend_borrow {r : Reason} {sole : Bool} (h : .borrow k r sole ∈ s.xc.urgent) (j : Nat) :
    .borrow k r sole ∈ (s.emptyLend j).xc.urgent :=
  mem_placeMsg_of_mem (List.mem_filter.2 ⟨h, by simp [Msg.kind]⟩) fun hkey => by simp [Msg.sameKey, Msg.kind] at hkey

theorem urgent_emptyLends_borrow {r : Reason} {sole : Bool} (h : .borrow k r sole ∈ s.xc.urgent) :
    .borrow k r sole ∈ s.emptyLends.xc.urgent :=
  foldl_induct (f := State.emptyLend) (P := fun z => .borrow k r sole ∈ z.xc.urgent) (fun _ j hz => urgent_emptyLend_borrow hz j) _ h

theorem urgent_emptyLends_withdraw (hk : k ∈ s.peers) (h : s.lend k ≠ none) : .withdraw k .noUplink ∈ s.emptyLends.xc.urgent := by
  have hall : ∀ (ks : List Nat) (z : State), (.withdraw k .noUplink ∈ z.xc.urgent ∨ k ∈ ks) →
      .withdraw k .noUplink ∈ (z.each ks State.emptyLend).xc.urgent := by
    intro ks
    induction ks with
    | nil => exact fun z h => h.resolve_right (List.not_mem_nil)
    | cons j ks ih =>
      refine fun z h => ih (z.emptyLend j) ?_
      by_cases hkj : k = j
      · subst hkj; exact .inl (mem_placeMsg_self ..)
      · refine h.imp (fun hmem => mem_placeMsg_of_mem (List.mem_filter.2 ⟨hmem, by simp [Msg.kind]⟩) fun hkey => ?_)
          fun hmem => (List.mem_cons.1 hmem).resolve_left hkj
        have hkj' : k = j := by simpa [Msg.sameKey, Msg.kind, Msg.dest] using hkey
        rw [hkj']
  refine hall _ s (.inr (List.mem_filter.2 ⟨hk, ?_⟩))
  exact Option.isSome_iff_ne_none.2 h

/-! ## The paths and the lends together -/

theorem moved_of_uplink (h : w.anyUplink = true) (u : Nat) : w.moved u = w.replaced u := if_pos h

theorem moved_of_none (h : w.anyUplink = false) (u : Nat) : w.moved u = (w.replaced u).emptyLends := if_neg (by simp [h])

theorem emptied_moved (w : State) (u : Nat) : (w.replaced u).Emptied (w.moved u) := by
  unfold State.moved
  split
  · rfl
  · exact emptied_emptyLends _

theorem Emptied.ground (h : s.Emptied t) : s.SameGround t := by rw [h]; exact ⟨rfl, rfl, rfl, rfl⟩

theorem Emptied.binding (h : s.Emptied t) (i : Nat) : t.binding i = s.binding i := by rw [h]; rfl

theorem Emptied.borrow (h : s.Emptied t) (k : Nat) : t.borrow k = s.borrow k := by rw [h]; rfl

theorem Emptied.solePath (h : s.Emptied t) : t.pu.solePath = s.pu.solePath := by rw [h]

theorem Emptied.rc (h : s.Emptied t) : t.rc = s.rc := by rw [h]

theorem ground_moved (w : State) (u : Nat) : w.SameGround (w.moved u) := (ground_replaced w u).trans (emptied_moved w u).ground

/-! ## What follows the moves (R69, R72) -/

/-- The records freed and the fault request abandoned, before a fault request is made (R66, R69, R72). -/
def cleaned (z : State) : State := (z.each z.peers State.freeRecord).abandonFault

theorem settlePaths_cleaned (z : State) : z.settlePaths = z.cleaned.faultRequest := rfl

theorem rerecorded_cleaned (z : State) : z.Rerecorded z.cleaned := (rerecorded_freeRecords z z.peers).trans (rerecorded_abandonFault _)

theorem borrow_cleaned (z : State) (hk : k ∈ z.peers) : z.cleaned.borrow k = z.cleared k := borrow_cleared z hk

theorem urgent_cleaned (z : State) : z.cleaned.xc.urgent = z.xc.urgent := by
  unfold State.cleaned
  rw [xc_abandonFault, urgent_freeRecords]

theorem candidate_cleaned (z : State) : z.cleaned.candidate .fault = z.candidate .fault :=
  candidate_fault_of_live (rerecorded_cleaned z).ground.1 (rerecorded_cleaned z).ground.2.2.2
    (fun k hk => by rw [borrow_cleaned z hk, (cleared_exclusion z k).1]) (rerecorded_cleaned z).ground.live

/-- A fault record that is REQUESTED, or ACTIVE with a path, stays while a path is UNBOUND, so no fault request is made (R72). -/
theorem settlePaths_of_record (h : z.hasUnbound = true → ∃ f ∈ z.peers, (z.borrow f).state.hasReason .fault = true ∧
    ((z.borrow f).state.isActive = true → z.hasPathToward f = true)) : z.settlePaths = z.cleaned := by
  refine faultRequest_of_not_calls (s := z.cleaned) fun ⟨hun, hnone⟩ => ?_
  have hun' : z.hasUnbound = true := (rerecorded_cleaned z).hasUnbound ▸ hun
  obtain ⟨f, hf, hreason, hpath⟩ := h hun'
  have hkept : (z.borrow f).freed (z.hasPathToward f) = z.borrow f := by
    cases hactive : (z.borrow f).state.isActive with
    | true => rw [hpath hactive]; exact BorrowRecord.freed_of_path _
    | false => exact BorrowRecord.freed_of_not_active hactive _
  have hno := lender_none_iff.1 hnone f ((rerecorded_cleaned z).ground.peers.symm ▸ hf)
  rw [borrow_cleaned z hf, State.cleared, if_pos hun', hkept, hreason] at hno
  exact nomatch hno

theorem settlePaths_of_calls (hun : z.hasUnbound = true) (hnone : ∀ k ∈ z.peers, (z.cleared k).state.hasReason .fault = false)
    (hk : z.candidate .fault = some k) : z.settlePaths = z.cleaned.request k .fault := by
  refine faultRequest_of_calls ⟨(rerecorded_cleaned z).hasUnbound.trans hun, lender_none_iff.2 fun j hj => ?_⟩ ((candidate_cleaned z).trans hk)
  have hj' : j ∈ z.peers := (rerecorded_cleaned z).ground.peers ▸ hj
  rw [borrow_cleaned z hj']
  exact hnone j hj'

theorem BorrowRecord.requested_of_freed (b : BorrowRecord) (path : Bool) (r : Reason) : (b.freed path).requested r = b.requested r := by
  unfold BorrowRecord.freed
  split <;> rfl

/-- The fault request that follows the moves (R72). -/
theorem asks_of_calls (hun : z.hasUnbound = true) (hnone : ∀ k ∈ z.peers, (z.cleared k).state.hasReason .fault = false)
    (hk : z.candidate .fault = some k) : z.settlePaths.borrow k = (z.borrow k).requested .fault ∧
      .borrow k .fault z.pu.solePath ∈ z.settlePaths.xc.urgent := by
  have hmem : k ∈ z.peers := (candidate_qualifies hk).1
  rw [settlePaths_of_calls hun hnone hk]
  refine ⟨?_, (rerecorded_cleaned z).solePath ▸ borrow_urgent_request z.cleaned k .fault⟩
  rw [borrow_request, if_pos rfl, borrow_cleaned z hmem, State.cleared, if_pos hun, BorrowRecord.requested_of_freed]

theorem ret_waits_freeRecord_self (hactive : (z.borrow k).state.isActive = true) (hpath : z.hasPathToward k = false)
    (hlive : z.peerLive k = true) (hcross : z.crossLive k = true) : Waits (.ret k) (z.freeRecord k) := by
  unfold State.freeRecord
  rw [if_pos (by rw [hactive, hpath]; rfl)]
  dsimp only
  rw [if_pos (by rw [hlive, hcross]; rfl)]
  exact ret_waits_sendReturn k

/-- The RETURN of a record that is freed (R69). -/
theorem ret_waits_cleaned (hk : k ∈ z.peers) (hactive : (z.borrow k).state.isActive = true) (hpath : z.hasPathToward k = false)
    (hlive : z.peerLive k = true) (hcross : z.crossLive k = true) : Waits (.ret k) z.cleaned := by
  obtain ⟨before, after, hsplit⟩ := List.append_of_mem hk
  have hnot : k ∉ before := fun hin => by
    have hnodup := nodup_peers z
    rw [hsplit] at hnodup
    exact (List.nodup_append.1 hnodup).2.2 k hin k List.mem_cons_self rfl
  have hbefore := rerecorded_freeRecords z before
  have hborrow : (z.each before State.freeRecord).borrow k = z.borrow k := (borrow_freeRecords ..).trans (if_neg hnot)
  have hstep : Waits (.ret k) ((z.each before State.freeRecord).freeRecord k) :=
    ret_waits_freeRecord_self (hborrow ▸ hactive) ((hbefore.hasPathToward k).trans hpath) ((hbefore.ground.peerLive k).trans hlive)
      ((hbefore.ground.crossLive k).trans hcross)
  have hall : z.each z.peers State.freeRecord = ((z.each before State.freeRecord).freeRecord k).each after State.freeRecord := by
    rw [hsplit]
    exact List.foldl_append
  unfold Waits State.cleaned
  rw [xc_abandonFault, hall]
  exact ret_waits_freeRecords after hstep

end State

end Sys2Proof.Machine
end

section
/-! The fault of an uplink (R67, R69, R72, R75, R83, R97). -/

namespace Sys2Proof.Machine

open Sys2Proof.Config

namespace State

variable {s w y : State} {p i k f : Nat}

/-- w is s with port p failed, before the Path Unit takes the report. -/
structure Fell (s : State) (p : Nat) (w : State) : Prop where
  il : w.il = s.il
  cfg : w.cfg = s.cfg
  pv : w.pv = s.pv
  pu : w.pu = s.pu
  rc : w.rc = s.rc
  xc : w.xc = s.xc
  live : ∀ q, w.live q = if q = p then false else s.live q

theorem Failing.fell (h : s.Failing p y) : s.Fell p (y.failed p) := by
  have honly := failed_only y p
  have hlive : ∀ q, q ≠ p → y.live q = s.live q := fun q hq => by unfold State.live; rw [h.links q hq]
  refine ⟨?_, ?_, ?_, ?_, ?_, ?_, fun q => ?_⟩
  · rw [honly, h.only]
  · rw [honly, h.only]
  · rw [honly, h.only]
  · rw [honly, h.only]
  · rw [honly, h.only]
  · rw [honly, h.only]
  · rw [live_failed]
    split
    · rfl
    · next hq => exact hlive q hq

namespace Fell

variable (h : s.Fell p w)
include h

theorem dead : w.live p = false := (h.live p).trans (if_pos rfl)

theorem live_ne {q : Nat} (hq : q ≠ p) : w.live q = s.live q := (h.live q).trans (if_neg hq)

theorem peers : w.peers = s.peers := by unfold State.peers; rw [h.il]

theorem borrow (k : Nat) : w.borrow k = s.borrow k := borrow_congr (by rw [h.pu]) k

theorem binding (i : Nat) : w.binding i = s.binding i := binding_congr (by rw [h.pu]) i

theorem lend (k : Nat) : w.lend k = s.lend k := lend_congr (by rw [h.pu]) k

theorem homePort (i : Nat) : w.homePort i = s.homePort i := by unfold State.homePort; rw [h.cfg]

theorem lender (r : Reason) : w.lender r = s.lender r := lender_congr h.peers (fun k _ => by rw [h.borrow]) r

theorem peerLive (k : Nat) : w.peerLive k = s.peerLive k := peerLive_congr h.pv k

/-- The candidate after the fault, whatever has become of the paths (R71). -/
theorem candidate {z : State} (hg : w.SameGround z) (hb : ∀ k ∈ s.peers, (z.borrow k).exclusion = (s.borrow k).exclusion) :
    z.candidate .fault = (s.setLink p (w.link p)).candidate .fault := by
  refine candidate_fault_of_live (s := s.setLink p (w.link p)) (hg.1.trans h.il) (hg.2.2.2.trans h.pv) (fun k hk => hb k hk) fun q => ?_
  rw [hg.live, live_setLink, h.live]
  split
  · exact h.dead.symm
  · rfl

end Fell

theorem otherUplink_other {u : Nat} (hu : u = u0 ∨ u = u1) : otherUplink (otherUplink u) = u := by rcases hu with rfl | rfl <;> rfl

/-! ## The agreement before the fault -/

section before

variable (h : s.Fell p w) (hs : s.Agrees) (hu : p = u0 ∨ p = u1) (hlive : s.live p = true)
include h hu

theorem Fell.live_other : w.live (otherUplink p) = s.live (otherUplink p) := h.live_ne (otherUplink_ne hu)

theorem Fell.anyUplink : w.anyUplink = s.live (otherUplink p) := by
  rw [← h.live_other hu]
  have hdead := h.dead
  unfold State.anyUplink
  rcases hu with rfl | rfl
  · rw [hdead, Bool.false_or]; rfl
  · rw [hdead, Bool.or_false]; rfl

theorem Fell.crossLive (k : Nat) : w.crossLive k = s.crossLive k := by
  refine crossLive_of_live h.il (h.live_ne fun hp => ?_)
  have hle := le_crossPort s k
  rw [hp] at hle
  rcases hu with rfl | rfl <;> exact absurd hle (by decide)

omit h in
include hs in
theorem homePort_of_uplink (i : Nat) : s.homePort i = p ∨ s.homePort i = otherUplink p := by
  rcases homePort_cases hs.1.1.homes i with hi | hi <;> rcases hu with rfl | rfl
  · exact .inl hi
  · exact .inr hi
  · exact .inr hi
  · exact .inl hi

omit h in
include hs hlive in
theorem not_unbound_of_live (hi : i ∈ paths) : s.binding i ≠ .unbound := fun hb => by
  have hok := hs.1.2 i hi
  rw [hb] at hok
  have hany : s.anyUplink = true := by
    unfold State.anyUplink
    rcases hu with rfl | rfl <;> simp [hlive]
  exact Bool.noConfusion (hany.symm.trans hok)

end before

/-! ## What is common to both cases -/

theorem Fell.told_binding (h : s.Fell p w) (hu : p = u0 ∨ p = u1) (hi : i ∈ paths) : (told w (w.moved p)).binding i =
    match s.binding i with
    | .home => if s.homePort i = p then w.replacement none i else .home
    | .split k => if s.homePort i = p then w.splitTo p (.split k) else .split k
    | .replaceUplink => if otherUplink (s.homePort i) = p then w.replacement none i else .replaceUplink
    | .replacePeer k => .replacePeer k
    | .unbound => .unbound := by
  refine (binding_told ..).trans (((emptied_moved w p).binding i).trans ((binding_replaced w hu hi).trans ?_))
  rw [h.homePort]
  cases hb : s.binding i <;> rw [(h.binding i).trans hb]

/-- What the Path Unit, the Relief Controller and the LEVEL builder show after the fault of an uplink (R65, R97). -/
theorem Fell.told_shown (h : s.Fell p w) (hu : p = u0 ∨ p = u1) :
    (told w (w.moved p)).pu.solePath = !s.live (otherUplink p) ∧
    (told w (w.moved p)).rc.lendOffer = (decide (s.rc.level < s.cfg.lendLimit) && s.live (otherUplink p) &&
      ((told w (w.moved p)).lender .fault).isNone) ∧
    (s.il.state = .configured → .level ∈ (told w (w.moved p)).xc.normal) := by
  have hground := ground_moved w p
  refine ⟨?_, ?_, fun hconf => level_told (z := w.moved p) ?_ w⟩
  · rw [solePath_told, (emptied_moved w p).solePath, solePath_replaced, h.anyUplink hu]
  · rw [lendOffer_told, (emptied_moved w p).rc, rc_replaced, h.rc, hground.2.1, h.cfg, hground.anyUplink, h.anyUplink hu]
  · rw [hground.1, h.il]; exact hconf

/-- With the other uplink live (R67, rows 1 to 3). -/
theorem Fell.told_other (h : s.Fell p w) (hs : s.Agrees) (hu : p = u0 ∨ p = u1) (hother : s.live (otherUplink p) = true) :
    (∀ k, (told w (w.moved p)).lend k = s.lend k) ∧ ∀ i ∈ paths, (told w (w.moved p)).binding i = match s.binding i with
      | .home => if s.homePort i = p then .replaceUplink else .home
      | .split k => if s.homePort i = p then .replaceUplink else .split k
      | .replaceUplink => if s.homePort i = p then .replaceUplink else .home
      | .replacePeer k => .replacePeer k
      | .unbound => .unbound := by
  have hany : w.anyUplink = true := (h.anyUplink hu).trans hother
  have hlive : w.live (otherUplink p) = true := (h.live_other hu).trans hother
  have haway : ∀ {i}, s.homePort i = p → w.replacement none i = .replaceUplink := fun {i} hi => by
    rw [← h.homePort] at hi
    exact replacement_of_other none (by rw [hi]; exact h.dead) (by rw [hi]; exact hlive)
  refine ⟨fun k => ?_, fun i hi => ?_⟩
  · rw [lend_told, moved_of_uplink hany, lend_replaced, h.lend]
  · rw [h.told_binding hu hi]
    cases s.binding i with
    | home => exact ite_congr rfl haway fun _ => rfl
    | split k => exact ite_congr rfl (fun _ => if_pos hlive) fun _ => rfl
    | replaceUplink =>
      dsimp only
      rcases homePort_of_uplink hs hu i with hi | hi
      · rw [if_pos hi, if_neg (by rw [hi]; exact otherUplink_ne hu)]
      · have hback : otherUplink (s.homePort i) = p := by rw [hi]; exact otherUplink_other hu
        rw [if_pos hback, if_neg (by rw [hi]; exact otherUplink_ne hu)]
        exact replacement_of_home none (by rw [h.homePort, hi]; exact hlive)
    | replacePeer k => rfl
    | unbound => rfl

/-- With the other uplink not live, a path goes to the fault lender, or is UNBOUND (R66). -/
theorem Fell.replacement (h : s.Fell p w) (hs : s.Agrees) (hu : p = u0 ∨ p = u1) (hother : s.live (otherUplink p) = false) (i : Nat) :
    w.replacement none i = match w.faultTarget none with
      | some f => .replacePeer f
      | none => .unbound := by
  have hdead : w.live (otherUplink p) = false := (h.live_other hu).trans hother
  have hboth : w.live (w.homePort i) = false ∧ w.live (otherUplink (w.homePort i)) = false := by
    rw [h.homePort]
    rcases homePort_of_uplink hs hu i with hi | hi
    · rw [hi]; exact ⟨h.dead, hdead⟩
    · rw [hi, otherUplink_other hu]; exact ⟨hdead, h.dead⟩
  rcases replacement_of_dead none hboth.1 hboth.2 with ⟨f, hf, hr⟩ | ⟨hf, hr⟩
  · rw [hr, hf]
  · rw [hr, hf]

/-- With the other uplink not live, every path is at home on the failed one, SPLIT at home on it, on it in the place of its home, or
bound toward the fault lender. -/
theorem Agrees.bindings_alone (hs : s.Agrees) (hu : p = u0 ∨ p = u1) (hlive : s.live p = true) (hother : s.live (otherUplink p) = false)
    (hi : i ∈ paths) : (s.binding i = .home ∧ s.homePort i = p) ∨
      (∃ k, s.binding i = .split k ∧ s.homePort i = p ∧ k ∈ s.peers ∧ (s.borrow k).state = .active .relief) ∨
      (s.binding i = .replaceUplink ∧ otherUplink (s.homePort i) = p) ∨
      ∃ k, s.binding i = .replacePeer k ∧ k ∈ s.peers ∧ (s.borrow k).state = .active .fault := by
  have hok := hs.1.2 i hi
  have hat : s.live (s.homePort i) = true → s.homePort i = p := fun hl =>
    (homePort_of_uplink hs hu i).resolve_right fun h => Bool.noConfusion (hother.symm.trans (h ▸ hl))
  cases hb : s.binding i with
  | unbound => exact absurd hb (not_unbound_of_live hs hu hlive hi)
  | home => rw [hb] at hok; exact .inl ⟨rfl, hat hok⟩
  | split k =>
    rw [hb] at hok
    obtain ⟨hk, -, hstate, hl⟩ := hok
    exact .inr (.inl ⟨k, rfl, hat hl, hk, hstate⟩)
  | replaceUplink =>
    have hl : s.live (otherUplink (s.homePort i)) = true := by rw [hb] at hok; exact hok
    refine .inr (.inr (.inl ⟨rfl, ?_⟩))
    rcases homePort_of_uplink hs hu i with h | h
    · exact Bool.noConfusion (hother.symm.trans (h ▸ hl))
    · rw [h]; exact otherUplink_other hu
  | replacePeer k =>
    rw [hb] at hok
    obtain ⟨hk, -, hstate⟩ := hok
    exact .inr (.inr (.inr ⟨k, rfl, hk, hstate⟩))

/-- Where a path of a station with no uplink left stands (R67). -/
theorem Fell.told_alone (h : s.Fell p w) (hs : s.Agrees) (hu : p = u0 ∨ p = u1) (hlive : s.live p = true)
    (hother : s.live (otherUplink p) = false) (hi : i ∈ paths) : (told w (w.moved p)).binding i = match s.binding i with
      | .replacePeer k => .replacePeer k
      | .split k => w.splitTo p (.split k)
      | .home => w.replacement none i
      | .replaceUplink => w.replacement none i
      | .unbound => .unbound := by
  rw [h.told_binding hu hi]
  rcases hs.bindings_alone hu hlive hother hi with ⟨hb, hhome⟩ | ⟨k, hb, hhome, -⟩ | ⟨hb, hhome⟩ | ⟨k, hb, -⟩ <;> rw [hb]
  · exact if_pos hhome
  · exact if_pos hhome
  · exact if_pos hhome

/-! ## With no uplink left: the fault lender -/

theorem lender_spec {r : Reason} (h : s.lender r = some f) : f ∈ s.peers ∧ (s.borrow f).state.hasReason r = true :=
  ⟨List.mem_of_find?_eq_some h, List.find?_some (p := fun k => (s.borrow k).state.hasReason r) h⟩

theorem BorrowRecord.targeted_iff {b : BorrowRecord} : b.targeted = true ↔ b.state = .active .fault ∧ b.upgrade = false := by
  simp [BorrowRecord.targeted]

/-- The fault lender that is ready is where paths go (R66). -/
theorem Fell.target_of_ready (h : s.Fell p w) (hs : s.Agrees) (hf : f ∈ s.peers) (hstate : (s.borrow f).state = .active .fault)
    (hup : (s.borrow f).upgrade = false) : w.faultTarget none = some f := by
  cases hcase : w.faultTarget none with
  | none =>
    have hno := faultTarget_none_iff.1 hcase f (h.peers ▸ hf)
    rw [h.borrow, BorrowRecord.targeted_iff.2 ⟨hstate, hup⟩] at hno
    exact nomatch hno
  | some g =>
    obtain ⟨hg, hgstate, -⟩ := faultTarget_spec hcase
    rw [h.borrow] at hgstate
    rw [hs.1.1.one g (h.peers ▸ hg) f hf .fault (by rw [hgstate]; rfl) (by rw [hstate]; rfl)]

/-- A fault borrow that is not ready leaves no peer for paths to go to (R66). -/
theorem Fell.target_of_not_ready (h : s.Fell p w) (hs : s.Agrees) (hf : s.lender .fault = some f)
    (hnot : (s.borrow f).state ≠ .active .fault ∨ (s.borrow f).upgrade = true) : w.faultTarget none = none := by
  obtain ⟨hmem, hreason⟩ := lender_spec hf
  cases hcase : w.faultTarget none with
  | none => rfl
  | some g =>
    obtain ⟨hg, hgstate, hgup, -⟩ := faultTarget_spec hcase
    rw [h.borrow] at hgstate hgup
    have hgf := hs.1.1.one g (h.peers ▸ hg) f hmem .fault (by rw [hgstate]; rfl) hreason
    rw [hgf] at hgstate hgup
    rcases hnot with hne | hne
    · exact absurd hgstate hne
    · exact Bool.noConfusion (hgup.symm.trans hne)

theorem Fell.target_of_no_lender (h : s.Fell p w) (hf : s.lender .fault = none) : w.faultTarget none = none :=
  faultTarget_none_iff.2 fun k hk => by
    have hno := lender_none_iff.1 hf k (h.peers ▸ hk)
    rw [h.borrow, Bool.eq_false_iff]
    intro ht
    rw [(BorrowRecord.targeted_iff.1 ht).1] at hno
    exact nomatch hno

theorem Fell.splitTo (h : s.Fell p w) (hu : p = u0 ∨ p = u1) (hother : s.live (otherUplink p) = false) (b : Binding) :
    w.splitTo p b = match w.faultTarget none with
      | some f => .replacePeer f
      | none => if (s.lender .fault).isSome then .unbound else b.onLender := by
  unfold State.splitTo State.hasFaultRecord State.faultBorrow
  rw [h.live_other hu, hother, h.lender]
  rfl

section alone

variable (h : s.Fell p w) (hs : s.Agrees) (hu : p = u0 ∨ p = u1) (hlive : s.live p = true) (hother : s.live (otherUplink p) = false)
include h hs hu hlive hother

/-- Every path goes to the fault lender that is ready (R67). -/
theorem Fell.told_ready (hf : f ∈ s.peers) (hstate : (s.borrow f).state = .active .fault) (hup : (s.borrow f).upgrade = false)
    (hi : i ∈ paths) : (told w (w.moved p)).binding i = .replacePeer f := by
  have htarget := h.target_of_ready hs hf hstate hup
  rw [h.told_alone hs hu hlive hother hi]
  have hrep := h.replacement hs hu hother i
  rw [htarget] at hrep
  rcases hs.bindings_alone hu hlive hother hi with ⟨hb, -⟩ | ⟨k, hb, -⟩ | ⟨hb, -⟩ | ⟨k, hb, hk, hkstate⟩ <;> rw [hb]
  · exact hrep
  · exact (h.splitTo hu hother _).trans (by rw [htarget])
  · exact hrep
  · rw [hs.1.1.one k hk f hf .fault (by rw [hkstate]; rfl) (by rw [hstate]; rfl)]

/-- With a fault borrow that is not ready every other path is UNBOUND (R67). -/
theorem Fell.told_not_ready (hf : s.lender .fault = some f) (hnot : (s.borrow f).state ≠ .active .fault ∨ (s.borrow f).upgrade = true)
    (hi : i ∈ paths) : (told w (w.moved p)).binding i = if s.binding i = .replacePeer f then .replacePeer f else .unbound := by
  have htarget := h.target_of_not_ready hs hf hnot
  obtain ⟨hmem, hreason⟩ := lender_spec hf
  rw [h.told_alone hs hu hlive hother hi]
  have hrep := h.replacement hs hu hother i
  rw [htarget] at hrep
  rcases hs.bindings_alone hu hlive hother hi with ⟨hb, -⟩ | ⟨k, hb, -⟩ | ⟨hb, -⟩ | ⟨k, hb, hk, hkstate⟩ <;> rw [hb]
  · exact hrep
  · exact (h.splitTo hu hother _).trans (by rw [htarget, hf]; rfl)
  · exact hrep
  · rw [hs.1.1.one k hk f hmem .fault (by rw [hkstate]; rfl) hreason]
    exact (if_pos rfl).symm

/-- With no fault borrow the SPLIT paths go whole to the relief lender, and the others are UNBOUND (R67). -/
theorem Fell.told_no_lender (hf : s.lender .fault = none) (hi : i ∈ paths) :
    (told w (w.moved p)).binding i = match s.binding i with
      | .split k => .replacePeer k
      | .home => .unbound
      | .replaceUplink => .unbound
      | .replacePeer _ => .unbound
      | .unbound => .unbound := by
  have htarget := h.target_of_no_lender hf
  rw [h.told_alone hs hu hlive hother hi]
  have hrep := h.replacement hs hu hother i
  rw [htarget] at hrep
  rcases hs.bindings_alone hu hlive hother hi with ⟨hb, -⟩ | ⟨k, hb, -⟩ | ⟨hb, -⟩ | ⟨k, hb, hk, hkstate⟩ <;> rw [hb]
  · exact hrep
  · exact (h.splitTo hu hother _).trans (by rw [htarget, hf]; rfl)
  · exact hrep
  · have hno := lender_none_iff.1 hf k hk
    rw [hkstate] at hno
    exact nomatch hno

end alone

/-! ## With no uplink left: the records and the messages -/

theorem Fell.peers_moved (h : s.Fell p w) : (w.moved p).peers = s.peers := (ground_moved w p).peers.trans h.peers

theorem Fell.upgraded_iff (h : s.Fell p w) (hu : p = u0 ∨ p = u1) : w.Upgraded p k ↔ s.live (otherUplink p) = false ∧
    w.faultTarget none = none ∧ s.lender .fault = none ∧ k ∈ s.peers ∧ ∃ i ∈ paths, s.homePort i = p ∧ s.binding i = .split k := by
  unfold Upgraded
  rw [h.live_other hu, h.lender, h.peers]
  simp only [h.homePort, h.binding]

theorem Fell.borrow_moved (h : s.Fell p w) (hno : ¬w.Upgraded p k) : (w.moved p).borrow k = s.borrow k :=
  ((emptied_moved w p).borrow k).trans ((borrow_replaced_of_not_upgraded hno).trans (h.borrow k))

theorem Fell.borrow_upgraded (h : s.Fell p w) (hup : w.Upgraded p k) : (w.moved p).borrow k = (s.borrow k).upgraded := by
  rw [(emptied_moved w p).borrow, borrow_replaced_of_upgraded hup, h.borrow]

theorem hasPathToward_moved (w : State) (p k : Nat) : (told w (w.moved p)).hasPathToward k = (w.moved p).hasPathToward k :=
  hasPathToward_told ..

theorem borrow_told_of_record {z : State} (hk : k ∈ z.peers) (h : z.settlePaths = z.cleaned) (b : State) :
    (told b z).borrow k = z.cleared k := by
  rw [borrow_told, h, borrow_cleaned z hk]

theorem cleared_of_path {z : State} (hpath : z.hasPathToward k = true) (hactive : (z.borrow k).state.isActive = true) :
    z.cleared k = z.borrow k := by
  have hne : (z.borrow k).state ≠ .requested .fault := fun hst => by rw [hst] at hactive; exact nomatch hactive
  unfold State.cleared
  rw [hpath, BorrowRecord.freed_of_path, BorrowRecord.abandoned_of_ne hne, ite_self]

theorem cleared_of_no_path {z : State} (hpath : z.hasPathToward k = false) (hactive : (z.borrow k).state.isActive = true) :
    z.cleared k = (z.borrow k).ended := by
  have hfreed : (z.borrow k).freed false = (z.borrow k).ended := by
    rw [BorrowRecord.freed, hactive]; rfl
  unfold State.cleared
  rw [hpath, hfreed, BorrowRecord.abandoned_of_ne (by simp [BorrowRecord.ended]), ite_self]

theorem withdraw_settlePaths {z : State} {r : WithdrawReason} (h : .withdraw k r ∈ z.xc.urgent) : .withdraw k r ∈ z.settlePaths.xc.urgent := by
  have hclean : .withdraw k r ∈ z.cleaned.xc.urgent := (urgent_cleaned z).symm ▸ h
  rw [settlePaths_cleaned]
  by_cases hcall : z.cleaned.callsFault
  · cases hcand : z.cleaned.candidate .fault with
    | none => rwa [faultRequest_of_no_candidate hcand]
    | some j =>
      rw [faultRequest_of_calls hcall hcand]
      exact mem_placeMsg_of_mem hclean fun hkey => by simp [Msg.sameKey, Msg.kind] at hkey
  · rwa [faultRequest_of_not_calls hcall]

/-- With no uplink left every lend ends with a WITHDRAW (R83). -/
theorem Fell.told_lends (h : s.Fell p w) (hu : p = u0 ∨ p = u1) (hother : s.live (otherUplink p) = false) (hk : k ∈ s.peers) :
    (told w (w.moved p)).lend k = none ∧ (s.lend k ≠ none → .withdraw k .noUplink ∈ (told w (w.moved p)).xc.urgent) := by
  have hmoved : w.moved p = (w.replaced p).emptyLends := moved_of_none ((h.anyUplink hu).trans hother) p
  have hmem : k ∈ (w.replaced p).peers := by rw [(ground_replaced w p).peers, h.peers]; exact hk
  refine ⟨?_, fun hlend => ?_⟩
  · rw [lend_told, hmoved]
    exact lend_emptyLends _ hmem
  · rw [urgent_told]
    refine withdraw_settlePaths ?_
    rw [hmoved]
    exact urgent_emptyLends_withdraw hmem (by rw [lend_replaced, h.lend]; exact hlend)

section alone

variable (h : s.Fell p w) (hs : s.Agrees) (hu : p = u0 ∨ p = u1) (hlive : s.live p = true) (hother : s.live (otherUplink p) = false)
include h hs hu hlive hother

theorem Fell.path_upgraded (hup : w.Upgraded p k) : (w.moved p).hasPathToward k = true := by
  obtain ⟨-, -, hno, -, i, hi, -, hb⟩ := (h.upgraded_iff hu).1 hup
  refine hasPathToward_iff.2 ⟨i, hi, ?_⟩
  rw [← binding_told w, h.told_no_lender hs hu hlive hother hno hi, hb]
  rfl

/-- The relief lender of the SPLIT paths becomes the fault lender, by a BORROW(FAULT) (R67, R75). -/
theorem Fell.told_upgraded (hno : s.lender .fault = none) (hi : i ∈ paths) (hb : s.binding i = .split k) :
    (told w (w.moved p)).borrow k = (s.borrow k).upgraded ∧ .borrow k .fault true ∈ (told w (w.moved p)).xc.urgent := by
  obtain ⟨hhome, hk, hstate⟩ : s.homePort i = p ∧ k ∈ s.peers ∧ (s.borrow k).state = .active .relief := by
    rcases hs.bindings_alone hu hlive hother hi with ⟨h1, -⟩ | ⟨j, h1, hrest⟩ | ⟨h1, -⟩ | ⟨j, h1, -⟩
    · exact nomatch hb.symm.trans h1
    · cases hb.symm.trans h1; exact hrest
    · exact nomatch hb.symm.trans h1
    · exact nomatch hb.symm.trans h1
  have hup : w.Upgraded p k := (h.upgraded_iff hu).2 ⟨hother, h.target_of_no_lender hno, hno, hk, i, hi, hhome, hb⟩
  have hborrow := h.borrow_upgraded hup
  have hpath := h.path_upgraded hs hu hlive hother hup
  have hmem : k ∈ (w.moved p).peers := h.peers_moved.symm ▸ hk
  have hsettle : (w.moved p).settlePaths = (w.moved p).cleaned :=
    settlePaths_of_record fun _ => ⟨k, hmem, by rw [hborrow]; rfl, fun _ => hpath⟩
  refine ⟨?_, ?_⟩
  · rw [borrow_told_of_record hmem hsettle, cleared_of_path hpath (by rw [hborrow]; rfl), hborrow]
  · have hany : w.anyUplink = false := (h.anyUplink hu).trans hother
    rw [urgent_told, hsettle, urgent_cleaned, moved_of_none hany]
    have hsent := urgent_replaced hup
    rw [hany] at hsent
    exact urgent_emptyLends_borrow hsent

/-- With no fault borrow and no SPLIT path every path is UNBOUND, and a fault request goes to the candidate (R67, R72). -/
theorem Fell.told_asks (hno : s.lender .fault = none) (hsplit : ∀ i ∈ paths, ∀ k, s.binding i ≠ .split k) :
    (∀ i ∈ paths, (told w (w.moved p)).binding i = .unbound) ∧ ∀ k, (s.setLink p (w.link p)).candidate .fault = some k →
      (told w (w.moved p)).borrow k = (s.borrow k).requested .fault ∧
      .borrow k .fault (told w (w.moved p)).pu.solePath ∈ (told w (w.moved p)).xc.urgent := by
  have hbind : ∀ i ∈ paths, (told w (w.moved p)).binding i = .unbound := fun i hi => by
    rw [h.told_no_lender hs hu hlive hother hno hi]
    cases hb : s.binding i with
    | split k => exact absurd hb (hsplit i hi k)
    | home => rfl
    | replaceUplink => rfl
    | replacePeer k => rfl
    | unbound => rfl
  have hnot : ∀ k, ¬w.Upgraded p k := fun k hup => by
    obtain ⟨-, -, -, -, i, hi, -, hb⟩ := (h.upgraded_iff hu).1 hup
    exact hsplit i hi k hb
  have hun : (w.moved p).hasUnbound = true := hasUnbound_iff.2 ⟨0, by decide, by rw [← binding_told w]; exact hbind 0 (by decide)⟩
  have hrecords : ∀ k ∈ (w.moved p).peers, ((w.moved p).cleared k).state.hasReason .fault = false := fun k hk => by
    have hnone := lender_none_iff.1 hno k (h.peers_moved ▸ hk)
    unfold State.cleared
    rw [if_pos hun, h.borrow_moved (hnot k)]
    unfold BorrowRecord.freed
    split
    · rfl
    · exact hnone
  refine ⟨hbind, fun k hk => ?_⟩
  have hcand : (w.moved p).candidate .fault = some k := by
    rw [← hk]
    exact h.candidate (ground_moved w p) fun j _ => by rw [h.borrow_moved (hnot j)]
  obtain ⟨hborrow, hsent⟩ := asks_of_calls hun hrecords hcand
  refine ⟨?_, ?_⟩
  · rw [borrow_told, hborrow, h.borrow_moved (hnot k)]
  · rw [urgent_told, solePath_told]
    exact hsent

end alone

/-! ## A record left without a path -/

section freed

variable (h : s.Fell p w) (hs : s.Agrees) (hu : p = u0 ∨ p = u1) (hlive : s.live p = true)
include h hs hu hlive

theorem Fell.bound_other (hother : s.live (otherUplink p) = true) : (w.moved p).hasUnbound = false := by
  refine Bool.eq_false_iff.2 fun hun => ?_
  obtain ⟨i, hi, hb⟩ := hasUnbound_iff.1 hun
  rw [← binding_told w, (h.told_other hs hu hother).2 i hi] at hb
  have hne := not_unbound_of_live hs hu hlive hi
  cases hcase : s.binding i with
  | unbound => exact hne hcase
  | home => rw [hcase] at hb; dsimp only at hb; split at hb <;> exact nomatch hb
  | split k => rw [hcase] at hb; dsimp only at hb; split at hb <;> exact nomatch hb
  | replaceUplink => rw [hcase] at hb; dsimp only at hb; split at hb <;> exact nomatch hb
  | replacePeer k => rw [hcase] at hb; exact nomatch hb

omit hlive in
/-- A path toward the peer of an ACTIVE fault borrow stays (R67). -/
theorem Fell.path_fault (hk : k ∈ s.peers) (hstate : (s.borrow k).state = .active .fault) : (w.moved p).hasPathToward k = true := by
  obtain ⟨i, hi, htoward⟩ := hasPathToward_iff.1 (hs.2 k hk (by rw [hstate]; rfl))
  have hok := hs.1.2 i hi
  refine hasPathToward_iff.2 ⟨i, hi, ?_⟩
  rw [← binding_told w, h.told_binding hu hi]
  cases hb : s.binding i with
  | replacePeer j => rw [hb] at htoward; exact htoward
  | split j =>
    rw [hb] at hok htoward
    cases (show some j = some k from htoward)
    exact nomatch hstate.symm.trans hok.2.2.1
  | unbound => rw [hb] at htoward; exact nomatch htoward
  | home => rw [hb] at htoward; exact nomatch htoward
  | replaceUplink => rw [hb] at htoward; exact nomatch htoward

/-- While a record has lost its paths, no fault request is made in the same event (R69, R72). -/
theorem Fell.record_kept (hk : k ∈ s.peers) (hactive : (s.borrow k).state.isActive = true) (hpath : (w.moved p).hasPathToward k = false) :
    (w.moved p).settlePaths = (w.moved p).cleaned := by
  refine settlePaths_of_record fun hun => ?_
  cases hother : s.live (otherUplink p) with
  | true => exact Bool.noConfusion ((h.bound_other hs hu hlive hother).symm.trans hun)
  | false =>
    obtain ⟨r, hstate⟩ : ∃ r, (s.borrow k).state = .active r := by
      cases hst : (s.borrow k).state with
      | active r => exact ⟨r, rfl⟩
      | none => rw [hst] at hactive; exact nomatch hactive
      | requested r => rw [hst] at hactive; exact nomatch hactive
    cases hlender : s.lender .fault with
    | some f =>
      obtain ⟨hf, hreason⟩ := lender_spec hlender
      have hno : ¬w.Upgraded p f := fun hup => nomatch hlender.symm.trans ((h.upgraded_iff hu).1 hup).2.2.1
      refine ⟨f, h.peers_moved.symm ▸ hf, by rw [h.borrow_moved hno]; exact hreason, fun hact => h.path_fault hs hu hf ?_⟩
      rw [h.borrow_moved hno] at hact
      cases hst : (s.borrow f).state with
      | active q => rw [hst] at hreason; exact congrArg _ (by simpa [BorrowState.hasReason] using hreason)
      | none => rw [hst] at hact; exact nomatch hact
      | requested q => rw [hst] at hact; exact nomatch hact
    | none =>
      cases r with
      | fault => exact Bool.noConfusion (hpath.symm.trans (h.path_fault hs hu hk hstate))
      | relief =>
        obtain ⟨i, hi, htoward⟩ := hasPathToward_iff.1 (hs.2 k hk hactive)
        have hb : s.binding i = .split k := by
          rcases hs.bindings_alone hu hlive hother hi with ⟨hb, -⟩ | ⟨j, hb, -⟩ | ⟨hb, -⟩ | ⟨j, hb, -, hj⟩ <;> rw [hb] at htoward ⊢
          · exact nomatch htoward
          · cases (show some j = some k from htoward); rfl
          · exact nomatch htoward
          · cases (show some j = some k from htoward)
            exact nomatch hstate.symm.trans hj
        refine Bool.noConfusion (hpath.symm.trans (hasPathToward_iff.2 ⟨i, hi, ?_⟩))
        rw [← binding_told w, h.told_no_lender hs hu hlive hother hlender hi, hb]
        rfl

/-- A record left without a path is NONE, and a RETURN goes to its peer (R69). -/
theorem Fell.told_freed (hk : k ∈ s.peers) (hactive : (s.borrow k).state.isActive = true)
    (hpath : (told w (w.moved p)).hasPathToward k = false) :
    (told w (w.moved p)).borrow k = { s.borrow k with state := .none, timer := 0, upgrade := false } ∧
      .ret k ∈ (told w (w.moved p)).xc.normal := by
  rw [hasPathToward_moved] at hpath
  have hmem : k ∈ (w.moved p).peers := h.peers_moved.symm ▸ hk
  have hsettle := h.record_kept hs hu hlive hk hactive hpath
  have hno : ¬w.Upgraded p k := fun hup =>
    Bool.noConfusion (hpath.symm.trans (h.path_upgraded hs hu hlive ((h.upgraded_iff hu).1 hup).1 hup))
  have hborrow := h.borrow_moved hno
  have hact : ((w.moved p).borrow k).state.isActive = true := hborrow.symm ▸ hactive
  obtain ⟨hpeer, hcross⟩ := reaches_live.1 (hs.1.1.reach k hk fun hn => by rw [hn] at hactive; exact nomatch hactive)
  refine ⟨?_, waits_told (hsettle.symm ▸ ret_waits_cleaned hmem hact hpath ?_ ?_) w⟩
  · rw [borrow_told_of_record hmem hsettle, cleared_of_no_path hpath hact, hborrow]
    rfl
  · rw [(ground_moved w p).peerLive, h.peerLive]; exact hpeer
  · rw [(ground_moved w p).crossLive, h.crossLive hu]; exact hcross

end freed

end State

end Sys2Proof.Machine
end

section
/-! The fault of a cross port (R72, R77), and what a fault does at every block (R56, R59). -/

namespace Sys2Proof.Machine

open Sys2Proof.Config

namespace State

variable {s w y : State} {p i j k : Nat}

/-! ## The peer behind a failed cross port -/

/-- The peer behind a cross port, and the port to it. -/
theorem peerOfPort_spec (hst : s.il.station ≤ 3) (hp : 18 ≤ p ∧ p < 21) :
    s.peerOfPort p ∈ s.peers ∧ s.crossPort (s.peerOfPort p) = p ∧ s.peerOfPort p < destAll := by
  unfold State.peerOfPort State.crossPort State.peers
  generalize s.il.station = n at hst
  obtain ⟨hlow, hhigh⟩ := hp
  interval_cases n <;> interval_cases p <;> decide

/-- w is s with cross port p failed, and k is the peer behind it. -/
structure Cut (s : State) (p k : Nat) (w : State) : Prop extends s.Fell p w where
  agrees : s.Agrees
  cross : 18 ≤ p
  peer : k ∈ s.peers
  out : w.inReach k = false
  dest : k < destAll

theorem Fell.cut (h : s.Fell p w) (hs : s.Agrees) (hst : s.il.station ≤ 3) (hp : 18 ≤ p ∧ p < 21) : s.Cut p (s.peerOfPort p) w := by
  obtain ⟨hmem, hport, hdest⟩ := peerOfPort_spec hst hp
  refine { h with agrees := hs, cross := hp.1, peer := hmem, out := ?_, dest := hdest }
  have hdead : w.crossLive (s.peerOfPort p) = false := by
    unfold State.crossLive State.crossPort at *
    rw [h.il, hport]
    exact h.dead
  unfold State.inReach
  rw [hdead, Bool.and_false]

/-- A path bound toward a peer stands on an ACTIVE record, and with a relief borrow its home uplink is live (R64, R65). -/
theorem bound_toward (hs : s.Agrees) (hi : i ∈ paths) (h : (s.binding i).toward = some k) :
    ∃ r, (s.borrow k).state = .active r ∧ (r = .relief → s.live (s.homePort i) = true) := by
  have hok := hs.1.2 i hi
  cases hb : s.binding i with
  | replacePeer j =>
    rw [hb] at hok h
    cases (show some j = some k from h)
    exact ⟨.fault, hok.2.2, nofun⟩
  | split j =>
    rw [hb] at hok h
    cases (show some j = some k from h)
    exact ⟨.relief, hok.2.2.1, fun _ => hok.2.2.2⟩
  | unbound => rw [hb] at h; exact nomatch h
  | home => rw [hb] at h; exact nomatch h
  | replaceUplink => rw [hb] at h; exact nomatch h

namespace Cut

variable (h : s.Cut p k w)
include h

theorem live_uplink {q : Nat} (hq : q = u0 ∨ q = u1) : w.live q = s.live q :=
  h.toFell.live_ne fun hp => by
    have hle := h.cross
    rw [← hp] at hle
    rcases hq with rfl | rfl <;> exact absurd hle (by decide)

theorem ended : ((w.pathsPeerLost k).borrow k).state = .none ∧ (w.pathsPeerLost k).lend k = none :=
  Ended.pathsPeerLost (h.toFell.peers.symm ▸ h.peer) h.out (.inl rfl)

theorem lend_ne (hj : j ≠ k) : (w.pathsPeerLost k).lend j = s.lend j :=
  ((lend_reportPaths ..).trans ((rerecorded_settlePaths _).lend j)).trans
    ((lend_endArrangements ..).trans ((if_neg hj).trans (h.toFell.lend j)))

theorem news {m : Msg} (hm : m ∈ (w.pathsPeerLost k).xc.urgent ++ (w.pathsPeerLost k).xc.normal) :
    m ∈ s.xc.urgent ++ s.xc.normal ∨ m.dest ≠ k := by
  have hnews := NoNews.pathsPeerLost h.out h.dest k m hm
  unfold State.waiting at hnews
  rwa [h.toFell.xc] at hnews

/-- The paths toward the lost peer are re-placed (R66, R77). -/
theorem binding (hi : i ∈ paths) : (w.pathsPeerLost k).binding i = if (s.binding i).toward ≠ some k then s.binding i
    else if s.live (s.homePort i) = true then .home
    else if s.live (otherUplink (s.homePort i)) = true then .replaceUplink else .unbound := by
  have hhome := homePort_cases h.agrees.1.1.homes i
  have hother : otherUplink (s.homePort i) = u0 ∨ otherUplink (s.homePort i) = u1 := by
    rcases hhome with hi | hi <;> rw [hi]
    · exact .inr rfl
    · exact .inl rfl
  have hread : (w.pathsPeerLost k).binding i = if (s.borrow k).state.isActive = true ∧ (s.binding i).toward = some k
      then w.replacement (some k) i else s.binding i := by
    refine (binding_settled ..).trans ((binding_endArrangements w k hi).trans ?_)
    rw [h.toFell.borrow, h.toFell.binding]
  rw [hread]
  by_cases htoward : (s.binding i).toward = some k
  · rw [if_neg (not_not.2 htoward)]
    obtain ⟨r, hstate, hlive⟩ := bound_toward h.agrees hi htoward
    have hw : w.homePort i = s.homePort i := h.toFell.homePort i
    rw [if_pos ⟨by rw [hstate]; rfl, htoward⟩]
    cases hl : s.live (s.homePort i) with
    | true =>
      rw [if_pos rfl]
      exact replacement_of_home _ (by rw [hw, h.live_uplink hhome, hl])
    | false =>
      have hdead : w.live (w.homePort i) = false := by rw [hw, h.live_uplink hhome, hl]
      rw [if_neg nofun]
      cases ho : s.live (otherUplink (s.homePort i)) with
      | true =>
        rw [if_pos rfl]
        exact replacement_of_other _ hdead (by rw [hw, h.live_uplink hother, ho])
      | false =>
        rw [if_neg nofun]
        rcases replacement_of_dead (some k) hdead (by rw [hw, h.live_uplink hother, ho]) with ⟨f, hf, -⟩ | ⟨-, hr⟩
        · obtain ⟨hmem, hfstate, -, hne⟩ := faultTarget_spec hf
          rw [h.toFell.borrow] at hfstate
          rw [h.toFell.peers] at hmem
          have hr : r = .fault := by
            cases r with
            | fault => rfl
            | relief => exact Bool.noConfusion (hl.symm.trans (hlive rfl))
          rw [hr] at hstate
          exact absurd (congrArg some (h.agrees.1.1.one k h.peer f hmem .fault (by rw [hstate]; rfl) (by rw [hfstate]; rfl))) hne
        · exact hr
  · rw [if_neg fun hc => htoward hc.2, if_pos htoward]

/-- The fault request that follows where a path is left UNBOUND (R72). -/
theorem asks (hun : (w.pathsPeerLost k).hasUnbound = true) (hno : ∀ f, s.lender .fault = some f → f = k)
    (hj : (s.setLink p (w.link p)).candidate .fault = some j) :
    (w.pathsPeerLost k).borrow j = (s.borrow j).requested .fault ∧
      .borrow j .fault (w.pathsPeerLost k).pu.solePath ∈ (w.pathsPeerLost k).xc.urgent := by
  have hend := ground_endArrangements w k
  have hborrow : ∀ i, (w.endArrangements k).borrow i = if i = k then (s.borrow k).ended else s.borrow i := fun i => by
    rw [borrow_endArrangements, h.toFell.borrow, h.toFell.borrow]
  have hrequested : ∀ i r, ((w.endArrangements k).borrow i).requested r = (s.borrow i).requested r := fun i r => by
    rw [hborrow]
    split
    · next hik => rw [hik]; rfl
    · rfl
  have hsole : (w.pathsPeerLost k).pu.solePath = (w.endArrangements k).pu.solePath := by
    unfold State.pathsPeerLost
    rw [pu_settled]
  have hunbound : (w.endArrangements k).hasUnbound = true := by
    rw [← hun]
    exact (hasUnbound_congr fun i _ => binding_settled w _ i).symm
  have hrecords : ∀ i ∈ (w.endArrangements k).peers, ((w.endArrangements k).cleared i).state.hasReason .fault = false := fun i hi => by
    have hnone : ((w.endArrangements k).borrow i).state.hasReason .fault = false := by
      rw [hborrow]
      split
      · rfl
      · next hik =>
        rw [hend.1.peers, h.toFell.peers] at hi
        refine Bool.eq_false_iff.2 fun hreason => hik ?_
        cases hlender : s.lender .fault with
        | none =>
          have hf := lender_none_iff.1 hlender i hi
          exact Bool.noConfusion (hf.symm.trans hreason)
        | some f =>
          obtain ⟨hf, hfreason⟩ := lender_spec hlender
          rw [← hno f hlender]
          exact h.agrees.1.1.one i hi f hf .fault hreason hfreason
    unfold State.cleared BorrowRecord.freed
    rw [if_pos hunbound]
    split
    · rfl
    · exact hnone
  have hcand : (w.endArrangements k).candidate .fault = some j := by
    rw [← hj]
    refine h.toFell.candidate hend.1 fun i _ => ?_
    rw [hborrow]
    split
    · next hik => rw [hik]; rfl
    · rfl
  obtain ⟨hasked, hsent⟩ := asks_of_calls hunbound hrecords hcand
  refine ⟨(borrow_reportPaths ..).trans (hasked.trans (hrequested j .fault)), ?_⟩
  rw [hsole]
  unfold State.pathsPeerLost
  rw [urgent_reportPaths]
  exact hsent

end Cut

/-- All SPLIT paths go to the one relief lender (R64, R70). -/
theorem split_one (hs : s.Agrees) (hi : i ∈ paths) (hj : j ∈ paths) {l : Nat} (hb : s.binding i = .split l) (hbj : s.binding j = .split k) :
    l = k := by
  have hok := hs.1.2 i hi
  have hokj := hs.1.2 j hj
  rw [hb] at hok
  rw [hbj] at hokj
  obtain ⟨hl, -, hstate, -⟩ := hok
  obtain ⟨hk, -, hstatej, -⟩ := hokj
  exact hs.1.1.one l hl k hk .relief (by rw [hstate]; rfl) (by rw [hstatej]; rfl)

/-! ## The blocks that take the report -/

theorem linkFault_of_uplink (y : State) (hkind : portKind p = .uplink) :
    y.linkFault p = told (y.failed p) ((y.failed p).moved p) := by
  rw [linkFault_failed, faultReports_of_uplink hkind, pathsUplinkFault_moved]
  rfl

theorem Failing.tab (h : s.Failing p y) (hp : 16 ≤ p) : (y.linkFault p).tab = s.tab := by
  have htab : (y.failed p).tab = s.tab := by rw [failed_only, h.only]
  rw [linkFault_failed]
  rcases portKind_cases p with ⟨hkind, hlow⟩ | ⟨hkind, -⟩ | ⟨hkind, -⟩
  · omega
  · rw [faultReports_of_uplink hkind]; simp [htab]
  · rw [faultReports_of_cross hkind]; simp [htab]

theorem uplink_of_portKind (hkind : portKind p = .uplink) : p = u0 ∨ p = u1 := by
  rcases portKind_cases p with ⟨h, -⟩ | ⟨-, hp⟩ | ⟨h, -⟩
  · exact nomatch hkind.symm.trans h
  · unfold u0 u1; omega
  · exact nomatch hkind.symm.trans h

end State

/-- Settles O14: the port and its copies, and by the kind of the port the addresses, the paths of a failed uplink or the arrangements
with the peer behind a failed cross port. -/
theorem faultEffects : Obligations.FaultEffects := by
  unfold Obligations.FaultEffects
  intro s p c hc
  obtain ⟨y, hy, hrun⟩ := State.exists_failing hc
  obtain ⟨hflaps, hlatch, hgood, hstages, hstate, hlinks⟩ := hy.link_failed
  obtain ⟨htx, hqueues⟩ := State.quiet_linkFault y p
  obtain ⟨hframes, hlosses⟩ := hy.discards.spec
  have hfell := hy.fell
  have hlink : (y.linkFault p).link p = (y.failed p).link p := by rw [State.linkFault_failed]; exact State.link_congr (by simp) p
  refine ⟨y.linkFault p, hrun, hflaps, hlatch, hgood, hstages, hstate, hlinks, htx, hqueues, hy.intake, ⟨hframes, hlosses⟩, hy.access, hy.tab,
    fun hs => ?_⟩
  obtain ⟨hst, -, -, hagrees, -⟩ := State.pathsSound_iff.1 hs
  have huplink : portKind p = .uplink → y.linkFault p = State.told (y.failed p) ((y.failed p).moved p) :=
    State.linkFault_of_uplink y
  have hcross : portKind p = .cross → y.linkFault p = (y.failed p).pathsPeerLost (s.peerOfPort p) := fun hkind => by
    rw [State.linkFault_failed, State.faultReports_of_cross hkind]
    unfold State.peerOfPort
    rw [hfell.il]
  generalize y.linkFault p = t at hlink huplink hcross ⊢
  generalize y.failed p = w at hfell hlink huplink hcross
  intro other free asks z
  have hz : z = s.setLink p (w.link p) := by rw [← hlink]
  refine ⟨fun hkind => ?_, fun hkind => ?_⟩
  · have hu := State.uplink_of_portKind hkind
    have ht := huplink hkind
    subst ht
    obtain ⟨hsole, hoffer, hlevel⟩ := hfell.told_shown hu
    refine ⟨hsole, hoffer, hlevel, fun k hk hactive hpath => hfell.told_freed hagrees hu hy.live hk hactive hpath,
      hfell.told_other hagrees hu, fun hother => ⟨fun k hk => hfell.told_lends hu hother hk, ?_, ?_, ?_, ?_⟩⟩
    · exact fun f hf hstate hup i hi => hfell.told_ready hagrees hu hy.live hother hf hstate hup hi
    · exact fun f hf hnot i hi => hfell.told_not_ready hagrees hu hy.live hother hf hnot hi
    · rintro k hno ⟨i, hi, hb⟩
      obtain ⟨hborrow, hsent⟩ := hfell.told_upgraded hagrees hu hy.live hother hno hi hb
      refine ⟨hborrow, hsent, fun j hj => ?_⟩
      rw [hfell.told_no_lender hagrees hu hy.live hother hno hj]
      cases hbj : s.binding j with
      | split l => rw [State.split_one hagrees hj hi hbj hb]; exact (if_pos rfl).symm
      | home => exact (if_neg nofun).symm
      | replaceUplink => exact (if_neg nofun).symm
      | replacePeer l => exact (if_neg nofun).symm
      | unbound => exact (if_neg nofun).symm
    · intro hno hsplit
      rw [hz]
      exact hfell.told_asks hagrees hu hy.live hother hno hsplit
  · have ht := hcross hkind
    subst ht
    have hcut := hfell.cut hagrees hst ⟨portKind_cross_iff.1 hkind, p.isLt⟩
    rw [hz]
    exact ⟨hcut.ended.1, hcut.ended.2, fun j hj => hcut.lend_ne hj, fun m hm => hcut.news hm, fun i hi => hcut.binding hi,
      fun hun hno j hj => hcut.asks hun hno hj⟩

end Sys2Proof.Machine
end
